-- ==== Sys2Proof/Word.lean ====
section
/-! DEFINITION. The words of the node: the fixed-width numbers the manual treats as bits or counts
around a circle, and the bounded indexes. Quantities the manual computes with exactly (positions,
velocities, speeds, counts) are `Nat` and `Int`. -/

namespace Sys2Proof

/-- One byte of a payload or of the configuration image. -/
abbrev Byte := BitVec 8

/-- A motion tick number: 32 bits, counting modulo 2^32 (R77). -/
abbrev Tick := BitVec 32

/-- A block number: 16 bits, compared around the circle (1.5, R57). -/
abbrev BlockNo := BitVec 16

/-- A node number, 0 to 15 (1.5). -/
abbrev NodeNo := Fin 16

/-- The phase within a tick, 0 to 999 µs (R77). -/
abbrev Phase := Fin 1000

/-- The set of conditions 0 to 29; bit n is condition n (1.4, R54). -/
abbrev CondSet := BitVec 30

end Sys2Proof
end

