-- ==== Sys2Proof/Syntax.lean ====
section
/-! DEFINITION. The commands of the node: one constructor of `Instr` for each row of
spec/opcode_table.json, with the operands that the row's event brings from outside (a frame's
fields as they stand on the line, the levels of the pins, a channel, a direction). The table gives
its rows no operand fields, so the operands are those the rules name (assumption log 2). The
frames' fields are raw, as R186 lays them out: what a code means, and what a code outside its list
does, is settled by the machine. -/

namespace Sys2Proof

/-! ### Names the operands use -/

/-- The machine's mode and the positions of the mode selector (1.5, R163). -/
inductive Mode where
  | manual | auto | setup
  deriving DecidableEq, Repr

/-- The two axis channels (1.2). -/
inductive Chan where
  | ax0 | ax1
  deriving DecidableEq, Repr

/-- The two limit inputs of a channel (R113). -/
inductive Side where
  | plus | minus
  deriving DecidableEq, Repr

/-- The two shifter forks (R138). -/
inductive Shifter where
  | a | b
  deriving DecidableEq, Repr

/-- The two positions of a shifter (R138). -/
inductive ForkPos where
  | p1 | p2
  deriving DecidableEq, Repr

/-- The handwheel increments (R163). -/
inductive Increment where
  | x1 | x10 | x100
  deriving DecidableEq, Repr

/-- The positions of the enabling switch (R163). -/
inductive EnablePos where
  | released | middle | pressedThrough
  deriving DecidableEq, Repr

/-- The seven buttons of the pendant (1.6). -/
inductive Button where
  | cycleStart | feedHold | spindleStart | spindleStop | coolant | reset | ref
  deriving DecidableEq, Repr

/-- Where a form error is found: in the length field or at the end of the check (R3). -/
inductive FormPlace where
  | lengthField | endOfCheck
  deriving DecidableEq, Repr

/-- A point of the node's own time: tick number and phase (R10). -/
structure Moment where
  tick  : Tick
  phase : Phase
  deriving DecidableEq, Repr

/-- The stamp a stamped frame carries in its header (R185): the phase field has ten bits. -/
structure Stamp where
  tick  : BitVec 16
  phase : BitVec 10
  deriving DecidableEq, Repr

/-- What the line controller knows of a complete frame besides its payload (R4, R9, R10): the sender in
the header, whether this node itself sent it, the quiet count just before its start bit, the node's own
capture of that bit, the node's phase at the end of the objection slot, whether the last sync bit of the
check was driven, and whether other nodes drove the busy bit and the error bit: of an accepted frame they
drove neither. -/
structure Rx where
  sender     : NodeNo
  own        : Bool
  lead       : Fin 256
  capture    : Moment
  phase      : Phase
  syncDriven : Bool
  busyBit    : Bool
  errorBit   : Bool
  deriving DecidableEq, Repr

/-- What the line controller knows of a frame that it breaks off or does not accept (R4, R10, R30): the quiet
count just before its start bit, how many bit times in a row it has sampled released at the end of what the
event takes in, and the node's phase there. An error partway takes in the bits up to the error, where no level
stands for more than 10 bit times (R2); an error or an objection at the end of the check takes in the
objection slot. -/
structure Trail where
  lead     : Fin 256
  released : Fin 11
  phase    : Phase
  deriving DecidableEq, Repr

/-- The operand that a row written without one stands for: a frame behind a quiet line, its last bit driven. -/
def Trail.driven : Trail := { lead := 255, released := 0, phase := 0 }

/-! ### The levels of the input pins (1.6) -/

/-- The inputs of one axis channel (1.6). -/
structure AxisPins where
  ready     : Bool
  fault     : Bool
  limPlus   : Bool
  limMinus  : Bool
  refSwitch : Bool
  clamped   : Bool
  unclamped : Bool
  deriving DecidableEq, Repr

/-- The four shifter sensors (1.6). -/
structure ShifterPins where
  a1 : Bool
  a2 : Bool
  b1 : Bool
  b2 : Bool
  deriving DecidableEq, Repr

/-- One level for each button. -/
structure Buttons where
  cycleStart   : Bool
  feedHold     : Bool
  spindleStart : Bool
  spindleStop  : Bool
  coolant      : Bool
  reset        : Bool
  ref          : Bool
  deriving DecidableEq, Repr

/-- The pendant's inputs (1.6): a selector that names no position reads `none` (R163). -/
structure PendantPins where
  mode        : Option Mode
  axisSel     : Option (Fin 8)
  increment   : Option Increment
  enable      : EnablePos
  buttons     : Buttons
  feedKnob    : BitVec 12
  spindleKnob : BitVec 12
  deriving DecidableEq, Repr

/-- Every sampled input pin of the node (1.6). The quadrature inputs, the encoder mark and the line
come as events of their own. -/
structure Pins where
  chainOpen : Bool
  ax0       : AxisPins
  ax1       : AxisPins
  feedback  : BitVec 16
  shifter   : ShifterPins
  flow      : Bool
  pressure  : BitVec 12
  tankLow   : Bool
  pendant   : PendantPins
  deriving DecidableEq, Repr

/-- A reading of the pendant and the value it takes (R163). -/
inductive ControlReading where
  | mode (m : Mode)
  | axisSel (p : Fin 8)
  | increment (i : Increment)
  | enable (e : EnablePos)
  | button (b : Button) (down : Bool)
  deriving DecidableEq, Repr

/-! ### Frames -/

/-- The twenty frame kinds (1.3). -/
inductive Kind where
  | stopall | hold | go | ready | resume | override | pace | block | flush | offset
  | jog | panel | spindle | coolant | reference | faultclr | restart | announce | state | fault
  deriving DecidableEq, Repr

/-- One component of a BLOCK payload: axis number and program target (R186). -/
structure RawComp where
  axis   : Byte
  target : BitVec 32
  deriving DecidableEq, Repr

/-- The BLOCK payload (R186). -/
structure BlockBody where
  num      : BlockNo
  frameSel : Byte
  flags    : Byte
  len      : BitVec 32
  feed     : BitVec 32
  acc      : BitVec 32
  junction : BitVec 32
  dwell    : BitVec 16
  gear     : Byte
  speed    : BitVec 16
  count    : Byte
  comps    : List RawComp
  deriving DecidableEq, Repr

/-- The OFFSET payload (R186). -/
structure OffsetBody where
  axis    : Byte
  frameNo : Byte
  offset  : BitVec 32
  flags   : Byte
  winLow  : BitVec 32
  winHigh : BitVec 32
  deriving DecidableEq, Repr

/-- The ANNOUNCE payload (R186). -/
structure AnnounceBody where
  ax0   : Byte
  ax1   : Byte
  funcs : Byte
  tag   : BitVec 16
  cause : Byte
  join  : Byte
  deriving DecidableEq, Repr

/-- The PANEL payload, and the panel part of STATE (R186). -/
structure PanelBody where
  mode   : Byte
  enable : Byte
  axis   : Byte
  deriving DecidableEq, Repr

/-- The STATE payload (R186); the panel part is present in length 24 only. -/
structure StateBody where
  mode    : Byte
  flags   : Byte
  conds   : BitVec 32
  running : BlockNo
  last    : BlockNo
  depth   : Byte
  gearbox : Byte
  rpm     : BitVec 16
  flood   : Byte
  tsc     : Byte
  air     : Byte
  line    : Byte
  tally   : BitVec 16
  lastErr : Byte
  panel   : Option PanelBody
  deriving DecidableEq, Repr

/-- The FAULT payload (R186). -/
structure FaultBody where
  cond     : Byte
  cls      : Byte
  tick     : BitVec 32
  flags    : Byte
  running  : BlockNo
  detail   : Byte
  counts   : List Byte
  overflow : BitVec 32
  deriving DecidableEq, Repr

/-- A frame's payload with its fields as R186 lays them out. -/
inductive Payload where
  | stopall
  | hold
  | go (n : BlockNo)
  | ready (n : BlockNo) (verdict arg : Byte)
  | resume
  | override (form value : Byte)
  | pace (flags : Byte) (running : BlockNo) (elapsed : BitVec 16)
  | block (b : BlockBody)
  | flush (flags : Byte) (expected : BlockNo)
  | offset (b : OffsetBody)
  | jog (axis increment detents toggle : Byte)
  | panel (b : PanelBody)
  | spindle (form : Byte) (speed : BitVec 16) (dir value : Byte)
  | coolant (flood tsc air : Byte)
  | reference (axis : Byte)
  | faultclr
  | restart (target serial : Byte)
  | announce (b : AnnounceBody)
  | state (b : StateBody)
  | fault (b : FaultBody)
  deriving DecidableEq, Repr

/-! ### The commands -/

/-- The commands, one constructor per row of spec/opcode_table.json, in the table's order. A frame
row is the frame's complete arrival at the node, sent by a peer or by the node itself. -/
inductive Instr where
  -- resets and loading
  | powerOn
  | resetPin
  | resetRelease (nodeStraps : BitVec 4) (rateStrap : Bool)
  | imageReadDone (bytes : List Byte) (inputs : Pins)
  -- the tick and what happens at ticks
  | motionTick (inputs : Pins)
  | blockStart
  | dwellEnd
  | statePeriod
  -- the line
  | attemptStart (phase : Phase)
  | contentionLoss
  | bitError (released : Fin 11 := 0)
  | syncError (trail : Trail := .driven)
  | formError (place : FormPlace) (trail : Trail := .driven)
  | checkError (trail : Trail := .driven)
  | refusedBusy
  | failure
  | recoveryTimerExpiry
  | quietCountJoin
  -- frames and their applications
  | stopall (rx : Rx)
  | stopDecelerationEnd
  | disablePoint (c : Chan)
  | hold (rx : Rx) (stamp : Stamp)
  | holdApply
  | resume (rx : Rx) (stamp : Stamp)
  | resumeApply
  | go (rx : Rx) (stamp : Stamp) (num : BlockNo)
  | goApply
  | ready (rx : Rx) (num : BlockNo) (verdict arg : Byte)
  | headWaitExpiry
  | block (rx : Rx) (b : BlockBody)
  | flush (rx : Rx) (flags : Byte) (expected : BlockNo)
  | override (rx : Rx) (stamp : Stamp) (form value : Byte)
  | overrideApply
  | pace (rx : Rx) (stamp : Stamp) (flags : Byte) (running : BlockNo) (elapsed : BitVec 16)
  | paceApply
  | offset (rx : Rx) (b : OffsetBody)
  | jog (rx : Rx) (axis increment detents toggle : Byte)
  | panel (rx : Rx) (b : PanelBody)
  | modeAdoptionAtRest
  | spindle (rx : Rx) (form : Byte) (speed : BitVec 16) (dir value : Byte)
  | coolant (rx : Rx) (flood tsc air : Byte)
  | reference (rx : Rx) (axis : Byte)
  | faultclr (rx : Rx)
  | restart (rx : Rx) (target serial : Byte)
  | announce (rx : Rx) (b : AnnounceBody)
  | state (rx : Rx) (b : StateBody)
  | fault (rx : Rx) (b : FaultBody)
  | silenceTimeout (peer : NodeNo)
  -- axis channels
  | moverArrive (c : Chan)
  | moverAtRest (c : Chan)
  | followingRunLimit (c : Chan)
  | saturationRunLimit (c : Chan)
  | driveFaultInput (c : Chan)
  | driveReadyOn (c : Chan)
  | driveReadyOff (c : Chan)
  | driveTimerExpiry (c : Chan)
  | limitActive (c : Chan) (side : Side)
  | limitInactive (c : Chan) (side : Side)
  | unclampConfirmed (c : Chan)
  | clampConfirmed (c : Chan)
  | unclampTimeout (c : Chan)
  | clampTimeout (c : Chan)
  | referenceSwitchActive (c : Chan)
  | markEdge (c : Chan)
  | encoderEdge (c : Chan) (up : Bool)
  -- spindle and gearbox
  | spindleAtRest
  | atSpeed
  | spindleFaultRun
  | spindleStopTimerExpiry
  | sgAct
  | shifterSensorChange (sh : Shifter) (pos : ForkPos) (level : Bool)
  | shiftTimeout
  | neutralTimeout
  | nudgeReverse
  -- coolant
  | clAct
  | flowSwitchOn
  | flowSwitchOff
  | floodTimerExpiry
  | tankLowActive
  | tankLowInactive
  | tscStartTimeout
  | tscDegraded
  | bleedTimerExpiry
  | lossRunLimit
  -- stop chain
  | stopChainOpen
  | stopChainClosed
  -- pendant
  | handwheelEdge (up : Bool)
  | enablingSwitchRelease (pressedThrough : Bool)
  | controlDebounce (r : ControlReading)
  | cycleStart
  | feedHold
  | resetButton
  | refButton
  | spindleStart
  | spindleStop
  | coolantButton
  -- supply and refused frames
  | supplyBelowThreshold
  | frameNotAccepted (trail : Trail := .driven)
  deriving DecidableEq, Repr

end Sys2Proof
end

