-- ==== Sys2Proof/Decode.lean ====
section
/-! DEFINITION. The command a word spells. The opcode table gives no row any bits: a command of this block
is a frame's complete arrival, an edge or level of a pin, or a timer's end, and none of them is a word
that the block decodes. So no word spells a command (assumption log 13). -/

namespace Sys2Proof

/-- The command that a word spells by the table's bits: none, since no row of the table has bits. -/
def decodeTableWord (_nbits _w : Nat) : Option Instr := none

end Sys2Proof
end

