-- ==== Sys2Proof/Config.lean ====
section
/-! DEFINITION. What the manual, or a row of the table, leaves open: free values with no body, so
that nothing can be proved of them. -/

namespace Sys2Proof

/-- The commanded position after a motion of the local mover, or after the load of the encoder
count at a mark, whose exact result lies outside the signed 32 bits of a position (1.5 gives
positions 32 bits and states no result there). FREE VALUE, assumption log 3. -/
opaque Config.positionBeyondRange : Int → BitVec 32

end Sys2Proof
end

