-- ==== Sys2Proof/Machine/Arith.lean ====
section
/-! DEFINITION. The integer arithmetic of 1.5: quotients rounded down, truncated, rounded or rounded
up, values clamped to a range, and the comparisons around the circles of tick numbers (R77) and block
numbers (R57). -/

namespace Sys2Proof.Machine

/-- Quotient rounded toward minus infinity, for a positive divisor (1.5). -/
def floorDiv (a b : Int) : Int := Int.fdiv a b

/-- Quotient truncated toward zero (1.5). -/
def truncDiv (a b : Int) : Int := Int.tdiv a b

/-- Quotient rounded to the nearest integer, halves away from zero, for a positive divisor (1.5). -/
def roundDiv (a b : Int) : Int :=
  if 0 ≤ a then (2 * a + b) / (2 * b) else -((2 * (-a) + b) / (2 * b))

/-- Quotient rounded up, for a positive divisor (R118). -/
def ceilDiv (a b : Int) : Int := -(Int.fdiv (-a) b)

/-- A value clamped to a range: the nearer end when it lies outside (1.5). -/
def clampInt (lo hi x : Int) : Int := if x < lo then lo else if hi < x then hi else x

/-- A value clamped to a range of natural numbers (1.5). -/
def clampNat (lo hi x : Nat) : Nat := if x < lo then lo else if hi < x then hi else x

/-- The ends of the signed 32-bit range of a position (1.5). -/
def posMin : Int := -2147483648

/-- The upper end of the signed 32-bit range of a position (1.5). -/
def posMax : Int := 2147483647

/-- A value clamped to the signed 32-bit range (R101). -/
def clamp32 (x : Int) : Int := clampInt posMin posMax x

/-- A commanded position: the exact value where it is a signed 32-bit number, and the free value
otherwise (assumption log 3). -/
def position (x : Int) : Int :=
  if posMin ≤ x ∧ x ≤ posMax then x else (Config.positionBeyondRange x).toInt

/-- A signed 48-bit count wraps at its ends (R101). -/
def wrap48 (x : Int) : Int := (BitVec.ofInt 48 x).toInt

/-- A value that stops at a limit instead of rising past it (1.5). -/
def satAdd (limit a b : Nat) : Nat := if limit ≤ a + b then limit else a + b

/-- One tick number is later than another when their difference lies in 1 to 2^31 − 1 (R77). -/
def later (a b : Tick) : Bool := 0 < (a - b).toNat && (a - b).toNat < 2147483648

/-- The later of two tick numbers (R71). -/
def laterOf (a b : Tick) : Tick := if later a b then a else b

/-- Block number b is ahead of a when (b − a) modulo 65,536 lies in 1 to 32,767 (R57). -/
def ahead (b a : BlockNo) : Bool := 0 < (b - a).toNat && (b - a).toNat ≤ 32767

/-- A point of time as one count of microseconds, tick number × 1000 + phase (R95, R98). -/
def momentMicros (m : Moment) : Int := (m.tick.toNat : Int) * 1000 + (m.phase.val : Int)

/-- The phase that is a number of microseconds modulo 1000. -/
def phaseOf (x : Int) : Phase := ⟨(x % 1000).toNat % 1000, Nat.mod_lt _ (by decide)⟩

/-- The point of time a count of microseconds stands for, the tick number modulo 2^32 (R98). -/
def momentOfMicros (x : Int) : Moment :=
  { tick := BitVec.ofInt 32 (floorDiv x 1000), phase := phaseOf x }

/-- A stamp phase of 1000 to 1023 is taken as 999 (R185). -/
def stampPhase (s : Stamp) : Nat := if 999 < s.phase.toNat then 999 else s.phase.toNat

/-- The full stamp tick: the tick number equal to the stamp tick modulo 65,536 that lies nearest the
capture's, the earlier of two equally near (R78). -/
def fullStampTick (stamp : BitVec 16) (capture : Tick) : Tick :=
  capture + (stamp - capture.setWidth 16).signExtend 32

/-- The skew of a stamped frame in microseconds: own capture less stamp, reduced modulo 65,536,000
into −32,768,000 to +32,767,999 (R95). -/
def skewOf (capture : Moment) (s : Stamp) : Int :=
  let d := ((capture.tick.toNat % 65536 : Nat) : Int) * 1000 + (capture.phase.val : Int)
    - ((s.tick.toNat : Int) * 1000 + (stampPhase s : Int))
  (d + 32768000) % 65536000 - 32768000

end Sys2Proof.Machine
end

