-- ==== Sys2Proof/Machine/State.lean ====
section
/-! DEFINITION. The state of the node as plain data: every piece of state the chapters give the ten
units, the parameters taken from the configuration image, the input pins as last sampled, and the
queue of waiting commands. -/

namespace Sys2Proof.Machine

/-! ### Names -/

/-- The thirty conditions of 1.4, in the order of their numbers. -/
inductive Cond where
  | stopInput | followError | hardLimit | driveFault | gearLost | compParity | imageBad | ownerClash
  | nodeClash | machineMismatch | peerLost | peerRejoined | syncSlip | coolantLost | driveSaturated
  | spindleFault | sequenceGap | modeSwitch | gearFault | startStall | blockRefused | lineWarn
  | coolantDegraded | speedLimited | jogOverrun | gearRetry | refFailed | txqOverflow
  | unexpectedNode | tankLow
  deriving DecidableEq, Repr

/-- The classes of conditions, most severe first (1.4). -/
inductive CondClass where
  | stop | hold | warn
  deriving DecidableEq, Repr

/-- The line states (R18). -/
inductive LineState where
  | joining | active | quiet | off
  deriving DecidableEq, Repr

/-- The last error codes (R21). -/
inductive ErrCode where
  | none | bit | sync | check | form | objected | abandoned | overflow | lineOff
  deriving DecidableEq, Repr

/-- Reset causes and announce causes (R24, R25, R33). -/
inductive Cause where
  | powerOn | resetPin | restartFrame | lineRecovery
  deriving DecidableEq, Repr

/-- The start states, and the full reset itself before its release (R24, chapter 3). -/
inductive StartState where
  | inReset | loading | configured | limited
  deriving DecidableEq, Repr

/-- The bit time of the rate strap: 2 µs at 500 kbit/s, 1 µs at 1 Mbit/s (R1). -/
inductive BitTime where
  | us2 | us1
  deriving DecidableEq, Repr

/-- The states of a node entry (R33). -/
inductive Presence where
  | absent | live | lost
  deriving DecidableEq, Repr

/-- The four gear ranges (1.5). -/
inductive Gear where
  | g1 | g2 | g3 | g4
  deriving DecidableEq, Repr

/-- The gearbox states (chapter 8). -/
inductive GearState where
  | engaged (r : Gear)
  | unknown | stoppingForShift | shiftingA | shiftingB | toNeutral | gearFault
  deriving DecidableEq, Repr

/-- The spindle states (R132). -/
inductive SpindleState where
  | stopped | running | stopping
  deriving DecidableEq, Repr

/-- The states of a coolant circuit (chapter 9). -/
inductive CircuitState where
  | off | starting | proven | degraded | stopping | fault
  deriving DecidableEq, Repr

/-- The drive states of an axis channel (R111). -/
inductive DriveState where
  | disabled | enabling | enabled | faulted
  deriving DecidableEq, Repr

/-- The motion states of an axis channel (R102). -/
inductive Motion where
  | idle | chain | jog | reference
  deriving DecidableEq, Repr

/-- The states of the reference sequence, or no sequence (R117, R118). -/
inductive RefState where
  | noSequence | seekSwitch | backOff | seekMark | done | failed
  deriving DecidableEq, Repr

/-- The states of an axis clamp (R115). -/
inductive ClampState where
  | clamped | unclamping | unclamped | clamping
  deriving DecidableEq, Repr

/-- The states of a block entry (R56). -/
inductive EntryState where
  | queued | evaluated | committed | running | invalid
  deriving DecidableEq, Repr

/-- The reasons of a REFUSE verdict, in the order of R64's table. -/
inductive RefuseReason where
  | travel | frameInvalid | compGap | unreferenced | axisAccel | axisSpeed | gearFault | noCircuit
  deriving DecidableEq, Repr

/-- The reasons of a WAIT verdict, in the order of R64's table. -/
inductive WaitReason where
  | chainBusy | shifting | spindleSpeed | tankLow | coolantStart | unclamping | driveOff
  deriving DecidableEq, Repr

/-- A verdict on a block (1.5): READY with a ceiling 1 to 150, WAIT or REFUSE with a reason. -/
inductive Verdict where
  | ready (ceiling : Nat)
  | wait (r : WaitReason)
  | refuse (r : RefuseReason)
  deriving DecidableEq, Repr

/-- The roles a block may need (R62). -/
inductive Role where
  | axis (a : Nat)
  | spindle
  | coolant
  | standIn
  deriving DecidableEq, Repr

/-! ### Parameters from the image -/

/-- The identity section (R27). -/
structure Identity where
  tag      : Nat
  expected : BitVec 16
  ax0      : Option Nat
  ax1      : Option Nat
  spindle  : Bool
  coolant  : Bool
  pendant  : Bool
  deriving DecidableEq, Repr

/-- The parameters of an axis section, the compensation entries apart (R27). `seg` is the segment
length, `none` for mode NONE. -/
structure AxisParams where
  num           : Nat
  den           : Nat
  kp            : Nat
  kf            : Nat
  followLimit   : Nat
  vmax          : Nat
  amax          : Nat
  winLow        : Int
  winHigh       : Int
  jogVel        : Nat
  jogAcc        : Nat
  searchMinus   : Bool
  clampFitted   : Bool
  searchDist    : Nat
  searchVel     : Nat
  backOff       : Nat
  refPos        : Int
  seg           : Option Nat
  compOrigin    : Int
  deriving DecidableEq, Repr

/-- One gear range record (8.2). -/
structure RangeRec where
  ratio : Nat
  min   : Nat
  max   : Nat
  ramp  : Nat
  posA  : ForkPos
  posB  : ForkPos
  deriving DecidableEq, Repr

/-- The spindle section (R27). -/
structure SpindleParams where
  motorMax : Nat
  nudge    : Nat
  r1       : RangeRec
  r2       : RangeRec
  r3       : RangeRec
  r4       : RangeRec
  deriving DecidableEq, Repr

/-- The coolant section (R27). -/
structure CoolantParams where
  fullScale : Nat
  pOk       : Nat
  pLow      : Nat
  hyst      : Nat
  tscMin    : Nat
  clamp     : Nat
  deriving DecidableEq, Repr

/-- The pendant section: the axis of each of the eight selector positions (R27). -/
structure PendantParams where
  axes : List (Option Nat)
  deriving DecidableEq, Repr

/-- What a node holds of its image: nothing before a load, and the LIMITED identity after a failed
one (R29). A unit is used exactly when its section is present (R28). -/
structure Params where
  ident    : Identity
  headWait : Nat
  axis0    : Option AxisParams
  axis1    : Option AxisParams
  spindle  : Option SpindleParams
  coolant  : Option CoolantParams
  pendant  : Option PendantParams
  deriving DecidableEq, Repr

/-! ### Start-up logic (chapter 3) -/

/-- The start-up logic. `supplyOk` and `supplyRose` carry R24's rule for the reset cause;
`firstActive` is set from a full reset until the LC first enters ACTIVE, and `joinPending` while
the joining ANNOUNCE is to be repeated (R31). -/
structure StartUp where
  start         : StartState
  node          : NodeNo
  bitTime       : BitTime
  supplyOk      : Bool
  supplyRose    : Bool
  cause         : Cause
  announceCause : Cause
  serial        : Option Byte
  attempt       : Nat
  firstActive   : Bool
  joinPending   : Bool
  deriving DecidableEq, Repr

/-! ### Line controller (chapter 2) -/

/-- An entry of the transmit queue (R12); the list order is the sending order, so the place in the
age order is the place in the list. `doomed`: withdrawn or purged while in transmission, removed at
an unsuccessful outcome (R14, R16). `byClear`: a FAULT asked for by a FAULTCLR (R183). `takenAt`:
for a STATE, the number of reported raisings there had been when its contents were taken (R46). -/
structure TxEntry where
  payload  : Payload
  failed   : Nat
  eligible : Bool
  inTx     : Bool
  doomed   : Bool
  byClear  : Bool
  takenAt  : Nat
  deriving DecidableEq, Repr

/-- The line controller. `recovery` is the OFF recovery timer in ticks, `none` while stopped.
`txBits` are the levels the attempt in progress still has to put on the line, `errorRun` the bit
times of an error run still to be driven, `slotBusy` and `slotError` the bits the node drives in the
objection slot of the frame last judged. `joined`: the quiet count has reached 12 since the receiver was
enabled, so that the next start bit is decoded (R30). -/
structure LC where
  state        : LineState
  recoveryMark : Bool
  send         : Nat
  recv         : Nat
  tally        : Nat
  lastErr      : ErrCode
  quiet        : Nat
  queue        : List TxEntry
  yield        : Bool
  recovery     : Option Nat
  capture      : Option Moment
  decoding     : Bool
  bitError     : Bool
  txBits       : List Bool
  errorRun     : Nat
  slotBusy     : Bool
  slotError    : Bool
  joined       : Bool
  deriving DecidableEq, Repr

/-! ### Node table (chapter 4) -/

/-- What an ANNOUNCE says a node owns (R33). -/
structure Functions where
  ax0     : Option Nat
  ax1     : Option Nat
  spindle : Bool
  coolant : Bool
  pendant : Bool
  deriving DecidableEq, Repr

/-- The gearbox as STATE reports it is the gearbox state itself (R54); the reported status of an
entry, `none` in a field for the frame's none and for a code outside its list (R186). -/
structure Reported where
  mode    : Option Mode
  held    : Bool
  stopped : Bool
  atRest  : Bool
  conds   : CondSet
  running : Option BlockNo
  last    : Option BlockNo
  depth   : Nat
  gearbox : Option GearState
  rpm     : Option Nat
  atSpeed : Bool
  flood   : Option CircuitState
  tsc     : Option CircuitState
  air     : Option CircuitState
  line    : Option LineState
  tally   : Nat
  lastErr : Option ErrCode
  deriving DecidableEq, Repr

/-- The panel fields of an entry (R33). -/
structure Panel where
  mode   : Option Mode
  enable : Option Bool
  axis   : Option Nat
  deriving DecidableEq, Repr

/-- A node entry (R33); an absent field is `none`, a stopped silence timer 0. -/
structure NodeEntry where
  state   : Presence
  silence : Nat
  funcs   : Option Functions
  tag     : Option Nat
  cause   : Option Cause
  report  : Option Reported
  panel   : Option Panel
  deriving DecidableEq, Repr

/-- The reported fields whose change asks for a STATE (R53). -/
structure ReportKey where
  mode    : Mode
  held    : Bool
  stopped : Bool
  atRest  : Bool
  own     : CondSet
  running : Option BlockNo
  last    : Option BlockNo
  depth   : Nat
  gearbox : Option GearState
  atSpeed : Bool
  flood   : Option CircuitState
  tsc     : Option CircuitState
  air     : Option CircuitState
  line    : LineState
  panel   : Option Panel
  deriving DecidableEq, Repr

/-- The node table. `clashes` are the clashing pairs of the previous test (R42); `enabling` is the
mode source's enabling switch as last formed (R51); `machineSet` is the machine condition set as
last recomputed (R47); `changeNoted` and `lastKey` carry the change event of R53. -/
structure NT where
  entries      : List NodeEntry
  mode         : Mode
  modeSource   : Option Nat
  sourceMode   : Mode
  enabling     : Bool
  machineSet   : CondSet
  clashes      : List (Nat × Nat)
  stateTimer   : Nat
  stateRunning : Bool
  changeNoted  : Bool
  lastKey      : Option ReportKey
  deriving DecidableEq, Repr

/-! ### Condition unit (chapters 4 and 11) -/

/-- The fault record's fields (R181). -/
structure FaultRecord where
  cond    : Cond
  tick    : Tick
  running : Option BlockNo
  detail  : Byte
  deriving DecidableEq, Repr

/-- The condition unit. `stopallSince`: no STOPALL is owed for a stop learnt from a peer, because one
has been accepted since the latch was last clear or the latch has not been clear since the reset
(R178). `reportSeq`, `jogSeq`, `txqSeq` order the raisings of the two reported conditions against
the contents of STATE frames (R46). -/
structure CU where
  own          : CondSet
  held         : Bool
  stopped      : Bool
  owed         : Bool
  stopallSince : Bool
  record       : Option FaultRecord
  counts       : List Nat
  overflow     : CondSet
  chainOpen    : Bool
  chainRun     : Nat
  reportSeq    : Nat
  jogSeq       : Nat
  txqSeq       : Nat
  deriving DecidableEq, Repr

/-- A stamped frame kept for its apply tick (R79). The units' kept frames stand in one list, so that
the order of acceptance is kept across units. -/
structure Kept where
  apply   : Tick
  stamp   : Tick
  sender  : NodeNo
  own     : Bool
  payload : Payload
  deriving DecidableEq, Repr

/-! ### Block queue (chapter 5) -/

/-- A set of coolant circuits (chapter 9). -/
structure CircSet where
  flood : Bool
  tsc   : Bool
  air   : Bool
  deriving DecidableEq, Repr

/-- A speed with a direction. -/
structure SpeedDir where
  rpm : Nat
  ccw : Bool
  deriving DecidableEq, Repr

/-- One component of a block (R56). -/
structure Comp where
  axis   : Nat
  target : Int
  deriving DecidableEq, Repr

/-- The block fields of an entry (R56). `spindle` and `coolant` are `none` for "unchanged". -/
structure BlockFields where
  frameSel : Nat
  cont     : Bool
  len      : Nat
  feed     : Nat
  acc      : Nat
  junction : Nat
  dwell    : Nat
  gear     : Nat
  spindle  : Option SpeedDir
  coolant  : Option CircSet
  comps    : List Comp
  deriving DecidableEq, Repr

/-- A local axis record (R56, R60, R105). -/
inductive AxisRec where
  | unresolved (r : RefuseReason)
  | resolved (start target : Int) (inWindow : Bool)
  deriving DecidableEq, Repr

/-- A role an entry needs and the node filling it, if any (R62). -/
structure RoleFill where
  role : Role
  node : Option Nat
  deriving DecidableEq, Repr

/-- The start tick of a committed entry (R71). -/
inductive StartTick where
  | unset
  | afterPredecessor
  | at (t : Tick)
  deriving DecidableEq, Repr

/-- A block entry (R56). `lastAsked` is the verdict the node last asked to send for it (R66). -/
structure Entry where
  num       : BlockNo
  state     : EntryState
  fields    : Option BlockFields
  rec0      : Option AxisRec
  rec1      : Option AxisRec
  roles     : List RoleFill
  orphan    : Bool
  verdicts  : List (Nat × Verdict)
  lastAsked : Option Verdict
  goStamp   : Option Tick
  ceiling   : Nat
  start     : StartTick
  deriving DecidableEq, Repr

/-- The block queue. `expected` is `none` for "any"; `spindleForce` and `rangeForce` are the spindle
request in force and `coolantForce` the coolant set in force, `none` while unknown (R62). -/
structure BQ where
  entries      : List Entry
  expected     : Option BlockNo
  headTimer    : Nat
  spindleForce : Option SpeedDir
  rangeForce   : Option Nat
  coolantForce : Option CircSet
  last         : Option BlockNo
  deriving DecidableEq, Repr

/-! ### Path profile generator (chapter 6) -/

/-- The profile state of the running block with the values the PG took from it (R80). `final`: the
present tick is its final tick, `carry` the carried velocity formed there (R85). -/
structure Run where
  num      : BlockNo
  len      : Nat
  feed     : Nat
  acc      : Nat
  junction : Nat
  cont     : Bool
  ceiling  : Nat
  p        : Nat
  v        : Nat
  elapsed  : BitVec 16
  dwell    : Nat
  fresh    : Bool
  final    : Bool
  carry    : Nat
  deriving DecidableEq, Repr

/-- One tick of the pace history (R93). -/
structure PaceEntry where
  tick    : Tick
  running : Option BlockNo
  elapsed : BitVec 16
  deriving DecidableEq, Repr

/-- The path profile generator. `run` is `none` while no entry is RUNNING: the path velocity is then
0, the elapsed ticks 0 and the path position undefined (R80). `carry` holds a predecessor's final
tick and carried velocity until the successor starts. -/
structure PG where
  tick     : Tick
  phase    : Phase
  tickLen  : Nat
  slew     : Int
  run      : Option Run
  stopMark : Bool
  carry    : Option (Tick × Nat)
  knob     : Nat
  clamps   : List Nat
  history  : List PaceEntry
  deriving DecidableEq, Repr

/-! ### Axis channels (chapter 7) -/

/-- A frame record (R105). -/
structure FrameRec where
  offset : Int
  mirror : Bool
  valid  : Bool
  window : Option (Int × Int)
  deriving DecidableEq, Repr

/-- A compensation entry as stored in the image (R187), and the mark of a failed parity test (R108). -/
structure CompEntry where
  word   : BitVec 16
  failed : Bool
  deriving DecidableEq, Repr

/-- One axis channel. `corrected` is the corrected command last formed, `prevCorrected` the previous
one of R109, `prevCommanded` the commanded position of the previous tick (R124), `lastComp` the
correction used at the previous tick (R108). The local mover is `moverPos`, `moverVel`,
`moverTarget`, `moverStop` (R116). `jogEnding`: the jog has been ended early and stops (R122).
`jogRecent` counts down from 1,000 since the motion state was last JOG (R114). `switchSeen`: the
reference switch has become active in SEEK_MARK; `markLoaded`: the mark has loaded the count, and
`markShift` is the change of the actual position still to be taken over (R118). `driveChanged`, the model's own: the
drive state has changed since the last step 4, so that the first ENABLED tick has a command change of 0 (R109). -/
structure Axis where
  count         : Int
  actual        : Int
  commanded     : Int
  prevCommanded : Int
  corrected     : Int
  prevCorrected : Int
  lastComp      : Int
  planned       : Int
  frames        : List FrameRec
  comp          : List CompEntry
  drive         : DriveState
  driveChanged  : Bool
  driveTimer    : Nat
  driveCommand  : Int
  motion        : Motion
  moverPos      : Int
  moverVel      : Int
  moverTarget   : Int
  moverStop     : Bool
  jogTarget     : Int
  jogAccum      : Int
  jogEnding     : Bool
  jogRecent     : Nat
  lastJog       : Option (NodeNo × Bool)
  ref           : RefState
  referenced    : Bool
  switchSeen    : Bool
  markLoaded    : Bool
  markShift     : Int
  markPlus      : Bool
  markMinus     : Bool
  clamp         : ClampState
  clampTimer    : Nat
  abandoned     : Bool
  followRun     : Nat
  satRun        : Nat
  stopTimer     : Option Nat
  deriving DecidableEq, Repr

/-! ### Spindle and gearbox (chapter 8) -/

/-- A debounced level with its run count (R138, R149). -/
structure Level where
  level : Bool
  run   : Nat
  deriving DecidableEq, Repr

/-- The spindle and gearbox unit. `request` is `none` for "stopped"; `command` with `commandCcw` is
the speed command; `step` the shifter in step; `nudging` with `nudgeTimer` and `nudgeMinus` the
nudge (R142). -/
structure SG where
  gear       : GearState
  target     : Option Gear
  step       : Shifter
  shiftTimer : Nat
  retries    : Nat
  nudging    : Bool
  nudgeTimer : Nat
  nudgeMinus : Bool
  a1         : Level
  a2         : Level
  b1         : Level
  b2         : Level
  refRange   : Gear
  spindle    : SpindleState
  request    : Option SpeedDir
  override   : Nat
  command    : Nat
  commandCcw : Bool
  ramped     : Int
  estimate   : Nat
  restRun    : Nat
  atRun      : Nat
  atSpeed    : Bool
  faultRun   : Nat
  stopTimer  : Option Nat
  manualStop : Bool
  driveCmd   : Int
  deriving DecidableEq, Repr

/-! ### Coolant (chapter 9) -/

/-- The coolant unit. The circuit timers and the bleed timer are 0 while stopped. -/
structure CL where
  flood      : CircuitState
  tsc        : CircuitState
  air        : CircuitState
  demand     : CircSet
  manualOff  : CircSet
  loss       : CircSet
  floodTimer : Nat
  tscTimer   : Nat
  bleed      : Nat
  flow       : Level
  tank       : Level
  window     : List Nat
  lowRun     : Nat
  lossRun    : Nat
  blockSet   : CircSet
  clamp      : Nat
  deriving DecidableEq, Repr

/-! ### Pendant (chapter 10) -/

/-- A debounced reading of a control: the reading, the raw value standing against it and for how
many ticks (R163). -/
structure Reading (α : Type) where
  val  : α
  cand : α
  run  : Nat
  deriving DecidableEq, Repr

/-- The pendant unit. Timers count up to their limits; `manual` is the manual speed record;
`holdPressed`: FEED HOLD has been pressed since the reset, so that its reading down asks for a HOLD (R175). -/
structure PD where
  mode        : Reading Mode
  axisSel     : Reading (Option (Fin 8))
  increment   : Reading Increment
  enable      : Reading EnablePos
  btnCycle    : Reading Bool
  btnHold     : Reading Bool
  btnStart    : Reading Bool
  btnStop     : Reading Bool
  btnCoolant  : Reading Bool
  btnReset    : Reading Bool
  btnRef      : Reading Bool
  feedIdx     : Nat
  spindleIdx  : Nat
  residue     : Int
  detents     : Int
  toggle      : Bool
  jogTimer    : Nat
  outstanding : Option (Int × Bool)
  ovrTimer    : Nat
  resend      : Bool
  spTimer     : Nat
  lastSp      : Option Nat
  manual      : Option SpeedDir
  holdPressed : Bool
  deriving DecidableEq, Repr

/-! ### The node and the state -/

/-- Everything the node holds. -/
structure Node where
  su   : StartUp
  par  : Params
  lc   : LC
  nt   : NT
  cu   : CU
  kept : List Kept
  bq   : BQ
  pg   : PG
  ax0  : Axis
  ax1  : Axis
  sg   : SG
  cl   : CL
  pd   : PD
  pins : Pins
  deriving DecidableEq, Repr

/-- The state of the block: the node, and the commands that wait, first in, first out. -/
structure State where
  node    : Node
  pending : List Instr
  deriving DecidableEq, Repr

/-- Reasons for a fault: there are none. The manual gives every command an effect in every state, so
no meaning of this model ends in a fault (assumption log 1). -/
inductive Fault where
  deriving DecidableEq, Repr

/-- Reasons for a refusal. -/
inductive Refusal where
  /-- Raised by `exec`'s arm of a command that has no meaning yet, and by nothing else. Safe: the
  model stops where the hardware goes on. No arm of this model raises it. -/
  | notModelled (mnemonic : String)
  deriving DecidableEq, Repr

/-! ### Values after reset (R22, R55, R76, R99, R126, R147, R162, R175, R184) -/

/-- Every axis input at its inactive level (1.6). -/
def inactiveAxisPins : AxisPins :=
  { ready := false, fault := false, limPlus := false, limMinus := false, refSwitch := false,
    clamped := false, unclamped := false }

/-- Every button up. -/
def buttonsUp : Buttons :=
  { cycleStart := false, feedHold := false, spindleStart := false, spindleStop := false,
    coolant := false, reset := false, ref := false }

/-- Every input at its inactive level; DESIGN CHOICE for a pin not yet sampled (assumption log 6). -/
def inactivePins : Pins :=
  { chainOpen := false, ax0 := inactiveAxisPins, ax1 := inactiveAxisPins, feedback := 0,
    shifter := { a1 := false, a2 := false, b1 := false, b2 := false },
    flow := false, pressure := 0, tankLow := false,
    pendant :=
      { mode := none, axisSel := none, increment := none, enable := .released,
        buttons := buttonsUp,
        feedKnob := 0, spindleKnob := 0 } }

/-- The identity of a LIMITED node: no functions, tag 0, empty expected set (R29). -/
def Identity.limited : Identity :=
  { tag := 0, expected := 0, ax0 := none, ax1 := none, spindle := false, coolant := false,
    pendant := false }

/-- What a LIMITED node holds of an image: its identity and no section. -/
def Params.limited : Params :=
  { ident := .limited, headWait := 10000, axis0 := none, axis1 := none, spindle := none,
    coolant := none, pendant := none }

/-- The LC after a full reset (R22). -/
def LC.reset : LC :=
  { state := .joining, recoveryMark := false, send := 0, recv := 0, tally := 0, lastErr := .none,
    quiet := 0, queue := [], yield := false, recovery := none, capture := none, decoding := false,
    bitError := false, txBits := [], errorRun := 0, slotBusy := false, slotError := false,
    joined := false }

/-- A node entry after a full reset (R33, R55). -/
def NodeEntry.reset : NodeEntry :=
  { state := .absent, silence := 0, funcs := none, tag := none, cause := none, report := none,
    panel := none }

/-- The node table after a full reset (R55). -/
def NT.reset : NT :=
  { entries := List.replicate 16 NodeEntry.reset, mode := .manual, modeSource := none,
    sourceMode := .manual, enabling := false, machineSet := 0, clashes := [], stateTimer := 0,
    stateRunning := false, changeNoted := false, lastKey := none }

/-- The condition unit after a full reset (R55, R184). -/
def CU.reset : CU :=
  { own := 0, held := true, stopped := true, owed := false, stopallSince := true, record := none,
    counts := List.replicate 30 0, overflow := 0, chainOpen := false, chainRun := 0,
    reportSeq := 0, jogSeq := 0, txqSeq := 0 }

/-- The block queue after a full reset (R76). -/
def BQ.reset (headWait : Nat) : BQ :=
  { entries := [], expected := none, headTimer := headWait, spindleForce := none, rangeForce := none,
    coolantForce := none, last := none }

/-- The path profile generator after a full reset (R99). -/
def PG.reset : PG :=
  { tick := 0, phase := 0, tickLen := 1000, slew := 0, run := none, stopMark := false, carry := none,
    knob := 100, clamps := List.replicate 16 150, history := [] }

/-- A frame record after a full reset: only record 0 is valid (R126). -/
def FrameRec.blank (valid : Bool) : FrameRec :=
  { offset := 0, mirror := false, valid := valid, window := none }

/-- An axis channel after a full reset, with the compensation map taken from the image (R126). The
clamp output is off until the end of LOADING (R24). -/
def Axis.reset (comp : List CompEntry) : Axis :=
  { count := 0, actual := 0, commanded := 0, prevCommanded := 0, corrected := 0, prevCorrected := 0,
    lastComp := 0, planned := 0, frames := FrameRec.blank true :: List.replicate 31 (FrameRec.blank false),
    comp := comp, drive := .disabled, driveChanged := false, driveTimer := 0, driveCommand := 0, motion := .idle,
    moverPos := 0, moverVel := 0, moverTarget := 0, moverStop := false, jogTarget := 0,
    jogAccum := 0, jogEnding := false, jogRecent := 0, lastJog := none, ref := .noSequence,
    referenced := false, switchSeen := false, markLoaded := false, markShift := 0,
    markPlus := false, markMinus := false, clamp := .unclamped, clampTimer := 0, abandoned := false,
    followRun := 0, satRun := 0, stopTimer := none }

/-- The spindle and gearbox unit after a full reset; the gearbox, the sensor levels and the reference
range are taken at the end of LOADING (R147), and stand at UNKNOWN, off and range 1 until then; the
nudge's sign is plus, the step shifter A and the direction of the command 0 clockwise, which R147 does not
give (DESIGN CHOICE, assumption log 6). -/
def SG.reset : SG :=
  { gear := .unknown, target := none, step := .a, shiftTimer := 0, retries := 0, nudging := false,
    nudgeTimer := 0, nudgeMinus := false, a1 := ⟨false, 0⟩, a2 := ⟨false, 0⟩, b1 := ⟨false, 0⟩,
    b2 := ⟨false, 0⟩, refRange := .g1, spindle := .stopped, request := none, override := 100,
    command := 0, commandCcw := false, ramped := 0, estimate := 0, restRun := 0, atRun := 0,
    atSpeed := false, faultRun := 0, stopTimer := none, manualStop := false, driveCmd := 0 }

/-- No circuit. -/
def CircSet.empty : CircSet := { flood := false, tsc := false, air := false }

/-- The coolant unit after a full reset (R162). -/
def CL.reset : CL :=
  { flood := .off, tsc := .off, air := .off, demand := .empty, manualOff := .empty, loss := .empty,
    floodTimer := 0, tscTimer := 0, bleed := 0, flow := ⟨false, 0⟩, tank := ⟨false, 0⟩,
    window := List.replicate 8 0, lowRun := 0, lossRun := 0, blockSet := .empty, clamp := 150 }

/-- The pendant unit after a full reset; its readings and knob indices are taken at the end of
LOADING (R175), and stand at R163's starting values and index 0 until then (DESIGN CHOICE,
assumption log 6). -/
def PD.reset : PD :=
  { mode := ⟨.manual, .manual, 0⟩, axisSel := ⟨none, none, 0⟩, increment := ⟨.x1, .x1, 0⟩,
    enable := ⟨.released, .released, 0⟩, btnCycle := ⟨false, false, 0⟩,
    btnHold := ⟨false, false, 0⟩, btnStart := ⟨false, false, 0⟩, btnStop := ⟨false, false, 0⟩,
    btnCoolant := ⟨false, false, 0⟩, btnReset := ⟨false, false, 0⟩, btnRef := ⟨false, false, 0⟩, feedIdx := 0, spindleIdx := 0, residue := 0, detents := 0,
    toggle := false, jogTimer := 10, outstanding := none, ovrTimer := 20, resend := true,
    spTimer := 20, lastSp := none, manual := none, holdPressed := false }

/-- The start-up logic in a full reset (R24, R25). -/
def StartUp.inFullReset (node : NodeNo) (bt : BitTime) (supplyOk supplyRose : Bool) (cause : Cause)
    (serial : Option Byte) : StartUp :=
  { start := .inReset, node := node, bitTime := bt, supplyOk := supplyOk, supplyRose := supplyRose,
    cause := cause, announceCause := cause, serial := serial, attempt := 1, firstActive := true,
    joinPending := false }

/-- The node in a full reset, with the start-up logic and the pin levels given: every unit at the
values of its chapter, nothing taken from an image. -/
def Node.reset (su : StartUp) (pins : Pins) : Node :=
  { su := su, par := .limited, lc := .reset, nt := .reset, cu := .reset, kept := [],
    bq := BQ.reset 10000, pg := .reset, ax0 := Axis.reset [], ax1 := Axis.reset [], sg := .reset,
    cl := .reset, pd := .reset, pins := pins }

/-- The machine right after power-on: in full reset with the supply up, waiting for the release of
the reset (R24). The node number and the bit time are sampled at the release; until then they stand
at 0 and 2 µs (DESIGN CHOICE, assumption log 6). -/
def State.reset : State :=
  { node := Node.reset (StartUp.inFullReset 0 .us2 true true .powerOn none) inactivePins,
    pending := [] }

end Sys2Proof.Machine
end

