-- ==== Sys2Proof/Machine/Operands.lean ====
section
/-! DEFINITION. The operands of frames: the codes of R186 and R187 and what they mean, the kinds with
their classes and lengths, and the fields of a payload as the units take them. -/

namespace Sys2Proof.Machine

/-! ### Conditions (1.4) -/

/-- The number of a condition (1.4). -/
def condNumber : Cond → Nat
  | .stopInput => 0 | .followError => 1 | .hardLimit => 2 | .driveFault => 3 | .gearLost => 4
  | .compParity => 5 | .imageBad => 6 | .ownerClash => 7 | .nodeClash => 8 | .machineMismatch => 9
  | .peerLost => 10 | .peerRejoined => 11 | .syncSlip => 12 | .coolantLost => 13
  | .driveSaturated => 14 | .spindleFault => 15 | .sequenceGap => 16 | .modeSwitch => 17
  | .gearFault => 18 | .startStall => 19 | .blockRefused => 20 | .lineWarn => 21
  | .coolantDegraded => 22 | .speedLimited => 23 | .jogOverrun => 24 | .gearRetry => 25
  | .refFailed => 26 | .txqOverflow => 27 | .unexpectedNode => 28 | .tankLow => 29

/-- The class of a condition (1.4): 0 to 9 STOP, 10 to 18 HOLD, 19 to 29 WARN. -/
def condClass (c : Cond) : CondClass :=
  if condNumber c ≤ 9 then .stop else if condNumber c ≤ 18 then .hold else .warn

/-- The code of a class in a FAULT frame (R186). -/
def classCode : CondClass → Nat
  | .stop => 0 | .hold => 1 | .warn => 2

/-- The set holding one condition alone. -/
def condBit (c : Cond) : CondSet := 1#30 <<< condNumber c

/-- Whether a condition is in a set. -/
def condIn (c : Cond) (s : CondSet) : Bool := s.getLsbD (condNumber c)

/-- The STOP-class conditions, numbers 0 to 9 (1.4). -/
def stopMask : CondSet := 0x3ff#30

/-- The HOLD-class conditions, numbers 10 to 18 (1.4). -/
def holdMask : CondSet := 0x7fc00#30

/-- The ten latched conditions that an applied FAULTCLR removes (R46, R179). -/
def latchedMask : CondSet :=
  condBit .followError ||| condBit .hardLimit ||| condBit .driveFault ||| condBit .gearLost |||
  condBit .compParity ||| condBit .nodeClash ||| condBit .syncSlip ||| condBit .driveSaturated |||
  condBit .spindleFault ||| condBit .gearFault

/-- The conditions cleared by an accepted FLUSH (R46). -/
def flushMask : CondSet :=
  condBit .sequenceGap ||| condBit .peerRejoined ||| condBit .blockRefused

/-- Whether a set holds a STOP-class condition. -/
def hasStop (s : CondSet) : Bool := s &&& stopMask != 0#30

/-- Whether a set holds a HOLD-class condition. -/
def hasHold (s : CondSet) : Bool := s &&& holdMask != 0#30

/-! ### Kinds (1.3, R186) -/

/-- The kind code (R186). -/
def kindCode : Kind → Nat
  | .stopall => 0 | .hold => 1 | .go => 2 | .ready => 3 | .resume => 4 | .override => 5 | .pace => 6
  | .block => 7 | .flush => 8 | .offset => 9 | .jog => 10 | .panel => 11 | .spindle => 12
  | .coolant => 13 | .reference => 14 | .faultclr => 15 | .restart => 16 | .announce => 17
  | .state => 18 | .fault => 19

/-- The kind a code names; codes 20 to 63 name none (R185). -/
def kindOfCode : Nat → Option Kind
  | 0 => some .stopall | 1 => some .hold | 2 => some .go | 3 => some .ready | 4 => some .resume
  | 5 => some .override | 6 => some .pace | 7 => some .block | 8 => some .flush
  | 9 => some .offset | 10 => some .jog | 11 => some .panel | 12 => some .spindle
  | 13 => some .coolant | 14 => some .reference | 15 => some .faultclr | 16 => some .restart
  | 17 => some .announce | 18 => some .state | 19 => some .fault | _ => none

/-- The class of a kind, 0 the most urgent (1.3). -/
def kindClass : Kind → Nat
  | .stopall | .hold => 0
  | .go | .ready | .resume | .override | .pace => 1
  | .block | .flush | .offset | .jog | .panel | .spindle | .coolant | .reference | .faultclr
  | .restart => 2
  | .announce | .state | .fault => 3

/-- The stamped kinds (1.3). -/
def kindStamped : Kind → Bool
  | .hold | .go | .resume | .override | .pace => true
  | _ => false

/-- The payload lengths a kind permits (R186). -/
def kindLengths : Kind → List Nat
  | .stopall | .hold | .resume | .faultclr => [0]
  | .go | .override | .restart => [2]
  | .ready | .jog => [4]
  | .pace | .spindle => [5]
  | .block => [26, 31, 36, 41, 46]
  | .flush | .panel | .coolant => [3]
  | .offset => [15]
  | .reference => [1]
  | .announce => [7]
  | .state => [21, 24]
  | .fault => [44]

/-- The kind of a payload. -/
def payloadKind : Payload → Kind
  | .stopall => .stopall | .hold => .hold | .go _ => .go | .ready _ _ _ => .ready
  | .resume => .resume | .override _ _ => .override | .pace _ _ _ => .pace | .block _ => .block
  | .flush _ _ => .flush | .offset _ => .offset | .jog _ _ _ _ => .jog | .panel _ => .panel
  | .spindle _ _ _ _ => .spindle | .coolant _ _ _ => .coolant | .reference _ => .reference
  | .faultclr => .faultclr | .restart _ _ => .restart | .announce _ => .announce
  | .state _ => .state | .fault _ => .fault

/-- The class of a payload's kind. -/
def payloadClass (p : Payload) : Nat := kindClass (payloadKind p)

/-! ### Codes of fields (R186) -/

/-- A mode code: 0 MANUAL, 1 AUTO, 2 SETUP. -/
def modeOfCode (b : Byte) : Option Mode :=
  if b = 0 then some .manual else if b = 1 then some .auto else if b = 2 then some .setup else none

/-- The code of a mode. -/
def modeCode : Mode → Byte
  | .manual => 0 | .auto => 1 | .setup => 2

/-- An enabling switch code: 0 off, 1 on. -/
def boolOfCode (b : Byte) : Option Bool :=
  if b = 0 then some false else if b = 1 then some true else none

/-- The code of a flag sent as a byte. -/
def boolCode (b : Bool) : Byte := if b then 1 else 0

/-- An axis byte: 0 to 15 is an axis number, FFh and 16 to 254 count as none (R186). -/
def axisOfByte (b : Byte) : Option Nat := if b.toNat ≤ 15 then some b.toNat else none

/-- The byte of an axis number, FFh for none. -/
def axisByte : Option Nat → Byte
  | some a => BitVec.ofNat 8 a
  | none => 0xff

/-- An announce cause code; a code outside the list is none (R186). -/
def causeOfCode (b : Byte) : Option Cause :=
  if b = 0 then some .powerOn else if b = 1 then some .resetPin
  else if b = 2 then some .restartFrame else if b = 3 then some .lineRecovery else none

/-- The code of an announce cause. -/
def causeCode : Cause → Byte
  | .powerOn => 0 | .resetPin => 1 | .restartFrame => 2 | .lineRecovery => 3

/-- A circuit state code; FFh and codes outside the list are none. -/
def circuitOfCode (b : Byte) : Option CircuitState :=
  if b = 0 then some .off else if b = 1 then some .starting else if b = 2 then some .proven
  else if b = 3 then some .degraded else if b = 4 then some .stopping
  else if b = 5 then some .fault else none

/-- The code of a reported circuit state, FFh for none. -/
def circuitCode : Option CircuitState → Byte
  | some .off => 0 | some .starting => 1 | some .proven => 2 | some .degraded => 3
  | some .stopping => 4 | some .fault => 5 | none => 0xff

/-- The number of a gear range. -/
def gearNumber : Gear → Nat
  | .g1 => 1 | .g2 => 2 | .g3 => 3 | .g4 => 4

/-- The range a number names. -/
def gearOfNumber : Nat → Option Gear
  | 1 => some .g1 | 2 => some .g2 | 3 => some .g3 | 4 => some .g4 | _ => none

/-- A gearbox code; FFh and codes outside the list are none. -/
def gearboxOfCode (b : Byte) : Option GearState :=
  match b.toNat with
  | 1 => some (.engaged .g1) | 2 => some (.engaged .g2) | 3 => some (.engaged .g3)
  | 4 => some (.engaged .g4) | 5 => some .unknown | 6 => some .stoppingForShift
  | 7 => some .shiftingA | 8 => some .shiftingB | 9 => some .toNeutral | 10 => some .gearFault
  | _ => none

/-- The code of a reported gearbox state, FFh for none. -/
def gearboxCode : Option GearState → Byte
  | some (.engaged r) => BitVec.ofNat 8 (gearNumber r)
  | some .unknown => 5 | some .stoppingForShift => 6 | some .shiftingA => 7 | some .shiftingB => 8
  | some .toNeutral => 9 | some .gearFault => 10 | none => 0xff

/-- A line state code. -/
def lineOfCode (b : Byte) : Option LineState :=
  if b = 0 then some .joining else if b = 1 then some .active else if b = 2 then some .quiet
  else if b = 3 then some .off else none

/-- The code of a line state. -/
def lineCode : LineState → Byte
  | .joining => 0 | .active => 1 | .quiet => 2 | .off => 3

/-- A last error code. -/
def errOfCode (b : Byte) : Option ErrCode :=
  match b.toNat with
  | 0 => some .none | 1 => some .bit | 2 => some .sync | 3 => some .check | 4 => some .form
  | 5 => some .objected | 6 => some .abandoned | 7 => some .overflow | 8 => some .lineOff
  | _ => none

/-- The code of a last error code. -/
def errCode : ErrCode → Byte
  | .none => 0 | .bit => 1 | .sync => 2 | .check => 3 | .form => 4 | .objected => 5
  | .abandoned => 6 | .overflow => 7 | .lineOff => 8

/-- A REFUSE reason code of READY. -/
def refuseOfCode (b : Byte) : Option RefuseReason :=
  match b.toNat with
  | 0 => some .travel | 1 => some .frameInvalid | 2 => some .compGap | 3 => some .unreferenced
  | 4 => some .axisAccel | 5 => some .axisSpeed | 6 => some .gearFault | 7 => some .noCircuit
  | _ => none

/-- The code of a REFUSE reason; its order is the order of R64's table. -/
def refuseCode : RefuseReason → Nat
  | .travel => 0 | .frameInvalid => 1 | .compGap => 2 | .unreferenced => 3 | .axisAccel => 4
  | .axisSpeed => 5 | .gearFault => 6 | .noCircuit => 7

/-- A WAIT reason code of READY. -/
def waitOfCode (b : Byte) : Option WaitReason :=
  match b.toNat with
  | 0 => some .chainBusy | 1 => some .shifting | 2 => some .spindleSpeed | 3 => some .tankLow
  | 4 => some .coolantStart | 5 => some .unclamping | 6 => some .driveOff | _ => none

/-- The code of a WAIT reason; its order is the order of R64's table. -/
def waitCode : WaitReason → Nat
  | .chainBusy => 0 | .shifting => 1 | .spindleSpeed => 2 | .tankLow => 3 | .coolantStart => 4
  | .unclamping => 5 | .driveOff => 6

/-- The verdict a READY carries; `none` where a code lies outside its list, a READY ceiling outside
1 to 150 included (R186, assumption log 9). -/
def verdictOf (verdict arg : Byte) : Option Verdict :=
  if verdict = 0 then
    if 1 ≤ arg.toNat ∧ arg.toNat ≤ 150 then some (.ready arg.toNat) else none
  else if verdict = 1 then (waitOfCode arg).map .wait
  else if verdict = 2 then (refuseOfCode arg).map .refuse
  else none

/-- The two bytes a verdict is sent as (R186). -/
def verdictBytes : Verdict → Byte × Byte
  | .ready c => (0, BitVec.ofNat 8 c)
  | .wait r => (1, BitVec.ofNat 8 (waitCode r))
  | .refuse r => (2, BitVec.ofNat 8 (refuseCode r))

/-- The step of an increment code in axis units: 0 ×1, 1 ×10, 2 ×100. -/
def incrementOfCode (b : Byte) : Option Nat :=
  if b = 0 then some 1 else if b = 1 then some 10 else if b = 2 then some 100 else none

/-- The code of an increment. -/
def incrementCode : Increment → Byte
  | .x1 => 0 | .x10 => 1 | .x100 => 2

/-! ### BLOCK (R59, R186) -/

/-- The components of a BLOCK, each an axis number and a signed program target. -/
def blockComps (b : BlockBody) : List Comp :=
  b.comps.map fun c => { axis := c.axis.toNat, target := c.target.toInt }

/-- The spindle field: "unchanged" under flag bit 1, otherwise the speed with flag bit 2 as
counter-clockwise. -/
def blockSpindle (b : BlockBody) : Option SpeedDir :=
  if b.flags.getLsbD 1 then none else some { rpm := b.speed.toNat, ccw := b.flags.getLsbD 2 }

/-- The coolant field: "unchanged" under flag bit 3, otherwise the circuits of flag bits 4 to 6. -/
def blockCoolant (b : BlockBody) : Option CircSet :=
  if b.flags.getLsbD 3 then none
  else some { flood := b.flags.getLsbD 4, tsc := b.flags.getLsbD 5, air := b.flags.getLsbD 6 }

/-- The fields of a BLOCK as an entry holds them (R56). -/
def blockFields (b : BlockBody) : BlockFields :=
  { frameSel := b.frameSel.toNat, cont := b.flags.getLsbD 0, len := b.len.toNat,
    feed := b.feed.toNat, acc := b.acc.toNat, junction := b.junction.toNat, dwell := b.dwell.toNat,
    gear := b.gear.toNat, spindle := blockSpindle b, coolant := blockCoolant b,
    comps := blockComps b }

/-- Whether no axis number is listed twice. -/
def axesDistinct : List Comp → Bool
  | [] => true
  | c :: cs => !cs.any (fun d => d.axis == c.axis) && axesDistinct cs

/-- The form test of R59. -/
def blockGoodForm (b : BlockBody) : Bool :=
  let f := blockFields b
  b.count.toNat ≤ 4 && b.count.toNat == b.comps.length &&
  ((f.len == 0) == f.comps.isEmpty) && axesDistinct f.comps && f.junction ≤ f.feed &&
  f.len ≤ 33554431 && 1 ≤ f.feed && f.feed ≤ 16777216 && 1 ≤ f.acc && f.acc ≤ 1048576 &&
  f.gear ≤ 4 && f.frameSel ≤ 31 &&
  (match f.spindle with | none => true | some sp => sp.rpm ≤ 9999)

/-! ### Reported frames (R54, R186) -/

/-- The functions an ANNOUNCE names. -/
def announceFunctions (b : AnnounceBody) : Functions :=
  { ax0 := axisOfByte b.ax0, ax1 := axisOfByte b.ax1, spindle := b.funcs.getLsbD 0,
    coolant := b.funcs.getLsbD 1, pendant := b.funcs.getLsbD 2 }

/-- The joining mark of an ANNOUNCE: set by the code 1; a code outside the list counts as absent,
that is clear (R186, assumption log 9). -/
def announceJoining (b : AnnounceBody) : Bool := b.join == 1

/-- The reported status a STATE carries (R54); a code outside its list is none for its field alone. -/
def stateReported (b : StateBody) : Reported :=
  { mode := modeOfCode b.mode, held := b.flags.getLsbD 0, stopped := b.flags.getLsbD 1,
    atRest := b.flags.getLsbD 6, conds := b.conds.setWidth 30,
    running := if b.flags.getLsbD 3 then some b.running else none,
    last := if b.flags.getLsbD 4 then some b.last else none, depth := b.depth.toNat,
    gearbox := gearboxOfCode b.gearbox,
    rpm := if b.rpm = 0xffff then none else some b.rpm.toNat, atSpeed := b.flags.getLsbD 2,
    flood := circuitOfCode b.flood, tsc := circuitOfCode b.tsc, air := circuitOfCode b.air,
    line := lineOfCode b.line, tally := b.tally.toNat, lastErr := errOfCode b.lastErr }

/-- The panel part of a STATE: each field none where its code lies outside its list (R186). -/
def statePanel (p : PanelBody) : Panel :=
  { mode := modeOfCode p.mode, enable := boolOfCode p.enable, axis := axisOfByte p.axis }

/-- The panel fields a PANEL carries, or `none` where a code lies outside its list and the frame is
discarded (R186). -/
def panelFields (p : PanelBody) : Option Panel :=
  match modeOfCode p.mode, boolOfCode p.enable with
  | some m, some e => some { mode := some m, enable := some e, axis := axisOfByte p.axis }
  | _, _ => none

/-- The payload of panel fields. -/
def panelBody (p : Panel) : PanelBody :=
  { mode := match p.mode with | some m => modeCode m | none => 0,
    enable := match p.enable with | some e => boolCode e | none => 0,
    axis := axisByte p.axis }

/-! ### Gear ranges and channels -/

/-- The record of a range. -/
def rangeOf (p : SpindleParams) : Gear → RangeRec
  | .g1 => p.r1 | .g2 => p.r2 | .g3 => p.r3 | .g4 => p.r4

/-- The channel number, the detail of a channel's conditions. -/
def chanNumber : Chan → Byte
  | .ax0 => 0 | .ax1 => 1

/-- The shifter number, the detail of a shifter's conditions (R138). -/
def shifterNumber : Shifter → Byte
  | .a => 1 | .b => 2

end Sys2Proof.Machine
end

