-- ==== Sys2Proof/Machine/Wire.lean ====
section
/-! DEFINITION. The frame on the line, both ways (R2, R3, R185, R186): payload bytes, header, check,
sync bits, and the receiver's judgement of the bits it samples. -/

namespace Sys2Proof.Machine

/-! ### Fields and bytes, most significant first (R185) -/

/-- The high byte of a 16-bit field. -/
def hi8 (w : BitVec 16) : Byte := w.extractLsb' 8 8

/-- The low byte of a 16-bit field. -/
def lo8 (w : BitVec 16) : Byte := w.extractLsb' 0 8

/-- A 16-bit field of two bytes, most significant first. -/
def word16 (a b : Byte) : BitVec 16 := a ++ b

/-- The four bytes of a 32-bit field, most significant first. -/
def bytes32 (w : BitVec 32) : List Byte :=
  [w.extractLsb' 24 8, w.extractLsb' 16 8, w.extractLsb' 8 8, w.extractLsb' 0 8]

/-- A 32-bit field of four bytes, most significant first. -/
def word32 (a b c d : Byte) : BitVec 32 := a ++ b ++ c ++ d

/-- The five bytes of a component (R186). -/
def compBytes (c : RawComp) : List Byte := c.axis :: bytes32 c.target

/-- The payload bytes of a panel part. -/
def panelBytes (p : PanelBody) : List Byte := [p.mode, p.enable, p.axis]

/-- The payload bytes of a BLOCK (R186). -/
def blockBytes (b : BlockBody) : List Byte :=
  [hi8 b.num, lo8 b.num, b.frameSel, b.flags] ++ bytes32 b.len ++ bytes32 b.feed ++ bytes32 b.acc ++
  bytes32 b.junction ++ [hi8 b.dwell, lo8 b.dwell, b.gear, hi8 b.speed, lo8 b.speed, b.count] ++
  b.comps.flatMap compBytes

/-- The payload bytes of a STATE (R186). -/
def stateBytes (b : StateBody) : List Byte :=
  [b.mode, b.flags] ++ bytes32 b.conds ++
  [hi8 b.running, lo8 b.running, hi8 b.last, lo8 b.last, b.depth, b.gearbox, hi8 b.rpm, lo8 b.rpm,
    b.flood, b.tsc, b.air, b.line, hi8 b.tally, lo8 b.tally, b.lastErr] ++
  (match b.panel with | some p => panelBytes p | none => [])

/-- The payload bytes of a FAULT (R186). -/
def faultBytes (b : FaultBody) : List Byte :=
  [b.cond, b.cls] ++ bytes32 b.tick ++ [b.flags, hi8 b.running, lo8 b.running, b.detail] ++
  b.counts ++ bytes32 b.overflow

/-- The payload bytes of a frame (R186). -/
def payloadBytes : Payload → List Byte
  | .stopall | .hold | .resume | .faultclr => []
  | .go n => [hi8 n, lo8 n]
  | .ready n v a => [hi8 n, lo8 n, v, a]
  | .override f v => [f, v]
  | .pace f r e => [f, hi8 r, lo8 r, hi8 e, lo8 e]
  | .block b => blockBytes b
  | .flush f e => [f, hi8 e, lo8 e]
  | .offset b =>
    [b.axis, b.frameNo] ++ bytes32 b.offset ++ [b.flags] ++ bytes32 b.winLow ++ bytes32 b.winHigh
  | .jog a i d t => [a, i, d, t]
  | .panel b => panelBytes b
  | .spindle f s d v => [f, hi8 s, lo8 s, d, v]
  | .coolant f t a => [f, t, a]
  | .reference a => [a]
  | .restart t s => [t, s]
  | .announce b => [b.ax0, b.ax1, b.funcs, hi8 b.tag, lo8 b.tag, b.cause, b.join]
  | .state b => stateBytes b
  | .fault b => faultBytes b

/-- The components that a run of five-byte groups holds; `none` where the bytes are no whole number
of groups. -/
def compsOfBytes : List Byte → Option (List RawComp)
  | [] => some []
  | a :: t3 :: t2 :: t1 :: t0 :: rest =>
    (compsOfBytes rest).map ({ axis := a, target := word32 t3 t2 t1 t0 } :: ·)
  | _ => none

/-- A BLOCK payload read from its bytes. -/
def blockOfBytes : List Byte → Option BlockBody
  | n1 :: n0 :: fs :: fl :: l3 :: l2 :: l1 :: l0 :: f3 :: f2 :: f1 :: f0 :: a3 :: a2 :: a1 :: a0 ::
    j3 :: j2 :: j1 :: j0 :: d1 :: d0 :: g :: s1 :: s0 :: c :: rest =>
    (compsOfBytes rest).map fun comps =>
      { num := word16 n1 n0, frameSel := fs, flags := fl, len := word32 l3 l2 l1 l0,
        feed := word32 f3 f2 f1 f0, acc := word32 a3 a2 a1 a0, junction := word32 j3 j2 j1 j0,
        dwell := word16 d1 d0, gear := g, speed := word16 s1 s0, count := c, comps := comps }
  | _ => none

/-- A panel part read from the bytes that follow the fixed part of a STATE. -/
def panelOfBytes : List Byte → Option PanelBody
  | [m, e, a] => some { mode := m, enable := e, axis := a }
  | _ => none

/-- A STATE payload read from its bytes. -/
def stateOfBytes : List Byte → Option StateBody
  | m :: fl :: c3 :: c2 :: c1 :: c0 :: r1 :: r0 :: b1 :: b0 :: dp :: gb :: s1 :: s0 :: cf :: ct ::
    ca :: ln :: t1 :: t0 :: le :: rest =>
    some { mode := m, flags := fl, conds := word32 c3 c2 c1 c0, running := word16 r1 r0,
           last := word16 b1 b0, depth := dp, gearbox := gb, rpm := word16 s1 s0, flood := cf,
           tsc := ct, air := ca, line := ln, tally := word16 t1 t0, lastErr := le,
           panel := panelOfBytes rest }
  | _ => none

/-- A FAULT payload read from its bytes. -/
def faultOfBytes : List Byte → Option FaultBody
  | c :: k :: t3 :: t2 :: t1 :: t0 :: fl :: r1 :: r0 :: d :: rest =>
    match rest.drop 30 with
    | [o3, o2, o1, o0] =>
      some { cond := c, cls := k, tick := word32 t3 t2 t1 t0, flags := fl, running := word16 r1 r0,
             detail := d, counts := rest.take 30, overflow := word32 o3 o2 o1 o0 }
    | _ => none
  | _ => none

/-- An OFFSET payload read from its bytes. -/
def offsetOfBytes : List Byte → Option OffsetBody
  | [a, n, o3, o2, o1, o0, fl, l3, l2, l1, l0, h3, h2, h1, h0] =>
    some { axis := a, frameNo := n, offset := word32 o3 o2 o1 o0, flags := fl,
           winLow := word32 l3 l2 l1 l0, winHigh := word32 h3 h2 h1 h0 }
  | _ => none

/-- A payload read from its bytes, or `none` where the length is not one the kind permits (R186). -/
def payloadOfBytes (k : Kind) (bs : List Byte) : Option Payload :=
  if (kindLengths k).contains bs.length then
    match k, bs with
    | .stopall, _ => some .stopall
    | .hold, _ => some .hold
    | .resume, _ => some .resume
    | .faultclr, _ => some .faultclr
    | .go, [a, b] => some (.go (word16 a b))
    | .ready, [a, b, v, r] => some (.ready (word16 a b) v r)
    | .override, [f, v] => some (.override f v)
    | .pace, [f, a, b, c, d] => some (.pace f (word16 a b) (word16 c d))
    | .block, bs => (blockOfBytes bs).map .block
    | .flush, [f, a, b] => some (.flush f (word16 a b))
    | .offset, bs => (offsetOfBytes bs).map .offset
    | .jog, [a, i, d, t] => some (.jog a i d t)
    | .panel, [m, e, a] => some (.panel { mode := m, enable := e, axis := a })
    | .spindle, [f, a, b, d, v] => some (.spindle f (word16 a b) d v)
    | .coolant, [f, t, a] => some (.coolant f t a)
    | .reference, [a] => some (.reference a)
    | .restart, [t, s] => some (.restart t s)
    | .announce, [a, b, f, t1, t0, c, j] =>
      some (.announce { ax0 := a, ax1 := b, funcs := f, tag := word16 t1 t0, cause := c, join := j })
    | .state, bs => (stateOfBytes bs).map .state
    | .fault, bs => (faultOfBytes bs).map .fault
    | _, _ => none
  else none

/-! ### Bits, check and sync bits (R2, R185) -/

/-- The low `n` bits of a number, most significant first. -/
def bitsOf : Nat → Nat → List Bool
  | 0, _ => []
  | n + 1, v => v.testBit n :: bitsOf n v

/-- The number that bits, most significant first, spell. -/
def numOf (bs : List Bool) : Nat := bs.foldl (fun acc b => 2 * acc + b.toNat) 0

/-- The bits of bytes in line order. -/
def byteBits (bs : List Byte) : List Bool := bs.flatMap fun b => bitsOf 8 b.toNat

/-- The bytes that bits in line order spell; a last group of fewer than eight bits is dropped. -/
def bytesOfBits : List Bool → List Byte
  | b7 :: b6 :: b5 :: b4 :: b3 :: b2 :: b1 :: b0 :: rest =>
    BitVec.ofNat 8 (numOf [b7, b6, b5, b4, b3, b2, b1, b0]) :: bytesOfBits rest
  | _ => []

/-- One step of the check register (R185): exclusive-or with the top bit, shift left, and 5935h where
the combined value was 1. -/
def crcStep (r : BitVec 16) (b : Bool) : BitVec 16 :=
  if Bool.xor b r.msb then (r <<< 1) ^^^ 0x5935#16 else r <<< 1

/-- The check over bits in line order, the register preset to all ones (R185). -/
def crcOf (bits : List Bool) : BitVec 16 := bits.foldl crcStep 0xffff#16

/-- Bits with a sync bit after each eighth, at the level opposite to the bit before it (R2); `k` counts
the bits since the last sync bit. -/
def stuffFrom : Nat → List Bool → List Bool
  | _, [] => []
  | k, b :: bs => if k = 7 then b :: (!b) :: stuffFrom 0 bs else b :: stuffFrom (k + 1) bs

/-- The data bits of a received string up to its first sync error, and whether there was none (R2). -/
def unstuffFrom : Nat → List Bool → List Bool × Bool
  | _, [] => ([], true)
  | k, b :: bs =>
    if k = 7 then
      match bs with
      | [] => ([b], false)
      | s :: rest =>
        if s = !b then (b :: (unstuffFrom 0 rest).1, (unstuffFrom 0 rest).2) else ([b], false)
    else (b :: (unstuffFrom (k + 1) bs).1, (unstuffFrom (k + 1) bs).2)

/-- The header of a frame (R185). -/
structure Header where
  cls    : Nat
  sender : NodeNo
  code   : Nat
  stamp  : Option Stamp
  len    : Nat
  deriving DecidableEq, Repr

/-- The header bits (R185); reserved bits are sent 0. -/
def headerBits (h : Header) : List Bool :=
  bitsOf 2 h.cls ++ bitsOf 4 h.sender.val ++ bitsOf 6 h.code ++ [h.stamp.isSome] ++ bitsOf 7 h.len ++
  bitsOf 4 0 ++
  (match h.stamp with
   | some s => bitsOf 16 s.tick.toNat ++ bitsOf 10 s.phase.toNat ++ bitsOf 6 0
   | none => [])

/-- The header a node sends before a payload. -/
def headerOf (sender : NodeNo) (stamp : Option Stamp) (p : Payload) : Header :=
  { cls := payloadClass p, sender := sender, code := kindCode (payloadKind p), stamp := stamp,
    len := (payloadBytes p).length }

/-- The levels a sender puts on the line after the start bit: header, payload and check with their
sync bits (R2, R185). `true` is driven. -/
def frameBits (sender : NodeNo) (stamp : Option Stamp) (p : Payload) : List Bool :=
  let data := headerBits (headerOf sender stamp p) ++ byteBits (payloadBytes p)
  stuffFrom 0 (data ++ bitsOf 16 (crcOf data).toNat)

/-- A whole attempt: the start bit, the frame, and the two released bits of the objection slot. -/
def attemptBits (sender : NodeNo) (stamp : Option Stamp) (p : Payload) : List Bool :=
  true :: frameBits sender stamp p ++ [false, false]

/-! ### The receiver's judgement (R2, R3) -/

/-- What a receiver makes of the bits after a start bit. -/
inductive Judgement where
  | syncError
  | formErrorInLength
  | checkError
  | formErrorAtEnd
  | whole (sender : NodeNo) (stamp : Option Stamp) (p : Payload)
  deriving DecidableEq, Repr

/-- Bits `i` to `i + n − 1` of the data as a number. -/
def fieldAt (bits : List Bool) (i n : Nat) : Nat := numOf ((bits.drop i).take n)

/-- The stamp a header carries, where the stamp flag is set. -/
def stampOf (bits : List Bool) : Option Stamp :=
  if fieldAt bits 12 1 = 1 then
    some { tick := BitVec.ofNat 16 (fieldAt bits 24 16), phase := BitVec.ofNat 10 (fieldAt bits 40 10) }
  else none

/-- The judgement of R3's second point, of a frame whose check was correct: the kind, the stamp flag,
the length and the class. -/
def judgeForm (bits : List Bool) (stamp : Option Stamp) (payload : List Byte) : Judgement :=
  match kindOfCode (fieldAt bits 6 6) with
  | none => .formErrorAtEnd
  | some k =>
    if kindStamped k = stamp.isSome ∧ kindClass k = fieldAt bits 0 2 then
      match payloadOfBytes k payload with
      | some p => .whole ⟨fieldAt bits 2 4 % 16, Nat.mod_lt _ (by decide)⟩ stamp p
      | none => .formErrorAtEnd
    else .formErrorAtEnd

/-- The receiver's judgement of the bits it samples after a start bit (R2, R3): the first error in
line order decides. A frame that breaks off before its check is complete leaves the line released,
which R2 makes a sync error. -/
def judgeBits (line : List Bool) : Judgement :=
  let data := (unstuffFrom 0 line).1
  if data.length < 20 then .syncError
  else if 48 < fieldAt data 13 7 then .formErrorInLength
  else
    let head := if fieldAt data 12 1 = 1 then 56 else 24
    let body := head + 8 * fieldAt data 13 7
    let mine := (unstuffFrom 0 (line.take ((body + 16) / 8 * 9)))
    if mine.2 = false ∨ mine.1.length < body + 16 then .syncError
    else if crcOf (data.take body) ≠ BitVec.ofNat 16 (fieldAt data body 16) then .checkError
    else judgeForm data (stampOf data) (bytesOfBits ((data.drop head).take (body - head)))

end Sys2Proof.Machine
end

