-- ==== Sys2Proof/Machine/Image.lean ====
section
/-! DEFINITION. The configuration image (3.3, 12.3): its sections and fields, the seven checks of R27 in
their order, and the parameters a passing image gives. -/

namespace Sys2Proof.Machine

/-! ### Bytes and fields (R187) -/

/-- A byte of the image; one that the reading did not supply reads FFh, as an empty memory does
(DESIGN CHOICE, assumption log 7). -/
def byteAt (i : Nat) (bs : List Byte) : Nat := (bs.getD i 0xff).toNat

/-- A two-byte field of the image, most significant byte first. -/
def half (i : Nat) (bs : List Byte) : Nat := byteAt i bs * 256 + byteAt (i + 1) bs

/-- A one-byte field of a section body, `none` where it lies past the body's end (R187). -/
def u8 (i : Nat) (b : List Byte) : Option Nat := if i + 1 ≤ b.length then some (byteAt i b) else none

/-- A two-byte field of a section body; one that the body's end cuts is omitted as if it lay past the end (R187;
DESIGN CHOICE, assumption log 85). -/
def u16 (i : Nat) (b : List Byte) : Option Nat := if i + 2 ≤ b.length then some (half i b) else none

/-- A four-byte field of a section body; a cut one is omitted (R187; DESIGN CHOICE, assumption log 85). -/
def u32 (i : Nat) (b : List Byte) : Option Nat :=
  if i + 4 ≤ b.length then some (half i b * 65536 + half (i + 2) b) else none

/-- A signed four-byte field of a section body. -/
def s32 (i : Nat) (b : List Byte) : Option Int := (u32 i b).map fun v => (BitVec.ofNat 32 v).toInt

/-- A field with a default: omitted past the body's end, or where it holds all ones (R187). -/
def orDefault (ones dflt : Nat) (v : Option Nat) : Nat :=
  match v with
  | some x => if x = ones then dflt else x
  | none => dflt

/-- A section: its type byte and its body (R187). -/
structure Section where
  kind : Nat
  body : List Byte
  deriving DecidableEq, Repr

/-- The sections of a byte string, and whether none runs past its end; `fuel` bounds their number
(R187). -/
def sectionsOf : Nat → List Byte → List Section × Bool
  | 0, bs => ([], bs.isEmpty)
  | fuel + 1, bs =>
    match bs with
    | [] => ([], true)
    | t :: h :: l :: rest =>
      let len := h.toNat * 256 + l.toNat
      if rest.length < len then ([], false)
      else
        let more := sectionsOf fuel (rest.drop len)
        ({ kind := t.toNat, body := rest.take len } :: more.1, more.2)
    | _ => ([], false)

/-- The body of the first section of a type. -/
def bodyOf (k : Nat) (ss : List Section) : Option (List Byte) :=
  (ss.find? fun s => s.kind == k).map Section.body

/-! ### The parameters as stored (R187) -/

/-- The identity section as stored; an axis byte of FFh is none. -/
structure RawIdentity where
  node     : Nat
  ax0      : Option Nat
  ax1      : Option Nat
  funcs    : Nat
  tag      : Nat
  expected : Nat
  deriving DecidableEq, Repr

/-- An axis byte: FFh is none. -/
def axisOrNone (v : Nat) : Option Nat := if v = 255 then none else some v

/-- The identity section read; `none` where a parameter is omitted. -/
def readIdentity (b : List Byte) : Option RawIdentity := do
  let node ← u8 0 b
  let a0 ← u8 1 b
  let a1 ← u8 2 b
  let f ← u8 3 b
  let tag ← u16 4 b
  let ex ← u16 6 b
  pure { node := node, ax0 := axisOrNone a0, ax1 := axisOrNone a1, funcs := f, tag := tag, expected := ex }

/-- An axis section as stored. -/
structure RawAxis where
  par   : AxisParams
  mode  : Nat
  count : Nat
  comp  : List CompEntry
  deriving DecidableEq, Repr

/-- The segment length of a compensation mode (R106, R187). -/
def segOf (mode : Nat) : Option Nat :=
  match mode with
  | 1 => some 8000 | 2 => some 16000 | 3 => some 32000 | 4 => some 64000 | _ => none

/-- The compensation entries of a run of two-byte values, as stored (R27, R187). -/
def compEntries : List Byte → List CompEntry
  | h :: l :: rest => { word := word16 h l, failed := false } :: compEntries rest
  | _ => []

/-- An axis section read; `none` where a parameter is omitted or the length is not 58 + 2 × entry count
(R187). -/
def readAxis (b : List Byte) : Option RawAxis := do
  let num ← u16 0 b
  let den ← u16 2 b
  let kp ← u16 4 b
  let kf ← u16 6 b
  let fl ← u16 8 b
  let vmax ← u32 10 b
  let amax ← u32 14 b
  let lo ← s32 18 b
  let hi ← s32 22 b
  let jv ← u32 26 b
  let ja ← u32 30 b
  let flags ← u8 34 b
  let sd ← u32 35 b
  let sv ← u32 39 b
  let bo ← u32 43 b
  let rp ← s32 47 b
  let mode ← u8 51 b
  let org ← s32 52 b
  let count ← u16 56 b
  if b.length = 58 + 2 * count then
    pure { par := { num := num, den := den, kp := kp, kf := kf, followLimit := fl, vmax := vmax,
                    amax := amax, winLow := lo, winHigh := hi, jogVel := jv, jogAcc := ja,
                    searchMinus := flags.testBit 0, clampFitted := flags.testBit 1, searchDist := sd,
                    searchVel := sv, backOff := bo, refPos := rp, seg := segOf mode, compOrigin := org },
           mode := mode, count := count, comp := compEntries (b.drop 58) }
  else none

/-- A shifter position of a pattern bit (R187). -/
def posOf (b : Bool) : ForkPos := if b then .p2 else .p1

/-- A range record read. -/
def readRange (i : Nat) (b : List Byte) : Option RangeRec := do
  let ratio ← u16 i b
  let mn ← u16 (i + 2) b
  let mx ← u16 (i + 4) b
  let ramp ← u16 (i + 6) b
  let pat ← u8 (i + 8) b
  pure { ratio := ratio, min := mn, max := mx, ramp := ramp, posA := posOf (pat.testBit 0),
         posB := posOf (pat.testBit 1) }

/-- The spindle section read. -/
def readSpindle (b : List Byte) : Option SpindleParams := do
  let mm ← u16 0 b
  let nd ← u8 2 b
  let a ← readRange 3 b
  let c ← readRange 12 b
  let d ← readRange 21 b
  let e ← readRange 30 b
  pure { motorMax := mm, nudge := nd, r1 := a, r2 := c, r3 := d, r4 := e }

/-- The coolant section read, with its two defaults. -/
def readCoolant (b : List Byte) : Option CoolantParams := do
  let fs ← u16 0 b
  let ok ← u16 2 b
  let low ← u16 4 b
  let hy ← u16 6 b
  pure { fullScale := fs, pOk := ok, pLow := low, hyst := hy, tscMin := orDefault 65535 100 (u16 8 b),
         clamp := orDefault 255 50 (u8 10 b) }

/-- The pendant section read: the bytes of the eight selector positions. -/
def readPendant (b : List Byte) : Option (List Nat) :=
  if 8 ≤ b.length then some ((b.take 8).map BitVec.toNat) else none

/-- The head wait time of the chain section, in tenths of a second (R187). -/
def readChain (b : List Byte) : Nat := orDefault 65535 100 (u16 0 b)

/-- Everything an image of good structure holds. -/
structure RawImage where
  ident   : RawIdentity
  wait    : Nat
  axis0   : Option RawAxis
  axis1   : Option RawAxis
  spindle : Option SpindleParams
  coolant : Option CoolantParams
  pendant : Option (List Nat)
  deriving DecidableEq, Repr

/-! ### The checks (R27) -/

/-- The check register over bytes (R187). -/
def imageCrc (bs : List Byte) : BitVec 16 := crcOf (byteBits bs)

/-- The bytes of the image, up to its length (R26). -/
def imageBytes (len : Nat) (bs : List Byte) : List Byte :=
  (bs ++ List.replicate (len - bs.length) 0xff).take len

/-- The bytes the image check covers: 0 to 5 and 8 up to the image length less 1 (R187). -/
def checkedBytes (len : Nat) (bs : List Byte) : List Byte :=
  (imageBytes len bs).take 6 ++ (imageBytes len bs).drop 8

/-- Whether a section belongs exactly where it is named: present when and only when it is wanted (R27). -/
def presentWhen (k : Nat) (want : Bool) (ss : List Section) : Bool := (bodyOf k ss).isSome == want

/-- Whether no type occurs twice. -/
def typesDistinct : List Section → Bool
  | [] => true
  | s :: ss => !ss.any (fun x => x.kind == s.kind) && typesDistinct ss

/-- An optional section read: absent, read, or not readable. -/
def optSection {α : Type} (read : List Byte → Option α) (b : Option (List Byte)) : Option (Option α) :=
  match b with
  | none => some none
  | some x => (read x).map some

/-- The sections, where their structure is good (R27 check 5). -/
def readSections (ss : List Section) : Option RawImage := do
  let id ← (bodyOf 1 ss).bind readIdentity
  let ch ← bodyOf 2 ss
  let a0 ← optSection readAxis (bodyOf 3 ss)
  let a1 ← optSection readAxis (bodyOf 4 ss)
  let sp ← optSection readSpindle (bodyOf 5 ss)
  let co ← optSection readCoolant (bodyOf 6 ss)
  let pe ← optSection readPendant (bodyOf 7 ss)
  if ss.all (fun s => 1 ≤ s.kind && s.kind ≤ 7) && typesDistinct ss &&
      presentWhen 3 id.ax0.isSome ss && presentWhen 4 id.ax1.isSome ss &&
      presentWhen 5 (id.funcs.testBit 0) ss && presentWhen 6 (id.funcs.testBit 1) ss &&
      presentWhen 7 (id.funcs.testBit 2) ss then
    pure { ident := id, wait := readChain ch, axis0 := a0, axis1 := a1, spindle := sp, coolant := co,
           pendant := pe }
  else none

/-- A number lies in a range, ends included. -/
def within (lo hi x : Nat) : Bool := lo ≤ x && x ≤ hi

/-- An axis number is 0 to 15 or none. -/
def axisInRange (a : Option Nat) : Bool := a.all fun v => v ≤ 15

/-- The ranges of an axis section (R27). -/
def axisRange (a : RawAxis) : Bool :=
  within 1 65535 a.par.num && within 1 65535 a.par.den && within 1 65535 a.par.followLimit &&
  within 1 16777216 a.par.vmax && within 1 1048576 a.par.amax && within 1 16777216 a.par.jogVel &&
  within 1 1048576 a.par.jogAcc && within 1 2147483647 a.par.searchDist &&
  within 1 16777216 a.par.searchVel && within 1 1073741823 a.par.backOff && a.mode ≤ 4 && a.count ≤ 512

/-- The ranges of a gear range record (R27). -/
def rangeInRange (r : RangeRec) : Bool :=
  within 1 65535 r.ratio && r.min ≤ 9999 && r.max ≤ 9999 && within 1 65535 r.ramp

/-- The ranges of the spindle section (R27). -/
def spindleRange (p : SpindleParams) : Bool :=
  within 1 65535 p.motorMax && within 1 255 p.nudge && rangeInRange p.r1 && rangeInRange p.r2 &&
  rangeInRange p.r3 && rangeInRange p.r4

/-- The ranges of the coolant section (R27). -/
def coolantRange (p : CoolantParams) : Bool :=
  within 1 65535 p.fullScale && within 1 65535 p.pOk && within 1 9999 p.tscMin && within 1 150 p.clamp

/-- Every parameter lies in its range (R27 check 6). -/
def inRange (r : RawImage) : Bool :=
  within 1 65535 r.ident.tag && axisInRange r.ident.ax0 && axisInRange r.ident.ax1 &&
  within 5 300 r.wait && r.axis0.all axisRange && r.axis1.all axisRange && r.spindle.all spindleRange &&
  r.coolant.all coolantRange && r.pendant.all fun l => l.all fun v => v ≤ 15 || v == 255

/-- The relations of an axis section (R27). -/
def axisCross (a : RawAxis) : Bool :=
  a.par.winLow < a.par.winHigh && a.par.jogVel ≤ a.par.vmax && a.par.jogAcc ≤ a.par.amax &&
  a.par.searchVel ≤ a.par.vmax && (if a.mode = 0 then a.count == 0 else 2 ≤ a.count)

/-- The shifter pattern of a record. -/
def rangePattern (r : RangeRec) : ForkPos × ForkPos := (r.posA, r.posB)

/-- The relations of the spindle section (R27). -/
def spindleCross (p : SpindleParams) : Bool :=
  p.r1.min ≤ p.r1.max && p.r2.min ≤ p.r2.max && p.r3.min ≤ p.r3.max && p.r4.min ≤ p.r4.max &&
  decide [rangePattern p.r1, rangePattern p.r2, rangePattern p.r3, rangePattern p.r4].Nodup

/-- The relations of the coolant section (R27). -/
def coolantCross (p : CoolantParams) : Bool := p.pLow ≤ p.pOk && p.pOk + p.hyst ≤ p.fullScale

/-- Every relation holds (R27 check 7). -/
def crossHolds (r : RawImage) : Bool :=
  (r.ident.ax0.isNone || r.ident.ax0 != r.ident.ax1) && r.axis0.all axisCross && r.axis1.all axisCross &&
  r.spindle.all spindleCross && r.coolant.all coolantCross

/-! ### The outcome of a reading -/

/-- What the units take from a passing image (R28). -/
structure Loaded where
  par   : Params
  comp0 : List CompEntry
  comp1 : List CompEntry
  deriving DecidableEq, Repr

/-- The parameters of a passing image (R28). -/
def loadedOf (r : RawImage) : Loaded :=
  { par :=
      { ident :=
          { tag := r.ident.tag, expected := BitVec.ofNat 16 r.ident.expected, ax0 := r.ident.ax0,
            ax1 := r.ident.ax1, spindle := r.ident.funcs.testBit 0,
            coolant := r.ident.funcs.testBit 1, pendant := r.ident.funcs.testBit 2 },
        headWait := r.wait * 100, axis0 := r.axis0.map RawAxis.par, axis1 := r.axis1.map RawAxis.par,
        spindle := r.spindle, coolant := r.coolant,
        pendant := r.pendant.map fun l => { axes := l.map axisOrNone } },
    comp0 := (r.axis0.map RawAxis.comp).getD [], comp1 := (r.axis1.map RawAxis.comp).getD [] }

/-- A reading's outcome: the reason code of the first check that fails, or what it gives (R27). -/
inductive ImageVerdict where
  | bad (reason : Nat)
  | good (l : Loaded)
  deriving DecidableEq, Repr

/-- The checks 5 to 7 of R27, after the sections have been found. -/
def judgeSections (whole : Bool) (ss : List Section) : ImageVerdict :=
  if whole then
    match readSections ss with
    | none => .bad 5
    | some r => if !inRange r then .bad 6 else if !crossHolds r then .bad 7 else .good (loadedOf r)
  else .bad 5

/-- The identity section's node number differs from the straps (R27 check 4); of two identity sections the
first is compared, and one that the image length cuts off, or that stands behind such a section, is not found
here and left to check 5 (DESIGN CHOICE, assumption log 51). -/
def wrongNode (node : NodeNo) (ss : List Section) : Bool :=
  match (bodyOf 1 ss).bind (u8 0) with
  | some v => v != node.val
  | none => false

/-- A reading judged by the checks of R27, in their order. -/
def judgeImage (node : NodeNo) (bs : List Byte) : ImageVerdict :=
  let len := half 4 bs
  if half 0 bs ≠ 0x5a24 ∨ byteAt 2 bs ≠ 1 then .bad 1
  else if len < 16 ∨ 4096 < len then .bad 2
  else if imageCrc (checkedBytes len bs) ≠ BitVec.ofNat 16 (half 6 bs) then .bad 3
  else
    let ss := sectionsOf len ((imageBytes len bs).drop 8)
    if wrongNode node ss.1 then .bad 4 else judgeSections ss.2 ss.1

end Sys2Proof.Machine
end

