-- ==== Sys2Proof/Machine/Flags.lean ====
section
/-! DEFINITION. The values the units form from the state at the moment they test it: which units are
used, the chain, the engaged path, the machine condition set and permit, the mode source, the fields a
STATE and a FAULT carry. -/

namespace Sys2Proof.Machine

/-! ### Access to the parts of a node -/

/-- A channel's state. -/
def getAx : Chan → Node → Axis
  | .ax0, n => n.ax0
  | .ax1, n => n.ax1

/-- The node with a channel's state replaced. -/
def setAx : Chan → Axis → Node → Node
  | .ax0, a, n => { n with ax0 := a }
  | .ax1, a, n => { n with ax1 := a }

/-- A channel's parameters; a channel is used exactly when it has them (R28, R100). -/
def axParams : Chan → Node → Option AxisParams
  | .ax0, n => n.par.axis0
  | .ax1, n => n.par.axis1

/-- The axis number a channel is mapped to. -/
def axNumber : Chan → Node → Option Nat
  | .ax0, n => n.par.ident.ax0
  | .ax1, n => n.par.ident.ax1

/-- A channel's input pins as last sampled. -/
def axPins : Chan → Pins → AxisPins
  | .ax0, p => p.ax0
  | .ax1, p => p.ax1

/-- The pins with a channel's inputs replaced. -/
def setAxPins : Chan → AxisPins → Pins → Pins
  | .ax0, a, p => { p with ax0 := a }
  | .ax1, a, p => { p with ax1 := a }

/-- The node's own number. -/
def me (n : Node) : Nat := n.su.node.val

/-- A node entry of the table. -/
def entryAt (i : Nat) (n : Node) : NodeEntry := n.nt.entries.getD i NodeEntry.reset

/-- The node with a node entry replaced. -/
def setEntry (i : Nat) (e : NodeEntry) (n : Node) : Node :=
  { n with nt := { n.nt with entries := n.nt.entries.set i e } }

/-- Whether LOADING is over, so that the line controller, the node table and the condition unit work
(R28, R29). -/
def loaded (n : Node) : Bool := n.su.start == .configured || n.su.start == .limited

/-- The block queue is used at a CONFIGURED node (R28). -/
def bqUsed (n : Node) : Bool := n.su.start == .configured

/-- The node is a member of its expected set. -/
def expects (i : Nat) (n : Node) : Bool := n.par.ident.expected.getLsbD i

/-- The functions of the node's own identity (R34). -/
def ownFunctions (n : Node) : Functions :=
  { ax0 := n.par.ident.ax0, ax1 := n.par.ident.ax1, spindle := n.par.ident.spindle,
    coolant := n.par.ident.coolant, pendant := n.par.ident.pendant }

/-! ### Node entries (R33, R62) -/

/-- What an entry owns: nothing unless it is LIVE and identified (R33). -/
def owned (e : NodeEntry) : Functions :=
  match e.state, e.funcs with
  | .live, some f => f
  | _, _ => { ax0 := none, ax1 := none, spindle := false, coolant := false, pendant := false }

/-- Whether functions carry an axis number on AX0 or AX1. -/
def ownsAxis (a : Nat) (f : Functions) : Bool := f.ax0 == some a || f.ax1 == some a

/-- The lowest-numbered entry whose owned functions pass a test. -/
def lowestOwner (test : Functions → Bool) (n : Node) : Option Nat :=
  (List.range 16).find? fun i => test (owned (entryAt i n))

/-- Whether an entry shows a timing function: an axis or the spindle (R93, R95). -/
def isTiming (f : Functions) : Bool := f.ax0.isSome || f.ax1.isSome || f.spindle

/-! ### The chain and the path (R71, R80) -/

/-- Whether an entry belongs to the chain. -/
def inChain (e : Entry) : Bool := e.state == .committed || e.state == .running

/-- The chain is at rest when no entry is RUNNING or COMMITTED (R71). -/
def chainAtRest (n : Node) : Bool := !n.bq.entries.any inChain

/-- Whether an entry is uncommitted. -/
def uncommitted (e : Entry) : Bool := !inChain e

/-- The head: the first uncommitted entry (R56). -/
def headEntry (n : Node) : Option Entry := n.bq.entries.find? uncommitted

/-- The path velocity: v while a block runs and 0 otherwise (R80). -/
def pathVelocity (n : Node) : Nat := match n.pg.run with | some r => r.v | none => 0

/-- The path is engaged while the chain is not at rest, unless the node is held at velocity 0 (R80). -/
def engaged (n : Node) : Bool := !chainAtRest n && !(n.cu.held && pathVelocity n == 0)

/-- The number of the RUNNING block. -/
def runningBlock (n : Node) : Option BlockNo := n.pg.run.map Run.num

/-- The elapsed ticks, 0 while no block runs (R80). -/
def elapsedTicks (n : Node) : BitVec 16 := match n.pg.run with | some r => r.elapsed | none => 0

/-! ### Machine condition set and permit (R47, R48) -/

/-- What an entry adds to the machine condition set: its last reported set while it is LIVE. -/
def reportedConds (e : NodeEntry) : CondSet :=
  match e.state, e.report with
  | .live, some r => r.conds
  | _, _ => 0

/-- The union of the condition sets of the entries `i, i + 1, …` other than the node's own. -/
def peerConds (own : Nat) : Nat → List NodeEntry → CondSet
  | _, [] => 0
  | i, e :: es => (if i = own then 0 else reportedConds e) ||| peerConds own (i + 1) es

/-- The machine condition set as it stands: the own set and the sets last reported by all other LIVE
entries (R47). -/
def machineConds (n : Node) : CondSet := n.cu.own ||| peerConds (me n) 0 n.nt.entries

/-- Every node of the expected set is LIVE (R48). -/
def expectedLive (n : Node) : Bool :=
  (List.range 16).all fun i => !expects i n || (entryAt i n).state == .live

/-- The permit's terms other than STOPPED (R48, R180). -/
def permitTerms (n : Node) : Bool := !hasStop (machineConds n) && expectedLive n

/-- The machine permit (R48). -/
def machinePermit (n : Node) : Bool := permitTerms n && !n.cu.stopped

/-! ### Mode source (R51) -/

/-- The mode source: the lowest-numbered LIVE, identified entry with the pendant function (R51). -/
def modeSourceOf (n : Node) : Option Nat := lowestOwner Functions.pendant n

/-- The panel fields of the mode source. -/
def sourcePanel (n : Node) : Option Panel :=
  match modeSourceOf n with
  | some i => (entryAt i n).panel
  | none => none

/-- The source mode: MANUAL where no entry qualifies or its panel fields are absent (R51). -/
def sourceModeOf (n : Node) : Mode :=
  match sourcePanel n with
  | some p => p.mode.getD .manual
  | none => .manual

/-- The mode source's enabling switch, off where no entry qualifies or its fields are absent (R51). -/
def enablingOf (n : Node) : Bool :=
  match sourcePanel n with
  | some p => p.enable.getD false
  | none => false

/-! ### Pendant readings (R163, R170) -/

/-- The selected axis: the image's axis for the debounced selector position (R163). -/
def selectedAxis (n : Node) : Option Nat :=
  match n.pd.axisSel.val, n.par.pendant with
  | some i, some p => p.axes.getD i.val none
  | _, _ => none

/-- The enabling switch is on while its debounced reading is middle (R163). -/
def enableOn (n : Node) : Bool := n.pd.enable.val == .middle

/-- The panel readings, present only with the pendant function (R170, R175). -/
def panelReadings (n : Node) : Option Panel :=
  if n.par.pendant.isSome then
    some { mode := some n.pd.mode.val, enable := some (enableOn n), axis := selectedAxis n }
  else none

/-- The feed knob's value, 0 to 150 percent (R167). -/
def feedKnobValue (n : Node) : Nat := 10 * n.pd.feedIdx

/-- The spindle knob's value, 50 to 120 percent (R167). -/
def spindleKnobValue (n : Node) : Nat := 50 + 10 * n.pd.spindleIdx

/-! ### What STATE and FAULT carry (R54, R183) -/

/-- The gearbox field (R54, R146). -/
def reportedGear (n : Node) : Option GearState :=
  if n.par.spindle.isSome then some n.sg.gear else none

/-- The spindle actual rpm: the estimate while ENGAGED, 0 in every other state (R127). -/
def actualRpm (n : Node) : Nat :=
  match n.sg.gear with
  | .engaged _ => n.sg.estimate
  | _ => 0

/-- A circuit's reported state, none without the coolant function (R54). -/
def reportedCircuit (n : Node) (c : CircuitState) : Option CircuitState :=
  if n.par.coolant.isSome then some c else none

/-- The fields whose change asks for a STATE (R53). -/
def reportKey (n : Node) : ReportKey :=
  { mode := n.nt.mode, held := n.cu.held, stopped := n.cu.stopped, atRest := pathVelocity n == 0,
    own := n.cu.own, running := runningBlock n, last := n.bq.last, depth := n.bq.entries.length,
    gearbox := reportedGear n, atSpeed := n.par.spindle.isSome && n.sg.atSpeed,
    flood := reportedCircuit n n.cl.flood, tsc := reportedCircuit n n.cl.tsc,
    air := reportedCircuit n n.cl.air, line := n.lc.state, panel := panelReadings n }

/-- The flags byte of a STATE (R186). -/
def stateFlags (n : Node) : Byte :=
  let k := reportKey n
  (boolCode k.held) ||| (boolCode k.stopped <<< 1) ||| (boolCode k.atSpeed <<< 2) |||
  (boolCode k.running.isSome <<< 3) ||| (boolCode k.last.isSome <<< 4) |||
  (boolCode k.panel.isSome <<< 5) ||| (boolCode k.atRest <<< 6)

/-- The contents of a STATE (R54, R186). -/
def stateBody (n : Node) : StateBody :=
  { mode := modeCode n.nt.mode, flags := stateFlags n, conds := n.cu.own.setWidth 32,
    running := (runningBlock n).getD 0, last := n.bq.last.getD 0,
    depth := BitVec.ofNat 8 n.bq.entries.length, gearbox := gearboxCode (reportedGear n),
    rpm := if n.par.spindle.isSome then BitVec.ofNat 16 (actualRpm n) else 0xffff,
    flood := circuitCode (reportedCircuit n n.cl.flood),
    tsc := circuitCode (reportedCircuit n n.cl.tsc), air := circuitCode (reportedCircuit n n.cl.air),
    line := lineCode n.lc.state, tally := BitVec.ofNat 16 n.lc.tally,
    lastErr := errCode n.lc.lastErr, panel := (panelReadings n).map panelBody }

/-- The contents of a FAULT: the record, or FFh and zeros for an empty one, and the counts with their
overflow flags (R183, R186). -/
def faultBody (n : Node) : FaultBody :=
  let counts := n.cu.counts.map (BitVec.ofNat 8)
  let overflow := n.cu.overflow.setWidth 32
  match n.cu.record with
  | some r =>
    { cond := BitVec.ofNat 8 (condNumber r.cond),
      cls := BitVec.ofNat 8 (classCode (condClass r.cond)), tick := r.tick,
      flags := boolCode r.running.isSome, running := r.running.getD 0, detail := r.detail,
      counts := counts, overflow := overflow }
  | none =>
    { cond := 0xff, cls := 0, tick := 0, flags := 0, running := 0, detail := 0, counts := counts,
      overflow := overflow }

/-- The contents of an ANNOUNCE (R31). -/
def announceBody (joining : Bool) (n : Node) : AnnounceBody :=
  { ax0 := axisByte n.par.ident.ax0, ax1 := axisByte n.par.ident.ax1,
    funcs := boolCode n.par.ident.spindle ||| (boolCode n.par.ident.coolant <<< 1) |||
      (boolCode n.par.ident.pendant <<< 2),
    tag := BitVec.ofNat 16 n.par.ident.tag, cause := causeCode n.su.announceCause,
    join := boolCode joining }

/-- The contents of a PACE: the running block, or none, and the elapsed ticks (R93, R186). -/
def pacePayload (n : Node) : Payload :=
  .pace (boolCode (runningBlock n).isSome) ((runningBlock n).getD 0) (elapsedTicks n)

end Sys2Proof.Machine
end

