-- ==== Sys2Proof/Machine/Ops.lean ====
section
/-! DEFINITION. The shared operations: the transmit queue (2.7), requests to send, and the raising and
clearing of conditions that do not stop the machine (4.5, chapter 11). Raising a STOP-class condition,
which the units react to, is in Stop.lean. -/

namespace Sys2Proof.Machine

/-! ### The transmit queue (R12 to R16) -/

/-- The class of an entry. -/
def txClass (e : TxEntry) : Nat := payloadClass e.payload

/-- A new entry: pending, eligible, no failed attempt (R12). -/
def newTx (p : Payload) (byClear : Bool) (takenAt : Nat) : TxEntry :=
  { payload := p, failed := 0, eligible := true, inTx := false, doomed := false, byClear := byClear,
    takenAt := takenAt }

/-- Whether a request replaces a waiting entry: a STATE a STATE, a PACE a PACE, a READY for block n a
READY for block n (R13). -/
def replaces : Payload → Payload → Bool
  | .state _, .state _ => true
  | .pace _ _ _, .pace _ _ _ => true
  | .ready n _ _, .ready m _ _ => n == m
  | _, _ => false

/-- Whether a waiting entry makes a GO request for the same block drop, pending or in transmission
(R13). -/
def dropsGo : Payload → Payload → Bool
  | .go n, .go m => n == m
  | _, _ => false

/-- An entry placed by its class behind every entry of its own or a more urgent class (R12). -/
def insertTx (e : TxEntry) (q : List TxEntry) : List TxEntry :=
  q.takeWhile (fun x => txClass x ≤ txClass e) ++ e :: q.dropWhile (fun x => txClass x ≤ txClass e)

/-- Whether a request meets a pending entry it replaces (R13). -/
def meets (p : Payload) (e : TxEntry) : Bool := !e.inTx && replaces p e.payload

/-- The replacement of R13: the new payload, the waiting entry's place, its failed-attempt count 0. An entry that a
busy refusal has made ineligible stays so (R11; DESIGN CHOICE, assumption log 95). -/
def replaceTx (p : Payload) (takenAt : Nat) (q : List TxEntry) : List TxEntry :=
  q.map fun e => if meets p e then { e with payload := p, failed := 0, takenAt := takenAt } else e

/-- The queue without its newest, least urgent pending entry: the last pending entry of the sending
order (R15). -/
def dropLastPending (q : List TxEntry) : List TxEntry :=
  (q.reverse.eraseP fun e => !e.inTx).reverse

/-- The class of the newest, least urgent pending entry, if any entry is pending. -/
def lastPendingClass (q : List TxEntry) : Option Nat :=
  (q.reverse.find? fun e => !e.inTx).map txClass

/-- A queue of 8 entries after a ninth request: the frame dropped is the newest of the least urgent
class among the pending entries and the new one (R15). -/
def overflowTx (e : TxEntry) (q : List TxEntry) : List TxEntry :=
  match lastPendingClass q with
  | some c => if txClass e < c then insertTx e (dropLastPending q) else q
  | none => q

/-- The error tally and the last error code after an event (R21). -/
def noteLineError (c : ErrCode) (lc : LC) : LC :=
  { lc with tally := satAdd 65535 lc.tally 1, lastErr := c }

/-- A request to send, and whether a frame was dropped from a full queue (R12, R13, R15). -/
def enqueue (p : Payload) (byClear : Bool) (takenAt : Nat) (lc : LC) : LC × Bool :=
  if lc.state = .joining ∨ lc.state = .off then (lc, false)
  else if lc.queue.any (fun e => dropsGo p e.payload) then (lc, false)
  else if lc.queue.any (meets p) then ({ lc with queue := replaceTx p takenAt lc.queue }, false)
  else if lc.queue.length < 8 then
    ({ lc with queue := insertTx (newTx p byClear takenAt) lc.queue }, false)
  else
    (noteLineError .overflow { lc with queue := overflowTx (newTx p byClear takenAt) lc.queue }, true)

/-- Whether an entry of the queue, pending or in transmission, passes a test. -/
def txHas (test : Payload → Bool) (n : Node) : Bool := n.lc.queue.any fun e => test e.payload

/-- Whether a pending entry passes a test. -/
def txPending (test : Payload → Bool) (n : Node) : Bool :=
  n.lc.queue.any fun e => !e.inTx && test e.payload

/-- The withdrawal of the pending entries that pass a test (R14). An entry in transmission is not marked: this is the
withdrawal of the rules that say it "runs to its outcome" of a frame (HOLD by assumption log 19; RESUME, PANEL, the
clamp OVERRIDE and FAULT by log 83, DESIGN CHOICE). -/
def withdrawPending (test : TxEntry → Bool) (n : Node) : Node :=
  { n with lc := { n.lc with queue := n.lc.queue.filter fun e => e.inTx || !test e } }

/-- The withdrawal of a named entry: a pending one leaves at once, one in transmission is removed at an
unsuccessful outcome (R14). -/
def withdrawNamed (test : Payload → Bool) (n : Node) : Node :=
  let kept := n.lc.queue.filter fun e => e.inTx || !test e.payload
  let marked := kept.map fun e => if test e.payload then { e with doomed := true } else e
  { n with lc := { n.lc with queue := marked } }

/-- The purge at an accepted STOPALL: every pending class-1 and class-2 entry leaves, one in transmission
leaves if its attempt fails (R16), and at a contention loss or a busy refusal too, as R14 has it of a withdrawn
entry (DESIGN CHOICE, assumption log 78). -/
def purgeTx (n : Node) : Node :=
  let mid (e : TxEntry) : Bool := txClass e == 1 || txClass e == 2
  let kept := n.lc.queue.filter fun e => e.inTx || !mid e
  { n with lc := { n.lc with queue := kept.map fun e => if mid e then { e with doomed := true } else e } }

/-- Recognisers of payloads by kind. -/
def isStopall : Payload → Bool | .stopall => true | _ => false

/-- A HOLD. -/
def isHold : Payload → Bool | .hold => true | _ => false

/-- A RESUME. -/
def isResume : Payload → Bool | .resume => true | _ => false

/-- A FAULT. -/
def isFault : Payload → Bool | .fault _ => true | _ => false

/-- A FAULTCLR. -/
def isFaultclr : Payload → Bool | .faultclr => true | _ => false

/-- An ANNOUNCE. -/
def isAnnounce : Payload → Bool | .announce _ => true | _ => false

/-- A PANEL. -/
def isPanel : Payload → Bool | .panel _ => true | _ => false

/-- A JOG. -/
def isJog : Payload → Bool | .jog _ _ _ _ => true | _ => false

/-- A GO for a block. -/
def isGoFor (n : BlockNo) : Payload → Bool | .go m => n == m | _ => false

/-- A READY for a block. -/
def isReadyFor (n : BlockNo) : Payload → Bool | .ready m _ _ => n == m | _ => false

/-- An OVERRIDE of the knob form. -/
def isKnobOverride : Payload → Bool | .override f _ => f == 0 | _ => false

/-- An OVERRIDE of the clamp form. -/
def isClampOverride : Payload → Bool | .override f _ => f == 1 | _ => false

/-- A SPINDLE of the override form. -/
def isSpindleOverride : Payload → Bool | .spindle f _ _ _ => f == 2 | _ => false

/-! ### Raising and clearing (R45, R46, R181 to R183) -/

/-- The severity of a class; smaller is more severe (R181). -/
def classRank (c : Cond) : Nat := classCode (condClass c)

/-- Whether a raising is written into the record: it is empty, or the class is strictly more severe
(R181). -/
def writesRecord (c : Cond) (cu : CU) : Bool :=
  match cu.record with
  | none => true
  | some r => classRank c < classRank r.cond

/-- The condition unit after steps 1 and 2 of a raising: own set, fault count and flag, fault record
(R45, R181, R182). -/
def raisedCU (c : Cond) (detail : Byte) (tick : Tick) (running : Option BlockNo) (cu : CU) : CU :=
  let i := condNumber c
  let old := cu.counts.getD i 0
  { cu with
    own := cu.own ||| condBit c
    counts := cu.counts.set i (satAdd 255 old 1)
    overflow := if 255 ≤ old then cu.overflow ||| condBit c else cu.overflow
    record := if writesRecord c cu then
        some { cond := c, tick := tick, running := running, detail := detail }
      else cu.record
    reportSeq := cu.reportSeq + 1
    jogSeq := if c = .jogOverrun then cu.reportSeq + 1 else cu.jogSeq
    txqSeq := if c = .txqOverflow then cu.reportSeq + 1 else cu.txqSeq }

/-- Steps 1 and 2 of a raising at the node; a change of the own set is a change for STATE (R45). -/
def noteRaise (c : Cond) (detail : Byte) (n : Node) : Node :=
  { n with
    cu := raisedCU c detail n.pg.tick (runningBlock n) n.cu
    nt := { n.nt with changeNoted := n.nt.changeNoted || !condIn c n.cu.own } }

/-- A request to send taken into the queue, and whether the queue overflowed. -/
def enqueueAt (p : Payload) (byClear : Bool) (n : Node) : Node × Bool :=
  let r := enqueue p byClear n.cu.reportSeq n.lc
  ({ n with lc := r.1 }, r.2)

/-- The FAULT asked for on a write of the record: a pending one not asked for by a FAULTCLR is withdrawn
first (R183). -/
def requestFault (n : Node) : Node × Bool :=
  let m := withdrawPending (fun e => isFault e.payload && !e.byClear) n
  enqueueAt (.fault (faultBody m)) false m

/-- TXQ_OVERFLOW raised: its FAULT may itself overflow the queue, which raises it once more without a
write of the record (R15, R45). -/
def raiseOverflow (n : Node) : Node :=
  let n1 := noteRaise .txqOverflow 0 n
  if writesRecord .txqOverflow n.cu then
    let r := requestFault n1
    if r.2 then noteRaise .txqOverflow 0 r.1 else r.1
  else n1

/-- A unit's request to send, with the overflow it may cause (R12, R15). -/
def askWith (p : Payload) (byClear : Bool) (n : Node) : Node :=
  let r := enqueueAt p byClear n
  if r.2 then raiseOverflow r.1 else r.1

/-- A unit's request to send. -/
def ask (p : Payload) (n : Node) : Node := askWith p false n

/-- The FAULT of a write of the record (R183). -/
def askFault (n : Node) : Node :=
  let r := requestFault n
  if r.2 then raiseOverflow r.1 else r.1

/-- A raising up to its FAULT: what every class has in common (R45). -/
def raiseCommon (c : Cond) (detail : Byte) (n : Node) : Node :=
  let n1 := noteRaise c detail n
  if writesRecord c n.cu then askFault n1 else n1

/-- A WARN-class condition is raised (R45). -/
def raiseWarn (c : Cond) (detail : Byte) (n : Node) : Node := raiseCommon c detail n

/-- Whether a HOLD, from any sender, has been accepted and waits for its apply tick. -/
def keptHold (n : Node) : Bool := n.kept.any fun k => isHold k.payload

/-- Whether a RESUME, from any sender, has been accepted and waits for its apply tick. -/
def keptResume (n : Node) : Bool := n.kept.any fun k => isResume k.payload

/-- The held test: a HOLD is asked for when a HOLD-class condition is in the own set, held is clear and
no HOLD is on its way (R50). -/
def heldTest (n : Node) : Node :=
  if hasHold n.cu.own && !n.cu.held && !txHas isHold n && !keptHold n then ask .hold n else n

/-- A HOLD-class condition is raised (R45, R50). -/
def raiseHold (c : Cond) (detail : Byte) (n : Node) : Node := heldTest (raiseCommon c detail n)

/-- A condition leaves the own set; nothing changes where it is not in it (R46). -/
def clearCond (c : Cond) (n : Node) : Node :=
  if condIn c n.cu.own then
    { n with
      cu := { n.cu with own := n.cu.own &&& ~~~condBit c }
      nt := { n.nt with changeNoted := true } }
  else n

/-- The STOPALL asked for while one is owed and none of the node's own waits (R177). -/
def askStopall (n : Node) : Node :=
  if n.cu.owed && !txHas isStopall n then ask .stopall n else n

/-- A STATE is asked for: its contents are taken now and the timer set to 0 (R53). -/
def askState (n : Node) : Node :=
  ask (.state (stateBody n))
    { n with nt := { n.nt with stateTimer := 0, changeNoted := false, lastKey := some (reportKey n) } }

end Sys2Proof.Machine
end

