-- ==== Sys2Proof/Machine/AxisBase.lean ====
section
/-! DEFINITION. One axis channel by itself (chapter 7): position scaling, compensation, the local mover,
the drive's change of state, the ends of a jog and of a reference sequence. -/

namespace Sys2Proof.Machine

/-! ### Position and compensation (R101, R106 to R108) -/

/-- The actual position: count × num / den rounded down and clamped to the signed 32-bit range (R101). -/
def actualOf (p : AxisParams) (count : Int) : Int := clamp32 (floorDiv (count * p.num) p.den)

/-- The correction an entry's word carries (R187). -/
def compCorrection (e : CompEntry) : Int := (e.word.extractLsb' 0 12).toInt

/-- Whether an entry counts as valid: its valid flag is set and no parity test of it has failed (R106,
R108). -/
def compValid (e : CompEntry) : Bool := e.word.getLsbD 14 && !e.failed

/-- The number of ones of a bit list. -/
def onesOf (bs : List Bool) : Nat := (bs.filter id).length

/-- The parity test: bits 15, 14 and 11 to 0 together hold an odd number of ones (R108, R187). -/
def compParityOk (e : CompEntry) : Bool :=
  onesOf (e.word.getLsbD 15 :: e.word.getLsbD 14 :: bitsOf 12 (e.word.extractLsb' 0 12).toNat) % 2 == 1

/-- An entry of the map; past its end an entry that is not valid. -/
def compAt (i : Nat) (a : Axis) : CompEntry := a.comp.getD i { word := 0, failed := true }

/-- The correction an entry counts with: 0 where it is not valid (R106). -/
def compValue (i : Nat) (a : Axis) : Int := if compValid (compAt i a) then compCorrection (compAt i a) else 0

/-- The last index of the map. -/
def compLast (a : Axis) : Nat := a.comp.length - 1

/-- The cell of the map that holds x: 0 below 0, i + 1 in segment i, last index + 1 at or beyond the
last index (R106). -/
def compCell (seg : Nat) (a : Axis) (x : Int) : Nat :=
  if x < 0 then 0
  else if (compLast a : Int) * seg ≤ x then compLast a + 1
  else x.toNat / seg + 1

/-- The entries a cell uses (R106). -/
def cellEntries (a : Axis) (k : Nat) : List Nat :=
  if k = 0 then [0] else if compLast a + 1 ≤ k then [compLast a] else [k - 1, k]

/-- Whether the correction is valid in a cell (R106). -/
def cellValid (a : Axis) (k : Nat) : Bool := (cellEntries a k).all fun i => compValid (compAt i a)

/-- The correction of R107 at x, parity apart. -/
def correctionAt (seg : Nat) (a : Axis) (x : Int) : Int :=
  if x < 0 then compValue 0 a
  else if (compLast a : Int) * seg ≤ x then compValue (compLast a) a
  else
    let i := x.toNat / seg
    compValue i a + truncDiv ((compValue (i + 1) a - compValue i a) * (x - (i : Int) * seg)) seg

/-- The entries of a list of indexes that are valid and fail their parity test (R108). -/
def parityFailures (a : Axis) (is : List Nat) : List Nat :=
  is.filter fun i => compValid (compAt i a) && !compParityOk (compAt i a)

/-- The map with entries marked invalid until the next full reset (R108). -/
def markFailed (is : List Nat) (a : Axis) : Axis :=
  { a with comp := is.foldl (fun c i => c.set i { (compAt i a) with failed := true }) a.comp }

/-- The computation of R107 at a position, taken as for a referenced axis: the channel with any entry
that fails its parity test marked, the correction (where a test failed, the one that step 3 of the
previous tick used, also for the tracking position: DESIGN CHOICE, assumption log 52) and the number of
failures (R108). -/
def correctionRead (p : AxisParams) (a : Axis) (c : Int) : Axis × Int × Nat :=
  match p.seg with
  | none => (a, 0, 0)
  | some seg =>
    let x := c - p.compOrigin
    let bad := parityFailures a (cellEntries a (compCell seg a x))
    if bad.isEmpty then (a, correctionAt seg a x, 0)
    else (markFailed bad a, a.lastComp, bad.length)

/-- The correction at a position: 0 for an unreferenced axis (R107). -/
def correction (p : AxisParams) (a : Axis) (c : Int) : Axis × Int × Nat :=
  if a.referenced then correctionRead p a c else (a, 0, 0)

/-- The cell of a commanded position. -/
def cellOf (p : AxisParams) (seg : Nat) (a : Axis) (c : Int) : Nat := compCell seg a (c - p.compOrigin)

/-- The first commanded position of a cell above the lowest one. -/
def cellStart (p : AxisParams) (seg k : Nat) : Int := p.compOrigin + ((k : Int) - 1) * seg

/-- Whether some cell from `k` on, `n` cells upward, is not valid. -/
def invalidAmong (a : Axis) : Nat → Nat → Bool
  | _, 0 => false
  | k, n + 1 => !cellValid a k || invalidAmong a (k + 1) n

/-- Whether some position from `s` to `t`, both included, lies in an invalid segment (R123). -/
def crossesGap (p : AxisParams) (a : Axis) (s t : Int) : Bool :=
  match p.seg with
  | none => false
  | some seg =>
    let ks := cellOf p seg a s
    let kt := cellOf p seg a t
    invalidAmong a (min ks kt) (max ks kt - min ks kt + 1)

/-- The first invalid cell met going up from cell `k` over `n` cells, after the invalid segment the
travel starts in has been left (R121); `left` says that it has. -/
def gapUp (a : Axis) : Bool → Nat → Nat → Option Nat
  | _, _, 0 => none
  | left, k, n + 1 =>
    if cellValid a k then gapUp a true (k + 1) n
    else if left then some k else gapUp a false (k + 1) n

/-- The first invalid cell met going down. -/
def gapDown (a : Axis) : Bool → Nat → Nat → Option Nat
  | _, _, 0 => none
  | left, k, n + 1 =>
    if cellValid a k then gapDown a true (k - 1) n
    else if left then some k else gapDown a false (k - 1) n

/-- The jog target stopped at the last position before the first invalid segment in the direction of
travel; the segment that holds the commanded position does not stop it (R121). -/
def clampToGap (p : AxisParams) (a : Axis) (c t : Int) : Int :=
  match p.seg with
  | none => t
  | some seg =>
    let kc := cellOf p seg a c
    let kt := cellOf p seg a t
    if c ≤ t then
      match gapUp a (cellValid a kc) (kc + 1) (kt - kc) with
      | some k => cellStart p seg k - 1
      | none => t
    else
      match gapDown a (cellValid a kc) (kc - 1) (kc - kt) with
      | some k => cellStart p seg (k + 1)
      | none => t

/-- A position clamped to the soft window of a referenced axis (R103). -/
def clampWindow (p : AxisParams) (a : Axis) (x : Int) : Int :=
  if a.referenced then clampInt p.winLow p.winHigh x else x

/-- The tracking position before its clamp to the window, taken as for a referenced axis (R112). -/
def trackingRead (p : AxisParams) (a : Axis) : Axis × Int × Nat :=
  let r := correctionRead p a a.actual
  (r.1, a.actual - r.2.1, r.2.2)

/-- The tracking position (R112). -/
def tracking (p : AxisParams) (a : Axis) : Axis × Int × Nat :=
  if a.referenced then
    let r := trackingRead p a
    (r.1, clampInt p.winLow p.winHigh r.2.1, r.2.2)
  else (a, a.actual, 0)

/-! ### The local mover (R116) -/

/-- The scale of the q16 form (1.5). -/
def q16 : Int := 65536

/-- The stopping distance of a velocity, w² / (2 × Am) rounded down. -/
def moverStopDist (am w : Int) : Int := floorDiv (w * w) (2 * am)

/-- The velocity toward the target after a step: the first row of R116's table that applies. -/
def moverRow (v am r w : Int) : Int :=
  let a := min (w + am) v
  if w < 0 then min (w + am) 0
  else if w < v ∧ moverStopDist am a ≤ r - a then a
  else if 0 < w ∧ moverStopDist am w ≤ r - w then w
  else max (w - am) (min am v)

/-- The sign of a number. -/
def signOf (x : Int) : Int := if 0 < x then 1 else if x < 0 then -1 else 0

/-- One step of the mover with velocity limit `v` and acceleration `am` (R116). -/
def moverStep (v am : Int) (a : Axis) : Axis :=
  if a.moverStop then
    let u := signOf a.moverVel * max (a.moverVel.natAbs - am) 0
    { a with moverVel := u, moverPos := a.moverPos + u }
  else
    let r := a.moverTarget * q16 - a.moverPos
    let s := if r = 0 then -signOf a.moverVel else signOf r
    let w' := moverRow v am r.natAbs (s * a.moverVel)
    if 0 ≤ w' ∧ (r.natAbs : Int) ≤ w' then { a with moverPos := a.moverTarget * q16, moverVel := 0 }
    else { a with moverVel := s * w', moverPos := a.moverPos + s * w' }

/-- The mover is at rest: u is 0, and the stop mark is set or m equals the target (R116). -/
def moverAtRest (a : Axis) : Bool :=
  a.moverVel == 0 && (a.moverStop || a.moverPos == a.moverTarget * q16)

/-- A mover run begins from rest at the commanded position (R116). -/
def beginMover (target : Int) (a : Axis) : Axis :=
  { a with moverPos := a.commanded * q16, moverVel := 0, moverStop := false, moverTarget := target }

/-! ### Motion state, drive, jog and reference ends (R102, R111, R119, R122) -/

/-- A change from JOG or REFERENCE to IDLE makes the state CHAIN when the chain is not at rest (R102). -/
def idleMotion (rest : Bool) : Motion := if rest then .idle else .chain

/-- Whether a reference sequence runs. -/
def inSequence (a : Axis) : Bool :=
  a.ref == .seekSwitch || a.ref == .backOff || a.ref == .seekMark

/-- The jog and the reference sequence dropped at once when the drive leaves ENABLED (R102, R119,
R122). -/
def dropMotion (rest : Bool) (a : Axis) : Axis :=
  match a.motion with
  | .jog =>
    { a with motion := idleMotion rest, moverVel := 0, jogAccum := 0, jogTarget := a.commanded,
             jogEnding := false }
  | .reference =>
    { a with motion := idleMotion rest, moverVel := 0, ref := if inSequence a then .failed else a.ref }
  | _ => a

/-- A change of the drive state: the previous corrected command takes the present one, and outside
ENABLED the drive command and both runs are 0 (R109, R111). The stop timer ends at every exit from ENABLED, a fault's
included (R124; DESIGN CHOICE, assumption log 82). The present corrected command is the one last formed, until the next
step 3 forms one (DEDUCED, assumption log 97). -/
def setDrive (rest : Bool) (d : DriveState) (a : Axis) : Axis :=
  if a.drive = d then a
  else
    let b := if a.drive = .enabled then dropMotion rest a else a
    { b with drive := d, driveChanged := true, prevCorrected := a.corrected,
             driveTimer := if d = .enabling then 500 else 0, driveCommand := 0, followRun := 0, satRun := 0,
             stopTimer := if a.drive = .enabled then none else a.stopTimer }

/-- When the mover of an ended jog or sequence is at rest, the motion state becomes IDLE (R119, R122). -/
def restIfStill (rest : Bool) (a : Axis) : Axis :=
  if a.moverVel = 0 then { a with motion := idleMotion rest, jogEnding := false } else a

/-- A jog is ended early: the accumulator becomes 0 and the mover stops (R122). -/
def endJog (rest : Bool) (a : Axis) : Axis :=
  if a.motion = .jog then
    restIfStill rest
      { a with jogAccum := 0, jogTarget := a.commanded, moverStop := true, jogEnding := true }
  else a

/-- A reference sequence ends FAILED and the mover stops (R119). -/
def failReference (rest : Bool) (a : Axis) : Axis :=
  if a.motion = .reference ∧ inSequence a then
    restIfStill rest { a with ref := .failed, moverStop := true }
  else a

/-- The clamp output: on in CLAMPED and CLAMPING of a fitted clamp (R114, R115). -/
def clampOutput (p : AxisParams) (a : Axis) : Bool :=
  p.clampFitted && (a.clamp == .clamped || a.clamp == .clamping)

/-- Whether the axis counts as UNCLAMPED; a channel without a clamp always does (R114). -/
def isUnclamped (p : AxisParams) (a : Axis) : Bool := !p.clampFitted || a.clamp == .unclamped

/-- The enable output: on in ENABLING and ENABLED (R111). -/
def enableOutput (a : Axis) : Bool := a.drive == .enabling || a.drive == .enabled

end Sys2Proof.Machine
end

