-- ==== Sys2Proof/Machine/CoolantBase.lean ====
section
/-! DEFINITION. The coolant unit by itself (chapter 9): the circuits and their changes of state, the view
of the spindle speed and the TSC interlock, the clamp in force, the test for a lost circuit and the
reaction to the STOPPED latch. -/

namespace Sys2Proof.Machine

/-! ### Circuits -/

/-- The three circuits (chapter 9). -/
inductive Circ where
  | flood | tsc | air
  deriving DecidableEq, Repr

/-- The circuit number, used as detail. -/
def circNumber : Circ → Byte
  | .flood => 1 | .tsc => 2 | .air => 3

/-- Whether a set holds a circuit. -/
def inCirc (c : Circ) (s : CircSet) : Bool :=
  match c with
  | .flood => s.flood | .tsc => s.tsc | .air => s.air

/-- A set with a circuit's membership replaced. -/
def putCirc (c : Circ) (b : Bool) (s : CircSet) : CircSet :=
  match c with
  | .flood => { s with flood := b }
  | .tsc => { s with tsc := b }
  | .air => { s with air := b }

/-- A circuit's state. -/
def circState (c : Circ) (cl : CL) : CircuitState :=
  match c with
  | .flood => cl.flood | .tsc => cl.tsc | .air => cl.air

/-- The unit with a circuit's state replaced. -/
def putState (c : Circ) (s : CircuitState) (cl : CL) : CL :=
  match c with
  | .flood => { cl with flood := s }
  | .tsc => { cl with tsc := s }
  | .air => { cl with air := s }

/-- Whether a circuit counts as proven: TSC in PROVEN or DEGRADED, the others in PROVEN (R156). -/
def circProven (c : Circ) (cl : CL) : Bool :=
  circState c cl == .proven || (c == .tsc && circState c cl == .degraded)

/-- Whether a circuit's pump runs or its valve is open: STARTING, PROVEN or DEGRADED. -/
def circOn (s : CircuitState) : Bool := s == .starting || s == .proven || s == .degraded

/-- The TSC bleed valve: open in STOPPING, and in FAULT while the bleed timer runs (R148, R154). -/
def bleedOpen (cl : CL) : Bool := cl.tsc == .stopping || (cl.tsc == .fault && 0 < cl.bleed)

/-! ### View and interlock (R153) -/

/-- The view of the spindle speed (R153); 0 also where the written status gives no spindle actual rpm (DESIGN
CHOICE, assumption log 55). -/
def spindleView (n : Node) : Nat :=
  match lowestOwner Functions.spindle n with
  | some i =>
    match (entryAt i n).report with
    | some r => r.rpm.getD 0
    | none => 0
  | none => 0

/-- TANK_LOW is in the own condition set. -/
def tankIsLow (n : Node) : Bool := condIn .tankLow n.cu.own

/-- The TSC interlock (R153). -/
def interlock (p : CoolantParams) (n : Node) : Bool := p.tscMin ≤ spindleView n && !tankIsLow n

/-! ### Clamp in force (R155) -/

/-- The clamp OVERRIDE asked for; an earlier one still pending is withdrawn (R155). -/
def askClamp (n : Node) : Node :=
  ask (.override 1 (BitVec.ofNat 8 n.cl.clamp)) (withdrawPending (fun e => isClampOverride e.payload) n)

/-- A clamp OVERRIDE of the node's own is pending, in transmission, or kept for its apply tick. -/
def clampWaits (n : Node) : Bool :=
  txHas isClampOverride n || n.kept.any fun k => k.own && isClampOverride k.payload

/-- The comparison at the start of each motion tick: the clamp OVERRIDE is asked for again while the own
entry of the clamp list differs and none waits (R155). -/
def clampRepeat (n : Node) : Node :=
  if n.par.coolant.isSome && n.pg.clamps.getD (me n) 150 != n.cl.clamp && !clampWaits n then askClamp n
  else n

/-! ### Required circuits and their loss (R158, R159) -/

/-- A circuit is required while an entry is RUNNING and it is in the block coolant set (R158). -/
def required (c : Circ) (n : Node) : Bool := n.pg.run.isSome && inCirc c n.cl.blockSet

/-- A required circuit is failing (R159). -/
def failing (c : Circ) (n : Node) : Bool :=
  required c n && (!circProven c n.cl || (c == .tsc && n.cl.lossRun == 500))

/-- The loss mark of one circuit tested: cleared where it is no longer required, set with COOLANT_LOST
where it is found failing (R159). -/
def lossTest (c : Circ) (n : Node) : Node :=
  if !required c n then { n with cl := { n.cl with loss := putCirc c false n.cl.loss } }
  else if failing c n && !inCirc c n.cl.loss then
    raiseHold .coolantLost (circNumber c) { n with cl := { n.cl with loss := putCirc c true n.cl.loss } }
  else n

/-- The test of every circuit, in the order FLOOD, TSC, AIR (DESIGN CHOICE, assumption log 66), and COOLANT_LOST
cleared when no loss mark is set (R159). -/
def clLoss (n : Node) : Node :=
  if n.par.coolant.isSome then
    let m := lossTest .air (lossTest .tsc (lossTest .flood n))
    if m.cl.loss = .empty then clearCond .coolantLost m else m
  else n

/-! ### Changes of circuit state -/

/-- A circuit's state set; reaching PROVEN clears its loss mark (R159). -/
def enterState (c : Circ) (s : CircuitState) (cl : CL) : CL :=
  let x := putState c s cl
  if s = .proven then { x with loss := putCirc c false x.loss } else x

/-- FLOOD starts (R150). -/
def floodStart (n : Node) : Node :=
  clLoss { n with cl := { enterState .flood .starting n.cl with floodTimer := 3000 } }

/-- FLOOD is proven by its flow switch (R150). -/
def floodProven (n : Node) : Node :=
  clLoss { n with cl := { enterState .flood .proven n.cl with floodTimer := 0 } }

/-- FLOOD fails (R150). -/
def floodFault (n : Node) : Node :=
  clLoss { n with cl := { enterState .flood .fault n.cl with floodTimer := 0 } }

/-- FLOOD in STARTING or PROVEN stops (R150). -/
def floodStop (n : Node) : Node :=
  if circOn n.cl.flood then
    clLoss { n with cl := { enterState .flood .stopping n.cl with floodTimer := 3000 } }
  else n

/-- FLOOD is OFF (R150). -/
def floodOff (n : Node) : Node :=
  clLoss { n with cl := { enterState .flood .off n.cl with floodTimer := 0 } }

/-- COOLANT_DEGRADED clears and the clamp in force returns to 150 when TSC leaves DEGRADED (R155). -/
def leaveDegraded (n : Node) : Node :=
  askClamp { clearCond .coolantDegraded n with cl := { n.cl with clamp := 150 } }

/-- TSC's state set, with what leaving DEGRADED brings (R154, R155). -/
def setTsc (s : CircuitState) (timer bleed : Nat) (n : Node) : Node :=
  let m := { n with cl := { enterState .tsc s n.cl with
                              tscTimer := timer, bleed := bleed,
                              lowRun := if s = .proven then 0 else n.cl.lowRun } }
  clLoss (if n.cl.tsc = .degraded ∧ s ≠ .degraded then leaveDegraded m else m)

/-- TSC starts (R154). -/
def tscStart (n : Node) : Node := setTsc .starting 5000 0 n

/-- TSC is proven (R154). -/
def tscProven (n : Node) : Node := setTsc .proven 0 0 n

/-- TSC fails to start: pump off, bleed timer 1,000 (R154). -/
def tscFault (n : Node) : Node := setTsc .fault 0 1000 n

/-- TSC in STARTING, PROVEN or DEGRADED stops, with its bleed (R154). -/
def tscStop (n : Node) : Node := if circOn n.cl.tsc then setTsc .stopping 0 1000 n else n

/-- TSC is degraded: COOLANT_DEGRADED with detail 2, and the image's clamp in force (R155). -/
def tscDegrade (p : CoolantParams) (n : Node) : Node :=
  let m := setTsc .degraded 0 0 n
  let w := raiseWarn .coolantDegraded 2 m
  askClamp { w with cl := { w.cl with clamp := p.clamp } }

/-- The bleed has run out in STOPPING: TSC is OFF (R154). -/
def tscOff (n : Node) : Node := setTsc .off 0 0 n

/-- AIR in PROVEN becomes OFF (R151). -/
def airOff (n : Node) : Node :=
  if n.cl.air = .proven then clLoss { n with cl := enterState .air .off n.cl } else n

/-- AIR becomes PROVEN (R151). -/
def airOn (n : Node) : Node := clLoss { n with cl := enterState .air .proven n.cl }

/-- The interlock tested: a TSC that runs without it goes to STOPPING at once (R153). -/
def tscInterlockTest (n : Node) : Node :=
  match n.par.coolant with
  | some p => if circOn n.cl.tsc && !interlock p n then tscStop n else n
  | none => n

/-- TANK_LOW raised: both pumps stop (R149, R150, R153). -/
def tankLowRaised (n : Node) : Node := tscInterlockTest (floodStop (raiseWarn .tankLow 0 n))

/-- TANK_LOW cleared; the interlock is tested (R149, R153). -/
def tankLowCleared (n : Node) : Node := tscInterlockTest (clearCond .tankLow n)

/-! ### Demand (R148) -/

/-- The demand of a circuit set. -/
def setDemand (c : Circ) (b : Bool) (n : Node) : Node :=
  { n with cl := { n.cl with demand := putCirc c b n.cl.demand } }

/-- FLOOD compared with its demand (R148, R150). -/
def compareFlood (n : Node) : Node :=
  if n.cl.flood = .off then if n.cl.demand.flood && !tankIsLow n then floodStart n else n
  else if circOn n.cl.flood && (!n.cl.demand.flood || tankIsLow n) then floodStop n
  else n

/-- TSC compared with its demand (R148, R154). -/
def compareTsc (p : CoolantParams) (n : Node) : Node :=
  if n.cl.tsc = .off then if n.cl.demand.tsc && interlock p n then tscStart n else n
  else if circOn n.cl.tsc && !n.cl.demand.tsc then tscStop n
  else n

/-- AIR compared with its demand (R148, R151). -/
def compareAir (n : Node) : Node :=
  if n.cl.air = .off then if n.cl.demand.air && !n.cu.stopped then airOn n else n
  else if n.cl.air = .proven && !n.cl.demand.air then airOff n
  else n

/-! ### The stop (R161) -/

/-- The unit's reaction when the STOPPED latch becomes set (R161). -/
def clStopReaction (n : Node) : Node :=
  if n.par.coolant.isSome then
    airOff (tscStop (floodStop { n with cl := { n.cl with demand := .empty, manualOff := .empty } }))
  else n

end Sys2Proof.Machine
end

