-- ==== Sys2Proof/Machine/SpindleBase.lean ====
section
/-! DEFINITION. The spindle and gearbox unit by itself (chapter 8): the readings of the shifters and the
pattern they form, the settling of a request, the speed command, the change of the gearbox state and the
reaction to the STOPPED latch. -/

namespace Sys2Proof.Machine

/-! ### Shifters and pattern (R138) -/

/-- A shifter's reading (R138). -/
inductive ForkReading where
  | p1 | p2 | neutral | conflict
  deriving DecidableEq, Repr

/-- The pattern of the two shifters; a conflict names the lower shifter that reads it (R138). -/
inductive Pattern where
  | valid (r : Gear)
  | opened
  | conflict (sh : Shifter)
  deriving DecidableEq, Repr

/-- A reading formed from the sensors of position 1 and position 2 (R138). -/
def forkReading (s1 s2 : Bool) : ForkReading :=
  match s1, s2 with
  | true, false => .p1
  | false, true => .p2
  | false, false => .neutral
  | true, true => .conflict

/-- A shifter's reading from its debounced levels. -/
def readingOf (sh : Shifter) (sg : SG) : ForkReading :=
  match sh with
  | .a => forkReading sg.a1.level sg.a2.level
  | .b => forkReading sg.b1.level sg.b2.level

/-- The reading of a fork that stands in a position. -/
def readingAt : ForkPos → ForkReading
  | .p1 => .p1
  | .p2 => .p2

/-- Whether a range's record carries the positions the shifters read. -/
def patternNames (p : SpindleParams) (a b : ForkReading) (r : Gear) : Bool :=
  readingAt (rangeOf p r).posA == a && readingAt (rangeOf p r).posB == b

/-- The range the positions name; the image's relations make it exactly one of the four (8.2, R27). -/
def namedRange (p : SpindleParams) (a b : ForkReading) : Option Gear :=
  [Gear.g1, .g2, .g3, .g4].find? (patternNames p a b)

/-- The pattern (R138). With both shifters in Conflict it names shifter A, so that GEAR_FAULT is raised once,
with A as its detail (DESIGN CHOICE, assumption log 53). -/
def patternOf (p : SpindleParams) (sg : SG) : Pattern :=
  if readingOf .a sg = .conflict then .conflict .a
  else if readingOf .b sg = .conflict then .conflict .b
  else
    match namedRange p (readingOf .a sg) (readingOf .b sg) with
    | some r => .valid r
    | none => .opened

/-! ### Estimate and tests (R127) -/

/-- The spindle estimate of a motor speed: × 1,000 / ratio, rounded down and clamped to 9,999 (R127). -/
def estimateOf (rec : RangeRec) (feedback : Nat) : Nat := min (feedback * 1000 / rec.ratio) 9999

/-- The range with the smallest ratio, the lowest-numbered among equal ones (R127). -/
def smallestRatio (p : SpindleParams) : Gear :=
  let le (a b : Gear) : Gear := if (rangeOf p b).ratio < (rangeOf p a).ratio then b else a
  le (le (le .g1 .g2) .g3) .g4

/-- The spindle is at rest when the rest run stands at 100 (R127). -/
def spindleRest (sg : SG) : Bool := sg.restRun == 100

/-- The spindle is turning while RUNNING or STOPPING, or while the estimate is 2 rpm or more (R127). -/
def turning (sg : SG) : Bool := sg.spindle != .stopped || 2 ≤ sg.estimate

/-- Whether the gearbox is ENGAGED in a range. -/
def engagedIn (r : Gear) (sg : SG) : Bool := sg.gear == .engaged r

/-- Whether a shift is in progress: one of its four states. -/
def shifting (sg : SG) : Bool :=
  sg.gear == .stoppingForShift || sg.gear == .shiftingA || sg.gear == .shiftingB ||
  sg.gear == .toNeutral

/-- Whether the gearbox takes a request: ENGAGED or UNKNOWN (R135, R137). -/
def takesRequest (sg : SG) : Bool :=
  match sg.gear with
  | .engaged _ => true
  | .unknown => true
  | _ => false

/-! ### Settling a request (R128) -/

/-- The lowest-numbered range whose maximum is at least a speed, range 4 where none reaches it. -/
def autoRange (p : SpindleParams) (s : Nat) : Gear :=
  if s ≤ p.r1.max then .g1 else if s ≤ p.r2.max then .g2 else if s ≤ p.r3.max then .g3 else .g4

/-- A request settled: the range used, the speed kept and whether it was clamped; `sel` is `none` for
the automatic choice (R128). -/
def settle (p : SpindleParams) (s : Nat) (sel : Option Gear) : Gear × Nat × Bool :=
  let r := sel.getD (autoRange p s)
  if s ≤ (rangeOf p r).max then (r, s, false) else (r, (rangeOf p r).max, true)

/-- SPEED_LIMITED as a settling leaves it: raised with the range used where the request was clamped,
cleared otherwise (R128). -/
def noteSettled (r : Gear) (clamped : Bool) (n : Node) : Node :=
  if clamped then raiseWarn .speedLimited (BitVec.ofNat 8 (gearNumber r)) n
  else clearCond .speedLimited n

/-- A request of a speed and direction as it is kept: a kept speed of 0 is "stopped" (R128). -/
def keptRequest (rpm : Nat) (ccw : Bool) : Option SpeedDir :=
  if rpm = 0 then none else some { rpm := rpm, ccw := ccw }

/-! ### Speed command and spindle state (R130, R132) -/

/-- The speed command: 0 while the request is "stopped", the gearbox not ENGAGED or STOPPED set;
otherwise the overridden speed clamped to the range's limits (R130). -/
def commandOf (p : SpindleParams) (stopped : Bool) (sg : SG) : Nat :=
  match sg.request, sg.gear, stopped with
  | some q, .engaged r, false =>
    clampNat (rangeOf p r).min (rangeOf p r).max (q.rpm * sg.override / 100)
  | _, _, _ => 0

/-- The spindle state as the command becomes above 0 or becomes 0 (R132). -/
def stateForCommand (c : Nat) : SpindleState → SpindleState
  | .stopped => if 0 < c then .running else .stopped
  | .running => if 0 < c then .running else .stopping
  | .stopping => if 0 < c then .running else .stopping

/-- The unit with its command set and the spindle state that follows; a command of 0 is never at speed
(R130, R132, R133). -/
def withCommand (c : Nat) (sg : SG) : SG :=
  { sg with command := c, spindle := stateForCommand c sg.spindle, atSpeed := 0 < c && sg.atSpeed,
            commandCcw := match sg.request with | some q => q.ccw | none => sg.commandCcw }

/-- The speed command formed at a motion tick or at the entry into ENGAGED (R130, R141). -/
def formCommand (p : SpindleParams) (n : Node) : Node :=
  { n with sg := withCommand (commandOf p n.cu.stopped n.sg) n.sg }

/-- The command made 0 where R130 makes it 0, at once and not at the next motion tick (DEDUCED, assumption log 32);
otherwise it stands as last formed. -/
def dropCommand (p : SpindleParams) (n : Node) : Node :=
  if commandOf p n.cu.stopped n.sg = 0 then { n with sg := withCommand 0 n.sg } else n

/-- The actual rpm lies within 5 percent of the command (R133). -/
def withinBand (n : Node) : Bool :=
  match n.sg.gear with
  | .engaged _ =>
    0 < n.sg.command && ((actualRpm n : Int) - n.sg.command).natAbs * 20 ≤ n.sg.command
  | _ => false

/-- The gearbox state changed: ENGAGED(r) makes r the reference range (R127, R141), and outside ENGAGED
the speed command is 0 (R130). -/
def setGear (g : GearState) (sg : SG) : SG :=
  match g with
  | .engaged r => { sg with gear := g, refRange := r }
  | _ => withCommand 0 { sg with gear := g }

/-- Every solenoid off and no nudge: a step or neutral return has ended (R138, R142, R145). -/
def endNudge (sg : SG) : SG :=
  { sg with nudging := false, nudgeTimer := 0, nudgeMinus := false, shiftTimer := 0 }

/-- The spindle becomes STOPPED with ramped speed 0 (R132), and its stop timer stops (DEDUCED, assumption log 34). -/
def spindleStopped (sg : SG) : SG := { sg with spindle := .stopped, ramped := 0, stopTimer := none }

/-- The gearbox set from its present pattern: ENGAGED, UNKNOWN, or GEAR_FAULT with the condition raised
(R144, R145, R147). -/
def gearFromPattern (p : SpindleParams) (n : Node) : Node :=
  match patternOf p n.sg with
  | .valid r => { n with sg := setGear (.engaged r) n.sg }
  | .opened => { n with sg := setGear .unknown n.sg }
  | .conflict sh =>
    raiseHold .gearFault (shifterNumber sh) { n with sg := setGear .gearFault n.sg }

/-- A shift aborted by the latch (R145). -/
def abortShift (p : SpindleParams) (n : Node) : Node :=
  if shifting n.sg then gearFromPattern p { n with sg := { endNudge n.sg with retries := 0 } } else n

/-- The unit's reaction when the STOPPED latch becomes set (R145). -/
def sgStopReaction (n : Node) : Node :=
  match n.par.spindle with
  | none => n
  | some p =>
    let n1 := abortShift p { n with sg := { n.sg with request := none, manualStop := false } }
    let n2 := if n1.sg.spindle = .stopped then n1
      else { n1 with sg := { n1.sg with stopTimer := some 2000 } }
    dropCommand p n2

/-! ### The shift (R140 to R143) -/

/-- A shift to a range begins (R140). -/
def beginShift (t : Gear) (sg : SG) : SG :=
  setGear .stoppingForShift { sg with target := some t, retries := 0 }

/-- A request settled in a range kept as the spindle request, with the shift it may begin (R128, R135,
R137, R140). -/
def takeRequest (req : Option SpeedDir) (r : Option Gear) (sg : SG) : SG :=
  let s := { sg with request := req }
  match r with
  | some t => if engagedIn t s then s else beginShift t s
  | none => s

/-- The position the target range's record names for a shifter. -/
def targetPos (p : SpindleParams) (sh : Shifter) (sg : SG) : ForkPos :=
  match sg.target, sh with
  | some t, .a => (rangeOf p t).posA
  | some t, .b => (rangeOf p t).posB
  | none, _ => .p1

/-- Whether a shifter reads its target position. -/
def readsTarget (p : SpindleParams) (sh : Shifter) (sg : SG) : Bool :=
  readingOf sh sg == readingAt (targetPos p sh sg)

/-- A fresh nudge with the sign plus and a timer of 200 ticks (R142). -/
def startNudge (shiftTimer : Nat) (sg : SG) : SG :=
  { sg with nudging := true, nudgeTimer := 200, nudgeMinus := false, shiftTimer := shiftTimer }

/-- The state of a shifter's step. -/
def stepState : Shifter → GearState
  | .a => .shiftingA
  | .b => .shiftingB

/-- A step of a shifter that has failed: the neutral return (R143). -/
def neutralReturn (sh : Shifter) (sg : SG) : SG :=
  startNudge 2000 (setGear .toNeutral { sg with step := sh })

/-- The end test and the entry into ENGAGED(t) (R141). -/
def endShift (p : SpindleParams) (n : Node) : Node :=
  if readsTarget p .a n.sg then
    match n.sg.target with
    | some t =>
      formCommand p (clearCond .gearRetry
        { n with sg := { setGear (.engaged t) (endNudge n.sg) with retries := 0 } })
    | none => n
  else { n with sg := neutralReturn .a n.sg }

/-- The step of shifter B begins; it ends at once where B already reads its target (R141). -/
def beginStepB (p : SpindleParams) (n : Node) : Node :=
  let s := { setGear .shiftingB (endNudge n.sg) with step := .b }
  if readsTarget p .b s then endShift p { n with sg := s } else { n with sg := startNudge 4000 s }

/-- The step of shifter A begins; it passes on at once where A already reads its target (R141). -/
def beginStepA (p : SpindleParams) (n : Node) : Node :=
  let s := { setGear .shiftingA (endNudge n.sg) with step := .a }
  if readsTarget p .a s then beginStepB p { n with sg := s } else { n with sg := startNudge 4000 s }

/-- A shifter's step begins anew. -/
def beginStep (p : SpindleParams) (sh : Shifter) (n : Node) : Node :=
  match sh with
  | .a => beginStepA p n
  | .b => beginStepB p n

/-- A step is confirmed: the solenoid is off, the nudge ends and the gearbox passes on (R141). -/
def stepConfirmed (p : SpindleParams) (n : Node) : Node :=
  match n.sg.step with
  | .a => beginStepB p { n with sg := endNudge n.sg }
  | .b => endShift p { n with sg := endNudge n.sg }

/-- GEAR_FAULT entered from TO_NEUTRAL, with the failed shifter as detail (R143). -/
def shiftGivenUp (n : Node) : Node :=
  raiseHold .gearFault (shifterNumber n.sg.step) { n with sg := setGear .gearFault (endNudge n.sg) }

/-- The failed shifter reads Neutral: a retry, or GEAR_FAULT after two retries (R143). -/
def neutralReached (p : SpindleParams) (n : Node) : Node :=
  if n.sg.retries < 2 then
    beginStep p n.sg.step
      (raiseWarn .gearRetry (shifterNumber n.sg.step)
        { n with sg := { endNudge n.sg with retries := n.sg.retries + 1 } })
  else shiftGivenUp n

/-- The gearbox at rest in STOPPING_FOR_SHIFT: the spindle is STOPPED and shifter A's step begins
(R140). -/
def shiftFromRest (p : SpindleParams) (n : Node) : Node :=
  beginStepA p { n with sg := spindleStopped n.sg }

/-! ### The outputs (R131, R142, R146) -/

/-- The clamp of a drive command to ±32,767. -/
def clampDrive (x : Int) : Int := clampInt (-32767) 32767 x

/-- The nudge command (R142). -/
def nudgeCommand (p : SpindleParams) (minus : Bool) : Int :=
  let c := truncDiv ((p.nudge : Int) * 32767) p.motorMax
  if minus then -c else c

/-- The spindle drive enable (R131). -/
def spindleEnable (sg : SG) : Bool := sg.spindle != .stopped || sg.nudging

/-- The spindle drive command (R131). -/
def spindleDrive (p : SpindleParams) (sg : SG) : Int :=
  match sg.spindle with
  | .stopped => if sg.nudging then nudgeCommand p sg.nudgeMinus else 0
  | _ =>
    clampDrive (truncDiv (sg.ramped * (rangeOf p sg.refRange).ratio * 32767) (256000 * (p.motorMax : Int)))

/-- The solenoids of a shifter: one for each position and one for the return to neutral (R141, R143). -/
inductive Coil where
  | position (sh : Shifter) (pos : ForkPos)
  | neutral (sh : Shifter)
  deriving DecidableEq, Repr

/-- The solenoid that is energized, if one is: the stepped shifter's target solenoid while its step runs,
the failed shifter's return solenoid in TO_NEUTRAL, and none in every other state (R146). -/
def solenoidOn (p : SpindleParams) (sg : SG) : Option Coil :=
  match sg.gear with
  | .shiftingA => some (.position sg.step (targetPos p sg.step sg))
  | .shiftingB => some (.position sg.step (targetPos p sg.step sg))
  | .toNeutral => some (.neutral sg.step)
  | .engaged _ => none
  | .unknown => none
  | .stoppingForShift => none
  | .gearFault => none

/-- The drive command output as it stands after a change of the unit (R131). -/
def driveOut (p : SpindleParams) (sg : SG) : SG := { sg with driveCmd := spindleDrive p sg }

end Sys2Proof.Machine
end

