-- ==== Sys2Proof/Machine/Stop.lean ====
section
/-! DEFINITION. The STOPPED latch (11.2, 11.3): what happens when it becomes set, and the raising of a
STOP-class condition. -/

namespace Sys2Proof.Machine

/-- A channel's state changed by a function. -/
def onAx (c : Chan) (f : Axis → Axis) (n : Node) : Node := setAx c (f (getAx c n)) n

/-- A function of the node applied for each used channel (R100), AX0 first (DESIGN CHOICE, assumption log 84). -/
def forAxes (f : Chan → AxisParams → Node → Node) (n : Node) : Node :=
  let one (c : Chan) (m : Node) : Node := match axParams c m with | some p => f c p m | none => m
  one .ax1 (one .ax0 n)

/-- An ENABLING drive becomes DISABLED when the latch becomes set (R111, R178). -/
def latchDrive (c : Chan) (_ : AxisParams) (n : Node) : Node :=
  if (getAx c n).drive = .enabling then onAx c (setDrive (chainAtRest n) .disabled) n else n

/-- The STOPPED latch set; the units that react do so when it becomes set: the drives, then the spindle, then
the coolant unit (R178, R111, R145, R161; the order is a DESIGN CHOICE, assumption log 56). -/
def setLatch (n : Node) : Node :=
  if n.cu.stopped then n
  else
    clStopReaction (sgStopReaction (forAxes latchDrive { n with cu := { n.cu with stopped := true } }))

/-- A STOP-class condition is raised: the owed mark, the STOPALL and the latch (R45, R177). -/
def raiseStop (c : Cond) (detail : Byte) (n : Node) : Node :=
  let m := raiseCommon c detail n
  setLatch (askStopall { m with cu := { m.cu with owed := true } })

/-- A condition is raised as its class demands (R45). -/
def raise (c : Cond) (detail : Byte) (n : Node) : Node :=
  match condClass c with
  | .stop => raiseStop c detail n
  | .hold => raiseHold c detail n
  | .warn => raiseWarn c detail n

/-- The latch set by a stop learnt from a peer's condition set: a STOPALL is owed where none has been
accepted since the latch was last clear (R178). -/
def learnStop (n : Node) : Node :=
  let m := if n.cu.stopallSince then n else { n with cu := { n.cu with owed := true } }
  setLatch m

end Sys2Proof.Machine
end

