-- ==== Sys2Proof/Machine/Rest.lean ====
section
/-! DEFINITION. The removal of entries and what follows when the head changes and when the chain comes to
rest (5.7, R102), and the mode with its source (4.8). -/

namespace Sys2Proof.Machine

/-! ### The head -/

/-- The block number of the head. -/
def headNum (n : Node) : Option BlockNo := (headEntry n).map Entry.num

/-- The head wait timer preset from the image (R72). -/
def presetHead (n : Node) : Node := { n with bq := { n.bq with headTimer := n.par.headWait } }

/-- The abandoned-unclamp marks cleared (R114). -/
def clearAbandoned (n : Node) : Node :=
  { n with ax0 := { n.ax0 with abandoned := false }, ax1 := { n.ax1 with abandoned := false } }

/-- What a change of the head brings: START_STALL clears and the head wait timer is preset (R72), the
manual stop mark, the manual off marks and the abandoned-unclamp marks clear (R137, R157, R114). -/
def headChanged (n : Node) : Node :=
  let m := clearAbandoned (clearCond .startStall (presetHead n))
  { m with sg := { m.sg with manualStop := false }, cl := { m.cl with manualOff := .empty } }

/-- The change of the head noted where the head is no longer the one it was. -/
def noteHead (old : Option BlockNo) (n : Node) : Node := if headNum n = old then n else headChanged n

/-- The node's READY for a block that is no longer the head withdrawn (R14, R66). -/
def withdrawReady (num : BlockNo) (n : Node) : Node := withdrawNamed (isReadyFor num) n

/-- The node's READY and GO for a removed entry withdrawn (R14, R66, R73). -/
def withdrawVerdict (num : BlockNo) (n : Node) : Node :=
  withdrawNamed (fun p => isReadyFor num p || isGoFor num p) n

/-! ### Removal (R73, R75) -/

/-- Whether an entry of the queue carries a number. -/
def hasEntry (num : BlockNo) (es : List Entry) : Bool := es.any fun e => e.num == num

/-- The kept frames without the GO frames whose entry is gone (R73, R75). -/
def dropKeptGo (es : List Entry) (ks : List Kept) : List Kept :=
  ks.filter fun k => match k.payload with | .go m => hasEntry m es | _ => true

/-- The entries that pass a test removed: their kept GO frames are discarded, their pending READY and GO
withdrawn, and a RUNNING entry that is removed with its chain leaves the path (R73). -/
def removeEntries (gone : Entry → Bool) (n : Node) : Node :=
  let old := headNum n
  let left := n.bq.entries.filter fun e => !gone e
  let cut := n.bq.entries.any fun e => gone e && inChain e
  let m := { n with
    bq := { n.bq with entries := left }
    kept := dropKeptGo left n.kept
    pg := if cut then { n.pg with run := none, stopMark := false, carry := none } else n.pg }
  noteHead old ((n.bq.entries.filter gone).foldl (fun k e => withdrawVerdict e.num k) m)

/-- The target of the last entry that lists the axis of a channel; `rec` picks the channel's record. -/
def lastTarget (rec : Entry → Option AxisRec) (es : List Entry) : Option Int :=
  es.reverse.findSome? fun e =>
    match rec e with
    | some (.resolved _ t _) => some t
    | _ => none

/-- A channel's planned end after a removal: the last remaining target, or the commanded position where
the chain is at rest or no remaining entry lists the axis (R73). -/
def plannedAfter (rec : Entry → Option AxisRec) (n : Node) (a : Axis) : Axis :=
  { a with planned :=
      if chainAtRest n then a.commanded else (lastTarget rec n.bq.entries).getD a.commanded }

/-- Step 3 of R73: each local planned end. -/
def setPlanned (n : Node) : Node :=
  { n with ax0 := plannedAfter Entry.rec0 n n.ax0, ax1 := plannedAfter Entry.rec1 n n.ax1 }

/-- Step 5 of R73: the records in force become unknown and the head wait timer is preset. -/
def forgetForce (n : Node) : Node :=
  presetHead { n with bq := { n.bq with spindleForce := none, rangeForce := none, coolantForce := none } }

/-- The block coolant set becomes empty (R158). -/
def emptyBlockSet (n : Node) : Node := { n with cl := { n.cl with blockSet := .empty } }

/-- A motion state CHAIN becomes IDLE when the chain is at rest (R102). -/
def restMotion (a : Axis) : Axis := if a.motion = .chain then { a with motion := .idle } else a

/-- The channels after the chain has come to rest (R102). -/
def motionsAtRest (n : Node) : Node :=
  if chainAtRest n then { n with ax0 := restMotion n.ax0, ax1 := restMotion n.ax1 } else n

/-- Every entry removed, the expected number "any", and steps 3 and 5 of R73 (R75). -/
def removeAll (n : Node) : Node :=
  let m := removeEntries (fun _ => true) n
  let k := setPlanned { m with bq := { m.bq with expected := none } }
  clLoss (motionsAtRest (emptyBlockSet (forgetForce k)))

/-! ### Ends of jogs and reference sequences (R119, R122) -/

/-- A channel's jog ended early (R122). -/
def axEndJog (c : Chan) (_ : AxisParams) (n : Node) : Node := onAx c (endJog (chainAtRest n)) n

/-- A channel's reference sequence ended FAILED without REF_FAILED (R119). -/
def axFailQuiet (c : Chan) (_ : AxisParams) (n : Node) : Node := onAx c (failReference (chainAtRest n)) n

/-- A channel's reference sequence ended FAILED with REF_FAILED raised (R119). -/
def axFailRaised (c : Chan) (_ : AxisParams) (n : Node) : Node :=
  if (getAx c n).motion = .reference ∧ inSequence (getAx c n) then
    raiseWarn .refFailed (chanNumber c) (onAx c (failReference (chainAtRest n)) n)
  else n

/-! ### The mode (R51, R52) -/

/-- The channels' reaction to an adopted mode: AUTO ends a jog, leaving SETUP fails a sequence (R119,
R122). -/
def modeReaction (m : Mode) (n : Node) : Node :=
  let j := if m = .auto then forAxes axEndJog n else n
  if m = .setup then j else forAxes axFailRaised j

/-- A mode adopted: every entry is removed, the mode taken, and MODE_SWITCH clears (R52, R75). -/
def adoptMode (n : Node) : Node :=
  let k := removeAll n
  clearCond .modeSwitch
    (modeReaction k.nt.sourceMode { k with nt := { k.nt with mode := k.nt.sourceMode } })

/-- What follows when the chain may have come to rest: the motion states, the required circuits, and the
adoption that MODE_SWITCH waits for (R102, R159, R52). -/
def afterRest (n : Node) : Node :=
  let m := clLoss (motionsAtRest n)
  if chainAtRest m && condIn .modeSwitch m.cu.own then adoptMode m else m

/-- The mode source's enabling switch goes off: jogs end and sequences fail (R51, R119, R122). -/
def enablingOff (n : Node) : Node := forAxes axFailRaised (forAxes axEndJog n)

/-- The source mode compared with the node's mode (R52). -/
def compareMode (n : Node) : Node :=
  if n.nt.sourceMode = n.nt.mode then clearCond .modeSwitch n
  else if chainAtRest n then adoptMode n
  else if condIn .modeSwitch n.cu.own then n
  else raiseHold .modeSwitch (BitVec.ofNat 8 (n.nt.modeSource.getD 0)) n

/-- The mode source and the source mode formed again (R51). Where the enabling switch goes off and the mode differs
at one re-forming, jogs and sequences end first, REF_FAILED included, and the mode is compared after (DESIGN CHOICE,
assumption log 79). -/
def reformMode (n : Node) : Node :=
  let was := n.nt.enabling
  let m := { n with nt := { n.nt with
    modeSource := modeSourceOf n, sourceMode := sourceModeOf n, enabling := enablingOf n } }
  compareMode (if was && !m.nt.enabling then enablingOff m else m)

/-! ### The end of the stop deceleration (R75, R92) -/

/-- The report that the path has reached velocity 0 after a STOPALL: every entry is removed (R75). -/
def stopReached (n : Node) : Node := afterRest (removeAll { n with pg := { n.pg with stopMark := false } })

end Sys2Proof.Machine
end

