-- ==== Sys2Proof/Machine/Judge.lean ====
section
/-! DEFINITION. The judgements of the units on the head entry and the verdict a node forms of them (R62,
R64, R65, R123, R136, R156). -/

namespace Sys2Proof.Machine

/-! ### Roles (R62) -/

/-- The node that fills a role, from the node table: LIVE and identified entries only (R62). -/
def roleOwner (r : Role) (n : Node) : Option Nat :=
  match r with
  | .axis a => lowestOwner (ownsAxis a) n
  | .spindle => lowestOwner Functions.spindle n
  | .coolant => lowestOwner Functions.coolant n
  | .standIn => lowestOwner (fun f => f.ax0.isSome || f.ax1.isSome) n

/-- Whether the spindle role is needed (R62). -/
def needsSpindle (f : BlockFields) (bq : BQ) : Bool :=
  (f.spindle.isSome && bq.spindleForce != f.spindle) ||
  (1 ≤ f.gear && f.gear ≤ 4 && bq.rangeForce != some f.gear)

/-- Whether the coolant role is needed (R62). -/
def needsCoolant (f : BlockFields) (bq : BQ) : Bool := f.coolant.isSome && bq.coolantForce != f.coolant

/-- The roles a block needs, settled at its evaluation (R62, R63). -/
def neededRoles (f : BlockFields) (bq : BQ) : List Role :=
  let rs := f.comps.map (fun c => Role.axis c.axis) ++
    (if needsSpindle f bq then [.spindle] else []) ++ (if needsCoolant f bq then [.coolant] else [])
  if rs.isEmpty then [.standIn] else rs

/-- The roles with the nodes that fill them now. -/
def fillRoles (rs : List Role) (n : Node) : List RoleFill :=
  rs.map fun r => { role := r, node := roleOwner r n }

/-- The participants of an entry, each node once (R62). -/
def participants (e : Entry) : List Nat := (e.roles.filterMap RoleFill.node).dedup

/-- Whether an entry is orphaned: a needed role has no node (R62). -/
def orphanedBy (rs : List RoleFill) : Bool := rs.any fun r => r.node.isNone

/-- Whether the node fills a role of an entry. -/
def fills (r : Role) (e : Entry) (n : Node) : Bool :=
  e.roles.any fun x => x.role == r && x.node == some (me n)

/-- The node is a participant of an entry. -/
def participates (e : Entry) (n : Node) : Bool := (participants e).contains (me n)

/-! ### A unit's judgement (R64) -/

/-- What one unit gives: READY with or without a ceiling, WAIT or REFUSE with a reason (R64). -/
inductive UnitVerdict where
  | ready (ceiling : Option Nat)
  | wait (r : WaitReason)
  | refuse (r : RefuseReason)
  deriving DecidableEq, Repr

/-- The component of an entry that lists an axis. -/
def compFor (a : Nat) (f : BlockFields) : Option Comp := f.comps.find? fun c => c.axis == a

/-- A channel's record in an entry. -/
def recFor (c : Chan) (e : Entry) : Option AxisRec :=
  match c with
  | .ax0 => e.rec0
  | .ax1 => e.rec1

/-- Whether a displacement points toward a side whose limit mark is set (R113, R123). -/
def towardMark (a : Axis) (d : Int) : Bool := (0 < d && a.markPlus) || (d < 0 && a.markMinus)

/-- The ceiling of R65, clamped to 0 to 150. -/
def axisCeiling (p : AxisParams) (f : BlockFields) (d : Int) : Nat :=
  min (100 * p.vmax * f.len / (f.feed * d.natAbs)) 150

/-- The acceleration test and the ceiling of R65 apply: the axis is displaced, and L is not 0. -/
def rated (f : BlockFields) (d : Int) : Bool := d != 0 && 0 < f.len

/-- A channel's judgement on a resolved component (R123, R65). -/
def axisJudge (p : AxisParams) (a : Axis) (f : BlockFields) (s t : Int) (inWindow : Bool) : UnitVerdict :=
  let d := t - s
  if t < p.winLow ∨ p.winHigh < t ∨ inWindow = false ∨ towardMark a d = true then .refuse .travel
  else if a.referenced ∧ crossesGap p a s t = true then .refuse .compGap
  else if a.referenced = false then .refuse .unreferenced
  else if rated f d = true ∧ p.amax * f.len < f.acc * d.natAbs then .refuse .axisAccel
  else if rated f d = true ∧ axisCeiling p f d = 0 then .refuse .axisSpeed
  else if a.drive ≠ .enabled ∨ a.motion = .jog ∨ a.motion = .reference then .wait .driveOff
  else if p.clampFitted = true ∧ d ≠ 0 ∧ a.clamp ≠ .unclamped then .wait .unclamping
  else .ready (if rated f d then some (axisCeiling p f d) else none)

/-- A channel's judgement on an entry; `none` where its axis is not listed. -/
def chanJudge (c : Chan) (e : Entry) (n : Node) : Option UnitVerdict :=
  match axParams c n, e.fields, recFor c e with
  | some _, some _, some (.unresolved r) => some (.refuse r)
  | some p, some f, some (.resolved s t w) => some (axisJudge p (getAx c n) f s t w)
  | _, _, _ => none

/-! ### The spindle and gearbox unit (R136) -/

/-- The settled target of an entry: the request, the target range and whether the settling clamped it
(R136, R128). -/
structure SpindleTarget where
  request : Option SpeedDir
  range   : Option Gear
  clamped : Bool
  deriving DecidableEq, Repr

/-- The target speed and direction before settling: the entry's, or the present request (R136). -/
def targetSpeed (f : BlockFields) (sg : SG) : Option SpeedDir :=
  match f.spindle with
  | some sp => keptRequest sp.rpm sp.ccw
  | none => sg.request

/-- The settled target of an entry (R136). -/
def spindleTarget (p : SpindleParams) (f : BlockFields) (sg : SG) : SpindleTarget :=
  match targetSpeed f sg with
  | none => { request := none, range := gearOfNumber f.gear, clamped := false }
  | some sp =>
    let s := settle p sp.rpm (gearOfNumber f.gear)
    { request := keptRequest s.2.1 sp.ccw, range := some s.1, clamped := s.2.2 }

/-- A target range is set and the gearbox is not ENGAGED in it (R136, R137). -/
def wantsShift (t : SpindleTarget) (sg : SG) : Bool :=
  match t.range with
  | some r => !engagedIn r sg
  | none => false

/-- The unit's judgement on an entry: WAIT SPINDLE_SPEED while the manual stop mark is set (R137, assumption
log 48), and otherwise the first row of R136 that applies. -/
def spindleJudge (p : SpindleParams) (f : BlockFields) (n : Node) : UnitVerdict :=
  let t := spindleTarget p f n.sg
  if n.sg.manualStop = true then .wait .spindleSpeed
  else if n.sg.gear = .gearFault then .refuse .gearFault
  else if chainAtRest n = false then .wait .chainBusy
  else if wantsShift t n.sg = true then .wait .shifting
  else if n.sg.request ≠ t.request ∨ (t.request.isSome = true ∧ n.sg.atSpeed = false) ∨
      (t.request = none ∧ n.sg.spindle ≠ .stopped) then .wait .spindleSpeed
  else .ready none

/-! ### The coolant unit (R156) -/

/-- Whether some circuit of a set passes a test. -/
def anyCirc (s : CircSet) (test : Circ → Bool) : Bool :=
  (s.flood && test .flood) || (s.tsc && test .tsc) || (s.air && test .air)

/-- The unit's judgement on the circuits a coolant field names (R156). -/
def coolantJudge (p : CoolantParams) (c : CircSet) (n : Node) : UnitVerdict :=
  if anyCirc c (fun x => circState x n.cl == .fault) = true then .refuse .noCircuit
  else if (c.tsc && !circProven .tsc n.cl && spindleView n < p.tscMin) = true then .wait .spindleSpeed
  else if (((c.flood && !circProven .flood n.cl) || (c.tsc && !circProven .tsc n.cl)) && tankIsLow n) = true
  then .wait .tankLow
  else if anyCirc c (fun x => !circProven x n.cl) = true then .wait .coolantStart
  else .ready none

/-! ### The node's verdict (R64) -/

/-- The judgements of the used units that the participant's roles bring in (R64). -/
def unitVerdicts (e : Entry) (n : Node) : List UnitVerdict :=
  let sp := match n.par.spindle, e.fields with
    | some p, some f => if fills .spindle e n then [spindleJudge p f n] else []
    | _, _ => []
  let co := match n.par.coolant, e.fields with
    | some p, some f =>
      if fills .coolant e n then [coolantJudge p (f.coolant.getD .empty) n] else []
    | _, _ => []
  (chanJudge .ax0 e n).toList ++ (chanJudge .ax1 e n).toList ++ sp ++ co

/-- The refusals among judgements. -/
def refusals (vs : List UnitVerdict) : List RefuseReason :=
  vs.filterMap fun v => match v with | .refuse r => some r | _ => none

/-- The waits among judgements. -/
def waits (vs : List UnitVerdict) : List WaitReason :=
  vs.filterMap fun v => match v with | .wait r => some r | _ => none

/-- The ceilings among judgements. -/
def ceilings (vs : List UnitVerdict) : List Nat :=
  vs.filterMap fun v => match v with | .ready c => c | _ => none

/-- The element of a list that stands first in an order, if there is one. -/
def firstBy {α : Type} (key : α → Nat) : List α → Option α
  | [] => none
  | x :: xs =>
    match firstBy key xs with
    | some y => if key y < key x then some y else some x
    | none => some x

/-- The verdict formed of the units' judgements: a refusal before a wait before READY, the reason first
in R64's table, the smallest ceiling or 150 (R64). -/
def verdictFrom (vs : List UnitVerdict) : Verdict :=
  match firstBy refuseCode (refusals vs), firstBy waitCode (waits vs) with
  | some r, _ => .refuse r
  | none, some w => .wait w
  | none, none => .ready ((ceilings vs).foldl min 150)

/-- The node's own verdict on an entry (R64). -/
def ownVerdict (e : Entry) (n : Node) : Verdict := verdictFrom (unitVerdicts e n)

end Sys2Proof.Machine
end

