-- ==== Sys2Proof/Machine/Queue.lean ====
section
/-! DEFINITION. The block queue (chapter 5): acceptance of blocks, evaluation, verdicts, GO and
commitment, the start and the removal of a running entry, the head wait timer and FLUSH; with the acts of
the spindle and coolant units on the head (R137, R157). -/

namespace Sys2Proof.Machine

/-! ### Entries -/

/-- The node with the entry of a number changed. -/
def onEntry (num : BlockNo) (f : Entry → Entry) (n : Node) : Node :=
  { n with bq := { n.bq with entries := n.bq.entries.map fun e => if e.num = num then f e else e } }

/-- The head where it is EVALUATED. -/
def evaluatedHead (n : Node) : Option Entry :=
  match headEntry n with
  | some e => if e.state = .evaluated then some e else none
  | none => none

/-! ### Acts of the units on the head -/

/-- The conditions under which the coolant unit acts on a head whose coolant role the node fills (R157). -/
def clMayAct (e : Entry) (n : Node) : Bool :=
  n.par.coolant.isSome && fills .coolant e n && n.nt.mode == .auto && !n.cu.held && !n.cu.stopped

/-- The demand of each circuit a block names set on, but for the circuits turned off by hand (R157). -/
def demandOn (c off d : CircSet) : CircSet :=
  { flood := d.flood || (c.flood && !off.flood), tsc := d.tsc || (c.tsc && !off.tsc),
    air := d.air || (c.air && !off.air) }

/-- The coolant unit acts on the head (R157). -/
def clActOn (e : Entry) (n : Node) : Node :=
  match e.fields with
  | some f =>
    if clMayAct e n then
      { n with cl := { n.cl with demand := demandOn (f.coolant.getD .empty) n.cl.manualOff n.cl.demand } }
    else n
  | none => n

/-- The coolant unit's act at the start of a motion tick (R157). -/
def clActHead (n : Node) : Node :=
  match evaluatedHead n with
  | some e => clActOn e n
  | none => n

/-- The conditions under which the spindle unit acts on a head (R137). -/
def sgMayAct (e : Entry) (t : SpindleTarget) (n : Node) : Bool :=
  fills .spindle e n && n.nt.mode == .auto && !n.cu.held && !n.cu.stopped && chainAtRest n &&
  takesRequest n.sg && !n.sg.manualStop && (n.sg.request != t.request || wantsShift t n.sg)

/-- The spindle unit acts: the settled target becomes the request, with the shift it may need (R137). -/
def sgActOn (t : SpindleTarget) (n : Node) : Node :=
  let m := match t.range with
    | some r => noteSettled r t.clamped n
    | none => clearCond .speedLimited n
  { m with sg := takeRequest t.request t.range m.sg }

/-- The spindle unit's act at the start of a motion tick (R137). -/
def sgActHead (n : Node) : Node :=
  match n.par.spindle, evaluatedHead n with
  | some p, some e =>
    match e.fields with
    | some f =>
      let t := spindleTarget p f n.sg
      if sgMayAct e t n then dropCommand p (sgActOn t n) else n
    | none => n
  | _, _ => n

/-! ### Verdicts and READY (R64 to R68) -/

/-- A READY asked for with the present verdict (R66). -/
def askReady (num : BlockNo) (v : Verdict) (n : Node) : Node :=
  ask (.ready num (verdictBytes v).1 (verdictBytes v).2)
    (onEntry num (fun e => { e with lastAsked := some v }) n)

/-- The verdict recorded for a node in an entry. -/
def recordedVerdict (i : Nat) (e : Entry) : Option Verdict := (e.verdicts.find? fun x => x.1 == i).map Prod.snd

/-- The verdict formed at the evaluation (R64, R66). -/
def firstVerdict (e : Entry) (n : Node) : Node :=
  if participates e n then askReady e.num (ownVerdict e n) n else n

/-- The verdict formed at the start of a motion tick, and the READY it may call for (R64, R66). -/
def verdictTick (n : Node) : Node :=
  match evaluatedHead n with
  | some e =>
    if participates e n then
      let v := ownVerdict e n
      if e.lastAsked ≠ some v ∨
          (recordedVerdict (me n) e ≠ some v ∧ txHas (isReadyFor e.num) n = false) then
        askReady e.num v n
      else n
    else n
  | none => n

/-- The head evaluated where it is QUEUED (R61). -/
def evaluateHead (n : Node) : Node :=
  match headEntry n with
  | some e =>
    match e.state, e.fields with
    | .queued, some f =>
      let rs := fillRoles (neededRoles f n.bq) n
      let e1 := { e with state := .evaluated, roles := rs, orphan := orphanedBy rs, verdicts := [] }
      firstVerdict e1 (clActOn e1 (onEntry e.num (fun _ => e1) n))
    | _, _ => n
  | none => n

/-- The roles of the EVALUATED head filled afresh: a node that leaves the participants loses its verdict
(R63). -/
def refillRoles (n : Node) : Node :=
  match evaluatedHead n with
  | some e =>
    let rs := fillRoles (e.roles.map RoleFill.role) n
    onEntry e.num (fun x =>
      let y := { x with roles := rs, orphan := orphanedBy rs }
      { y with verdicts := y.verdicts.filter fun v => (participants y).contains v.1 }) n
  | none => n

/-- The verdict recorded for a node made absent (R63). -/
def forgetVerdict (i : Nat) (n : Node) : Node :=
  match evaluatedHead n with
  | some e => onEntry e.num (fun x => { x with verdicts := x.verdicts.filter fun v => v.1 != i }) n
  | none => n

/-! ### GO (R69, R70) -/

/-- Whether every participant's recorded verdict is READY (R69). -/
def allReady (e : Entry) : Bool :=
  (participants e).all fun i =>
    match recordedVerdict i e with
    | some (.ready _) => true
    | _ => false

/-- The node is a GO candidate for an EVALUATED head (R69). -/
def isCandidate (e : Entry) (n : Node) : Bool :=
  participates e n && allReady e && !e.orphan && n.nt.mode == .auto && !n.cu.held &&
  !hasHold (machineConds n) && !hasStop (machineConds n) && !n.cu.stopped && e.goStamp.isNone

/-- The node's own GO for a block withdrawn (R14, R69). -/
def withdrawGo (num : BlockNo) (n : Node) : Node := withdrawNamed (isGoFor num) n

/-- The test of candidacy, with the GO it asks for or withdraws (R69). -/
def goTest (n : Node) : Node :=
  match evaluatedHead n with
  | some e =>
    if isCandidate e n then
      if txHas (isGoFor e.num) n then n else ask (.go e.num) n
    else withdrawGo e.num n
  | none => n

/-- An accepted READY recorded, with BLOCK_REFUSED for a REFUSE, and the test of candidacy (R67 to R69). -/
def recordReady (sender : Nat) (num : BlockNo) (v : Verdict) (n : Node) : Node :=
  let m := match evaluatedHead n with
    | some e =>
      if e.num = num ∧ (participants e).contains sender = true then
        let k := onEntry num (fun x =>
          { x with verdicts := (x.verdicts.filter fun y => y.1 != sender) ++ [(sender, v)] }) n
        match v with
        | .refuse _ => raiseWarn .blockRefused (BitVec.ofNat 8 sender) k
        | _ => k
      else n
    | none => n
  goTest m

/-! ### Commitment (R70, R71) -/

/-- The ceiling fixed at a commitment: the smallest READY ceiling among the recorded verdicts, and 150 where none
is recorded here (R70; DESIGN CHOICE, assumption log 61). -/
def commitCeiling (e : Entry) : Nat :=
  (e.verdicts.filterMap fun v => match v.2 with | .ready c => some c | _ => none).foldl min 150

/-- The start tick without a predecessor (R71). -/
def startAlone (g now : Tick) : Tick := if later (g + 4) now then g + 4 else now + 1

/-- The records in force after a commitment (R62, R70). -/
def takeForce (f : BlockFields) (bq : BQ) : BQ :=
  { bq with
    spindleForce := if f.spindle.isSome then f.spindle else bq.spindleForce
    rangeForce := if f.spindle.isSome || (1 ≤ f.gear && f.gear ≤ 4) then some f.gear else bq.rangeForce
    coolantForce := if f.coolant.isSome then f.coolant else bq.coolantForce }

/-- A motion state IDLE becomes CHAIN when the chain leaves rest (R102). -/
def chainMotion (a : Axis) : Axis := if a.motion = .idle then { a with motion := .chain } else a

/-- A used channel's motion state as the chain leaves rest (R102). -/
def axLeavesRest (c : Chan) (_ : AxisParams) (n : Node) : Node := onAx c chainMotion n

/-- The manual speed record takes a speed above 0 with its direction (R173). -/
def manualSpeed (rpm : Nat) (ccw : Bool) (n : Node) : Node :=
  if n.par.pendant.isSome && 0 < rpm then
    { n with pd := { n.pd with manual := some { rpm := rpm, ccw := ccw } } }
  else n

/-- The manual speed record after a commitment (R173). -/
def manualFromBlock (f : BlockFields) (n : Node) : Node :=
  match f.spindle with
  | some sp => manualSpeed sp.rpm sp.ccw n
  | none => n

/-- The commitment of the head by a GO of full stamp tick `g` (R70, R71). -/
def commit (e : Entry) (f : BlockFields) (g : Tick) (n : Node) : Node :=
  let rest := chainAtRest n
  let start := if rest then StartTick.at (startAlone g n.pg.tick) else .afterPredecessor
  let m := onEntry e.num (fun x =>
    { x with state := .committed, ceiling := commitCeiling e, verdicts := [], goStamp := some g,
             start := start }) n
  let k := withdrawReady e.num (manualFromBlock f { m with bq := takeForce f m.bq })
  evaluateHead (forAxes axLeavesRest (headChanged k))

/-- A kept GO applied: the head is committed, or the GO is discarded with SYNC_SLIP where STOPPED is set
or the entry orphaned (R70). -/
def applyGo (num : BlockNo) (g : Tick) (sender : Nat) (n : Node) : Node :=
  match evaluatedHead n with
  | some e =>
    match e.fields with
    | some f =>
      if e.num ≠ num then n
      else if n.cu.stopped ∨ e.orphan then raiseHold .syncSlip (BitVec.ofNat 8 sender) n
      else commit e f g n
    | none => n
  | none => n

/-- What the queue makes of an accepted GO (R70). -/
inductive GoCase where
  | ignored
  | kept
  | gap
  deriving DecidableEq, Repr

/-- The case of an accepted GO (R70). The last completed block is a duplicate even where its number is the EVALUATED
head's again after a FLUSH (DESIGN CHOICE, assumption log 72). -/
def goCase (num : BlockNo) (n : Node) : GoCase :=
  match n.bq.entries.find? fun e => e.num == num with
  | none => .ignored
  | some e =>
    if n.bq.last = some num ∨ inChain e || e.goStamp.isSome then .ignored
    else if headNum n = some num then
      if e.state = .evaluated then .kept else .gap
    else .gap

/-- SEQUENCE_GAP raised with the low byte of a number (R58, R70). -/
def raiseGap (num : BlockNo) (n : Node) : Node := raiseHold .sequenceGap (num.setWidth 8) n

/-! ### Start and removal (R71, R80, R158) -/

/-- The carried velocity a block starts with: the predecessor's, where its final tick was the tick just
before (R80). -/
def carriedInto (n : Node) : Nat :=
  match n.pg.carry with
  | some (t, v) => if t + 1 = n.pg.tick then v else 0
  | none => 0

/-- The profile state a block starts with (R80, R86). -/
def startRun (e : Entry) (f : BlockFields) (n : Node) : Run :=
  { num := e.num, len := f.len, feed := f.feed, acc := f.acc, junction := f.junction, cont := f.cont,
    ceiling := e.ceiling, p := 0, v := if f.len = 0 then 0 else carriedInto n, elapsed := 0,
    dwell := if f.len = 0 then max f.dwell 1 else 0, fresh := true, final := false, carry := 0 }

/-- The coolant unit at a start tick: the block coolant set and the demands it leaves out (R158). -/
def clStart (f : BlockFields) (cl : CL) : CL :=
  match f.coolant with
  | none => cl
  | some c =>
    { cl with blockSet := c
              demand := { flood := cl.demand.flood && c.flood, tsc := cl.demand.tsc && c.tsc,
                          air := cl.demand.air && c.air } }

/-- The COMMITTED entry becomes RUNNING and the path profile generator takes it (R71, R80, R158). -/
def startEntry (e : Entry) (f : BlockFields) (n : Node) : Node :=
  let m := onEntry e.num (fun x => { x with state := .running }) n
  { m with pg := { m.pg with run := some (startRun e f m), carry := none }
           cl := if m.par.coolant.isSome then clStart f m.cl else m.cl }

/-- The first entry, where it is COMMITTED, its start tick is settled and no entry is RUNNING. -/
def startable (n : Node) : Option (Entry × BlockFields × Tick) :=
  match n.bq.entries.head?, n.pg.run with
  | some e, none =>
    match e.state, e.start, e.fields with
    | .committed, .at t, some f => some (e, f, t)
    | _, _, _ => none
  | _, _ => none

/-- The start of a block whose start tick is the present tick (R71). -/
def startTick (n : Node) : Node :=
  match startable n with
  | some (e, f, t) => if t = n.pg.tick then startEntry e f n else n
  | none => n

/-- The start tick of the entry behind a removed one settled: the later of G + 4 and the final tick + 1
(R71). -/
def settleStart (final : Tick) (es : List Entry) : List Entry :=
  match es with
  | [] => []
  | e :: rest =>
    (match e.state, e.start, e.goStamp with
     | .committed, .afterPredecessor, some g => { e with start := .at (laterOf (g + 4) (final + 1)) }
     | _, _, _ => e) :: rest

/-- The RUNNING entry removed at the end of its final tick: the last completed block takes its number, the
successor's start tick is settled and the carried velocity handed on (R71, R85). No entry is RUNNING until
the successor starts, so no circuit is required at the boundary of two blocks and its loss mark clears there
(R158, R159; DESIGN CHOICE, assumption log 54). -/
def finishBlock (r : Run) (n : Node) : Node :=
  let es := settleStart n.pg.tick (n.bq.entries.filter fun e => e.num != r.num)
  let carried := if es.any inChain then some (n.pg.tick, r.carry) else none
  afterRest
    { n with bq := { n.bq with entries := es, last := some r.num }
             pg := { n.pg with run := none, carry := carried } }

/-- The end of the tick: a running entry whose final tick this was is removed (R71). -/
def endOfTick (n : Node) : Node :=
  match n.pg.run with
  | some r => if r.final then finishBlock r n else n
  | none => n

/-! ### Acceptance of a BLOCK (R57 to R61) -/

/-- A component's machine target through a frame record (R60). -/
def machineTarget (r : FrameRec) (t : Int) : Int := (if r.mirror then -t else t) + r.offset

/-- Whether a machine target lies inside a record's travel window (R105). -/
def insideWindow (r : FrameRec) (t : Int) : Bool :=
  match r.window with
  | none => true
  | some (lo, hi) => lo ≤ t && t ≤ hi

/-- A component resolved by its channel: the record and the planned end it leaves (R60, R105). -/
def resolveComp (frameSel : Nat) (t : Int) (a : Axis) : AxisRec × Int :=
  let r := a.frames.getD frameSel (FrameRec.blank false)
  let m := machineTarget r t
  if r.valid = false then (.unresolved .frameInvalid, a.planned)
  else if m < posMin ∨ posMax < m then (.unresolved .travel, a.planned)
  else (.resolved a.planned m (insideWindow r m), m)

/-- A channel's record for a block, and the channel with its planned end (R60). -/
def resolveAx (c : Chan) (f : BlockFields) (n : Node) : Option AxisRec × Node :=
  match axParams c n, axNumber c n with
  | some _, some a =>
    match compFor a f with
    | some comp =>
      let x := resolveComp f.frameSel comp.target (getAx c n)
      (some x.1, onAx c (fun ax => { ax with planned := x.2 }) n)
    | none => (none, n)
  | _, _ => (none, n)

/-- A new entry (R56). -/
def newEntry (num : BlockNo) (st : EntryState) (f : Option BlockFields) (r0 r1 : Option AxisRec) : Entry :=
  { num := num, state := st, fields := f, rec0 := r0, rec1 := r1, roles := [], orphan := false,
    verdicts := [], lastAsked := none, goStamp := none, ceiling := 0, start := .unset }

/-- A taken block's entry and the node with its planned ends (R58 to R60). -/
def takenEntry (b : BlockBody) (n : Node) : Entry × Node :=
  if blockGoodForm b then
    let f := blockFields b
    let r0 := resolveAx .ax0 f n
    let r1 := resolveAx .ax1 f r0.2
    (newEntry b.num .queued (some f) r0.1 r1.1, r1.2)
  else (newEntry b.num .invalid none none none, n)

/-- The queue takes a number: it is the expected one, or "any" is expected (R57, R58). -/
def takesNumber (num : BlockNo) (bq : BQ) : Bool :=
  match bq.expected with
  | none => true
  | some e => e == num

/-- A number that lies 1 to 32 behind the expected one is a duplicate (R58). -/
def isDuplicate (num : BlockNo) (bq : BQ) : Bool :=
  match bq.expected with
  | none => false
  | some e => 1 ≤ (e - num).toNat && (e - num).toNat ≤ 32

/-- The queue can take a BLOCK (R57). -/
def canTakeBlock (num : BlockNo) (n : Node) : Bool :=
  !bqUsed n || n.bq.entries.length < 16 || !takesNumber num n.bq

/-- A block taken: a new entry at the end, the expected number one on, and the evaluation of an entry that
enters a queue with no head (R58, R61). -/
def takeBlock (b : BlockBody) (n : Node) : Node :=
  let old := headNum n
  let x := takenEntry b n
  let m := x.2
  evaluateHead (noteHead old
    { m with bq := { m.bq with entries := m.bq.entries ++ [x.1], expected := some (b.num + 1) } })

/-- An accepted BLOCK (R58). -/
def acceptBlock (b : BlockBody) (n : Node) : Node :=
  if takesNumber b.num n.bq then if n.bq.entries.length < 16 then takeBlock b n else n
  else if isDuplicate b.num n.bq then n
  else raiseGap b.num n

/-! ### The head wait timer (R72) -/

/-- Whether the head wait timer counts (R72). -/
def headTimerRuns (n : Node) : Bool :=
  chainAtRest n && (headEntry n).isSome && !n.cu.held && n.nt.mode == .auto && 0 < n.bq.headTimer

/-- START_STALL raised with the low byte of the head's number (R72). -/
def raiseStall (n : Node) : Node :=
  raiseWarn .startStall (((headNum n).getD 0).setWidth 8) { n with bq := { n.bq with headTimer := 0 } }

/-- The head wait timer at the start of a motion tick (R72). -/
def headTimerTick (n : Node) : Node :=
  if headTimerRuns n then
    if n.bq.headTimer = 1 then raiseStall n
    else { n with bq := { n.bq with headTimer := n.bq.headTimer - 1 } }
  else n

/-! ### FLUSH (R73) -/

/-- The expected number a FLUSH leaves (R73). -/
def flushExpected (e : Option BlockNo) (es : List Entry) : Option BlockNo :=
  match es.getLast?, e with
  | none, _ => e
  | some l, some m => if ahead m l.num then some m else some (l.num + 1)
  | some l, none => some (l.num + 1)

/-- The entries an accepted FLUSH removes: those not committed, and where the node is held at velocity 0
the chain as well (R73). -/
def flushed (n : Node) (e : Entry) : Bool := uncommitted e || (n.cu.held && pathVelocity n == 0)

/-- An accepted FLUSH with its expected number (R73, R46, R158). Where it brings a held chain to rest under MODE_SWITCH,
the mode is adopted after step 5, so that the adoption's "any" stands and not the FLUSH's number (R52; DESIGN CHOICE,
assumption log 94). -/
def acceptFlush (num : Option BlockNo) (n : Node) : Node :=
  let m := setPlanned (removeEntries (flushed n) n)
  let k := forgetForce { m with bq := { m.bq with expected := flushExpected num m.bq.entries } }
  let c := clearCond .blockRefused (clearCond .peerRejoined (clearCond .sequenceGap k))
  afterRest (emptyBlockSet c)

/-! ### Adoption of a mode while the chain is held (R52) -/

/-- MODE_SWITCH is set, the node held and the path at velocity 0 (R52). -/
def adoptionDue (n : Node) : Bool := condIn .modeSwitch n.cu.own && n.cu.held && pathVelocity n == 0

/-- The test of R52 at the end of the profile step. -/
def adoptionTest (n : Node) : Node := if adoptionDue n then adoptMode n else n

end Sys2Proof.Machine
end

