-- ==== Sys2Proof/Machine/NodeTable.lean ====
section
/-! DEFINITION. The node table (chapter 4): liveness, what ANNOUNCE, STATE and PANEL write, the conflict
checks, and what the other units make of a changed table. -/

namespace Sys2Proof.Machine

/-! ### Conflict checks (R40 to R44) -/

/-- Whether two functions clash: a common axis number, or a function both have (R42). -/
def functionsClash (f g : Functions) : Bool :=
  (f.ax0.isSome && (f.ax0 == g.ax0 || f.ax0 == g.ax1)) ||
  (f.ax1.isSome && (f.ax1 == g.ax0 || f.ax1 == g.ax1)) ||
  (f.spindle && g.spindle) || (f.coolant && g.coolant) || (f.pendant && g.pendant)

/-- The clashing pairs of node numbers, the lower number first (R42). -/
def clashPairs (n : Node) : List (Nat × Nat) :=
  (List.range 16).flatMap fun i =>
    ((List.range 16).filter fun j =>
      i < j && functionsClash (owned (entryAt i n)) (owned (entryAt j n))).map fun j => (i, j)

/-- The test for a clash: OWNER_CLASH is raised for each pair that did not clash at the previous test and
clears when none is left (R42). The pairs are raised in the order of their numbers (DESIGN CHOICE, assumption log
70). -/
def clashTest (n : Node) : Node :=
  let now := clashPairs n
  let fresh := now.filter fun p => !n.nt.clashes.contains p
  let m := fresh.foldl (fun k p => raiseStop .ownerClash (BitVec.ofNat 8 p.2) k)
    { n with nt := { n.nt with clashes := now } }
  if now.isEmpty then clearCond .ownerClash m else m

/-- Whether an entry is LIVE and identified with a machine tag other than the node's own (R43). -/
def mismatched (n : Node) (i : Nat) : Bool :=
  let e := entryAt i n
  e.state == .live && e.funcs.isSome && e.tag.any fun t => t != n.par.ident.tag

/-- MACHINE_MISMATCH cleared when every LIVE and identified entry carries the own tag (R43). -/
def mismatchClear (n : Node) : Node :=
  if (List.range 16).any (mismatched n) then n else clearCond .machineMismatch n

/-- MACHINE_MISMATCH raised for an entry that becomes LIVE or is written with a differing tag (R43). -/
def mismatchRaise (i : Nat) (n : Node) : Node :=
  if mismatched n i then raiseStop .machineMismatch (BitVec.ofNat 8 i) n else n

/-- UNEXPECTED_NODE raised for an entry outside the expected set that becomes LIVE (R44). -/
def unexpectedRaise (i : Nat) (n : Node) : Node :=
  if expects i n then n else raiseWarn .unexpectedNode (BitVec.ofNat 8 i) n

/-- UNEXPECTED_NODE cleared when no LIVE entry lies outside the expected set (R44). -/
def unexpectedClear (n : Node) : Node :=
  if (List.range 16).any fun i => !expects i n && (entryAt i n).state == .live then n
  else clearCond .unexpectedNode n

/-- PEER_LOST cleared when no entry of a node in the expected set is LOST (R40). -/
def peerLostClear (n : Node) : Node :=
  if (List.range 16).any fun i => expects i n && (entryAt i n).state == .lost then n
  else clearCond .peerLost n

/-! ### What a changed table brings to the units -/

/-- The mode source, the roles of the head and the TSC interlock after an entry became LIVE or LOST or an
ANNOUNCE wrote functions (R51, R63, R153), in the order clash, mode, roles, interlock (DESIGN CHOICE, assumption log
70). -/
def tableChanged (n : Node) : Node := tscInterlockTest (refillRoles (reformMode (clashTest n)))

/-- A node's clamp value in the clamp list (R88). -/
def setClamp (i v : Nat) (n : Node) : Node :=
  { n with pg := { n.pg with clamps := n.pg.clamps.set i v } }

/-- The last JOG record cleared where a node is its sender (R120). -/
def forgetJog (i : Nat) (a : Axis) : Axis :=
  match a.lastJog with
  | some (s, _) => if s.val = i then { a with lastJog := none } else a
  | none => a

/-- Both channels' JOG records cleared of a sender (R120). -/
def forgetJogs (i : Nat) (n : Node) : Node :=
  { n with ax0 := forgetJog i n.ax0, ax1 := forgetJog i n.ax1 }

/-- The latch set by a kept or written condition set that holds a STOP-class condition (R38, R47). -/
def stopLearnt (i : Nat) (n : Node) : Node :=
  if hasStop (reportedConds (entryAt i n)) then learnStop n else n

/-! ### Liveness (R35, R36, R40) -/

/-- An entry goes from LIVE to LOST (R35, R40, R42 to R44, R120). -/
def entryLost (i : Nat) (n : Node) : Node :=
  let m := forgetJogs i (setClamp i 150 (setEntry i { entryAt i n with state := .lost, silence := 0 } n))
  let k := if expects i m then raiseHold .peerLost (BitVec.ofNat 8 i) m else m
  tableChanged (unexpectedClear (mismatchClear k))

/-- The silence timer of an entry at the start of a motion tick (R35). -/
def silenceTick (i : Nat) (n : Node) : Node :=
  let e := entryAt i n
  if e.state = .live ∧ 0 < e.silence then
    if e.silence = 1 then entryLost i n else setEntry i { e with silence := e.silence - 1 } n
  else n

/-- The silence timers of the entries `0, …, k − 1`, in the order of their numbers (DESIGN CHOICE, assumption log
70). -/
def silenceTicks : Nat → Node → Node
  | 0, n => n
  | k + 1, n => silenceTick k (silenceTicks k n)

/-- The checks when an entry becomes LIVE (R40, R43, R44), in the order of an ANNOUNCE's (DESIGN CHOICE, assumption
log 70). -/
def entryLive (i : Nat) (n : Node) : Node :=
  tableChanged (unexpectedRaise i (mismatchRaise i (peerLostClear n)))

/-- An accepted frame, other than an ANNOUNCE, from another node: the silence timer is set, and an ABSENT
or LOST entry becomes LIVE with what it kept (R35, R36, R47). -/
def heard (i : Nat) (n : Node) : Node :=
  let e := entryAt i n
  let m := setEntry i { e with state := .live, silence := 120 } n
  if e.state = .live then m
  else
    let k := entryLive i m
    if e.state = .lost then stopLearnt i k else k

/-! ### ANNOUNCE, STATE and PANEL (R37 to R39) -/

/-- An entry after an accepted ANNOUNCE (R37). -/
def announcedEntry (b : AnnounceBody) (e : NodeEntry) : NodeEntry :=
  let keep := !announceJoining b && e.state != .absent
  { state := .live, silence := 120, funcs := some (announceFunctions b), tag := some b.tag.toNat,
    cause := causeOfCode b.cause, report := if keep then e.report else none,
    panel := if keep then e.panel else none }

/-- An accepted ANNOUNCE from another node written into the table (R37, R40 to R44, R63, R120). What it raises it
raises in the order PEER_REJOINED, MACHINE_MISMATCH, UNEXPECTED_NODE, OWNER_CLASH, MODE_SWITCH (DESIGN CHOICE,
assumption log 70). -/
def writeAnnounce (i : Nat) (b : AnnounceBody) (n : Node) : Node :=
  let e := entryAt i n
  let m := setEntry i (announcedEntry b e) n
  let rejoin := announceJoining b && e.state != .absent
  let j := if rejoin then setClamp i 150 m else m
  let k := if announceJoining b then forgetVerdict i (forgetJogs i j) else j
  let r := if rejoin then raiseHold .peerRejoined (BitVec.ofNat 8 i) k else k
  let c := mismatchClear (mismatchRaise i (peerLostClear r))
  let u := if e.state = .live then c else unexpectedRaise i c
  let t := tableChanged u
  if e.state = .lost then stopLearnt i t else t

/-- A STATE carries its panel part: the length holds it and flag bit 5 says so (R186). Where the two signs disagree,
length 24 with bit 5 clear among them, it is taken as without one (DESIGN CHOICE, assumption log 92). -/
def carriesPanel (b : StateBody) : Bool := b.flags.getLsbD 5 && b.panel.isSome

/-- An accepted STATE written into an entry, its panel part only for a sender identified with the pendant
function (R38; DESIGN CHOICE, assumption logs 49 and 92). The own entry's condition set is the own set itself, formed
where it is read and not stored a second time (R34, R38). A stop learnt from the set comes before a MODE_SWITCH or
an adoption of the same STATE (DESIGN CHOICE, assumption log 79). -/
def writeState (i : Nat) (b : StateBody) (n : Node) : Node :=
  let e := entryAt i n
  let rep := stateReported b
  let own := i = me n
  let panelled := e.funcs.any Functions.pendant && carriesPanel b
  let e1 := { e with
    report := some (if own then { rep with conds := 0 } else rep)
    panel := if panelled then b.panel.map statePanel else e.panel }
  let m := setEntry i e1 n
  let k := if own then m else stopLearnt i m
  let p := if panelled then reformMode k else k
  tscInterlockTest p

/-- Panel fields written into an entry, and the mode source formed again (R39). -/
def writePanel (i : Nat) (p : Panel) (n : Node) : Node :=
  reformMode (setEntry i { entryAt i n with panel := some p } n)

/-! ### Own frames -/

/-- The number of reported raisings there had been when the contents of the STATE in transmission were
taken (R46). -/
def sentStateAt (n : Node) : Option Nat :=
  (n.lc.queue.find? fun e => e.inTx && match e.payload with | .state _ => true | _ => false).map
    TxEntry.takenAt

/-- The reported conditions that an accepted own STATE clears: those whose latest raising came before its
contents were taken (R46, R53). -/
def clearReported (sent : Option Nat) (n : Node) : Node :=
  match sent with
  | some t =>
    let m := if n.cu.jogSeq ≤ t then clearCond .jogOverrun n else n
    if n.cu.txqSeq ≤ t then clearCond .txqOverflow m else m
  | none => n

/-- NODE_CLASH raised with the node's own number (R41). -/
def nodeClash (n : Node) : Node := raiseStop .nodeClash (BitVec.ofNat 8 (me n)) n

end Sys2Proof.Machine
end

