-- ==== Sys2Proof/Machine/Path.lean ====
section
/-! DEFINITION. The path profile generator (chapter 6): the profile step and the stop step, the pace
history, the windows of stamped frames and their application, skew, slew and snap. -/

namespace Sys2Proof.Machine

/-! ### The profile step (R81 to R86) -/

/-- The length of a block in q16 units. -/
def lq (r : Run) : Nat := r.len * 65536

/-- The effective override (R81). -/
def effective (knob : Nat) (clamps : List Nat) (ceiling : Nat) : Nat := clamps.foldl min (min knob ceiling)

/-- The target velocity (R82). -/
def targetVelocity (feed o : Nat) (held : Bool) : Nat := if held then 0 else feed * o / 100

/-- The entry standing just after a number in the queue. -/
def successorOf (num : BlockNo) : List Entry → Option Entry
  | [] => none
  | e :: es => if e.num = num then es.head? else successorOf num es

/-- Whether the running block has a continuing successor (R82). -/
def continuing (r : Run) (es : List Entry) : Bool :=
  r.cont &&
  match successorOf r.num es with
  | some e => e.state == .committed && e.fields.any fun f => 0 < f.len
  | none => false

/-- The end velocity (R82). -/
def endVelocity (r : Run) (vt : Nat) (cont : Bool) : Nat := if cont then min r.junction vt else 0

/-- The stopping distance from w down to ve (R83). -/
def stopDistance (ve acc w : Nat) : Nat := if ve < w then (w * w - ve * ve) / (2 * acc) else 0

/-- The floor of the decelerate row (R84). -/
def floorVelocity (ve vt acc : Nat) (held : Bool) : Nat := if held then 0 else max ve (min acc vt)

/-- The velocity of the step: the first row of R84's table whose test holds; `rest` is the distance left
before the step. -/
def stepVelocity (v vt ve acc rest : Nat) (held : Bool) : Nat :=
  let d := stopDistance ve acc
  let a := min (v + acc) vt
  let s := max (v - acc) vt
  if v < vt ∧ d a + a ≤ rest then a
  else if v ≤ vt ∧ (0 < v ∨ vt = 0) ∧ d v + v ≤ rest then v
  else if held = false ∧ vt < v ∧ d s + s ≤ rest then s
  else max (v - acc) (floorVelocity ve vt acc held)

/-- The carried velocity at a final tick (R85). -/
def carriedOut (held cont : Bool) (vnew ve : Nat) : Nat :=
  if held then if cont then vnew else 0 else min vnew ve

/-- The position moved, with the final-tick mark and the carried velocity (R85). -/
def moveTo (vnew carry : Nat) (r : Run) : Run :=
  if lq r ≤ r.p + vnew then { r with p := lq r, v := vnew, final := true, carry := carry }
  else { r with p := r.p + vnew, v := vnew }

/-- The elapsed ticks rise by 1 at every tick after the start tick (R85). -/
def countElapsed (r : Run) : Run :=
  if r.fresh then { r with fresh := false } else { r with elapsed := r.elapsed + 1 }

/-- One tick of a dwell block: the count falls by 1 and the tick at which it reaches 0 is the final tick
(R86). -/
def dwellStep (r : Run) : Run :=
  { r with dwell := r.dwell - 1, v := 0, p := 0, final := r.dwell ≤ 1, carry := 0 }

/-- One profile step of a block with a length (R81 to R85). -/
def profileStep (n : Node) (r : Run) : Run :=
  let vt := targetVelocity r.feed (effective n.pg.knob n.pg.clamps r.ceiling) n.cu.held
  let cont := continuing r n.bq.entries
  let ve := endVelocity r vt cont
  let vnew := stepVelocity r.v vt ve r.acc (lq r - r.p) n.cu.held
  moveTo vnew (carriedOut n.cu.held cont vnew ve) r

/-- The stop step: the velocity falls by 2 × A, and at the block's end it passes to a committed successor
as a held block's does (R92). -/
def stopStep (n : Node) (r : Run) : Run :=
  let vnew := r.v - 2 * r.acc
  moveTo vnew (carriedOut true (continuing r n.bq.entries) vnew 0) r

/-- The step of a tick in which an entry is RUNNING (R84, R86, R92). -/
def runStep (n : Node) (r : Run) : Run :=
  let c := countElapsed r
  if r.final then r
  else if r.len = 0 then dwellStep c
  else if n.pg.stopMark then stopStep n c
  else profileStep n c

/-- The profile step of a motion tick. -/
def pathTick (n : Node) : Node :=
  match n.pg.run with
  | some r => { n with pg := { n.pg with run := some (runStep n r) } }
  | none => n

/-- The successor that a stop step's velocity passes to: it is committed and starts at the next tick
(R92). -/
def stopPasses (n : Node) (r : Run) : Bool :=
  r.final && 0 < r.carry &&
  match successorOf r.num n.bq.entries with
  | some e =>
    match e.start, e.goStamp with
    | .afterPredecessor, some g => !later (g + 4) (n.pg.tick + 1)
    | _, _ => false
  | none => false

/-- Whether the stop deceleration has reached velocity 0 at this tick: the velocity is 0, or the block's
end has been reached with no successor to take the velocity, or a block that had ended before has had no
successor at this tick (R92). -/
def stopDone (n : Node) : Bool :=
  n.pg.stopMark &&
  match n.pg.run with
  | some r => r.v == 0 || (r.final && !stopPasses n r)
  | none => true

/-- A STOPALL's effect on the path (R92). -/
def pathStop (n : Node) : Node :=
  if pathVelocity n = 0 then stopReached n else { n with pg := { n.pg with stopMark := true } }

/-! ### PACE (R93, R94) -/

/-- The node is a timing node (R93). -/
def timingNode (n : Node) : Bool := isTiming (ownFunctions n)

/-- Whether a tick lies in the node's slot (R93). -/
def inPaceSlot (n : Node) : Bool :=
  let t := n.pg.tick.toNat
  if n.pg.run.isSome then t % 32 == (2 * me n) % 32 else t % 256 == 16 * me n

/-- The PACE request of a tick in the node's slot (R93). -/
def paceTick (n : Node) : Node := if timingNode n && inPaceSlot n then ask (pacePayload n) n else n

/-- The present tick's entry written into the pace history, behind which those of the three ticks before it stand
(R93). -/
def writeHistory (n : Node) : Node :=
  let e : PaceEntry := { tick := n.pg.tick, running := runningBlock n, elapsed := elapsedTicks n }
  { n with pg := { n.pg with history := (e :: n.pg.history).take 4 } }

/-- The entry of a tick in which a block runs, written at the end of its profile step (R93). -/
def historyTick (n : Node) : Node := if n.pg.run.isSome then writeHistory n else n

/-- The entry of a tick that has none yet, written at the end of the tick: no block has run in it (R93). -/
def historyEnd (n : Node) : Node :=
  if n.pg.history.head?.any fun e => e.tick == n.pg.tick then n else writeHistory n

/-- Whether a PACE agrees with an entry of the pace history: both none, or the same block and elapsed
ticks (R94). -/
def paceAgrees (e : PaceEntry) (running : Option BlockNo) (elapsed : BitVec 16) : Bool :=
  match e.running, running with
  | none, none => true
  | some a, some b => a == b && e.elapsed == elapsed
  | _, _ => false

/-- A PACE applied (R94). -/
def applyPace (stamp : Tick) (sender : NodeNo) (own : Bool) (running : Option BlockNo)
    (elapsed : BitVec 16) (n : Node) : Node :=
  if own || !engaged n then n
  else
    match n.pg.history.find? fun e => e.tick == stamp with
    | some e => if paceAgrees e running elapsed then n else raiseHold .syncSlip (BitVec.ofNat 8 sender.val) n
    | none => n

/-- The running block a PACE carries (R186). -/
def paceRunning (flags : Byte) (running : BlockNo) : Option BlockNo :=
  if flags.getLsbD 0 then some running else none

/-! ### Applying stamped frames (R49, R70, R79, R88) -/

/-- An OVERRIDE applied: the knob form from any sender, the clamp form to the sender's entry (R88). -/
def applyOverride (sender : NodeNo) (form value : Byte) (n : Node) : Node :=
  if form = 0 then { n with pg := { n.pg with knob := min value.toNat 150 } }
  else if form = 1 then setClamp sender.val (clampNat 1 150 value.toNat) n
  else n

/-- A RESUME applied: held clears, and the held test is made (R49, R50). -/
def applyResume (n : Node) : Node := heldTest { n with cu := { n.cu with held := false } }

/-- A HOLD applied (R49). -/
def applyHold (n : Node) : Node := { n with cu := { n.cu with held := true } }

/-- A kept frame applied by the unit that keeps it (R79). -/
def applyKept (k : Kept) (n : Node) : Node :=
  match k.payload with
  | .hold => applyHold n
  | .resume => applyResume n
  | .go num => applyGo num k.stamp k.sender.val n
  | .override f v => applyOverride k.sender f v n
  | .pace fl r e => applyPace k.stamp k.sender k.own (paceRunning fl r) e n
  | _ => n

/-- Whether a frame's apply tick has come. -/
def isDue (now : Tick) (k : Kept) : Bool := !later k.apply now

/-- Due frames applied in the order of acceptance: a GO that an earlier application has discarded with its
entry is passed over by its own test (R79). -/
def applyAll (ks : List Kept) (n : Node) : Node := ks.foldl (fun m k => applyKept k m) n

/-- The frames due at the present tick, or before it after a snap, applied in the order of acceptance
(R79, R98); `under` says what stands around the applications. -/
def applyDueBy (under : (Node → Node) → Node → Node) (n : Node) : Node :=
  under (applyAll (n.kept.filter (isDue n.pg.tick)))
    { n with kept := n.kept.filter fun k => !isDue n.pg.tick k }

/-- The due frames applied (R79). -/
def applyDue (n : Node) : Node := applyDueBy (fun f m => f m) n

/-- A step made while an accepted frame is still to be placed: it stands last among the kept frames, where the
tests of R50 see it. -/
def beneath (k : Kept) (f : Node → Node) (n : Node) : Node :=
  let m := f { n with kept := n.kept ++ [k] }
  { m with kept := m.kept.dropLast }

/-- The first kept frame that passes a test, applied (R79). -/
def applyFirst (test : Payload → Bool) (n : Node) : Node :=
  match n.kept.find? fun k => test k.payload with
  | some k => applyKept k { n with kept := n.kept.eraseP fun x => test x.payload }
  | none => n

/-! ### Windows (R78, R79) -/

/-- The window of an accepted stamped frame (R78). -/
inductive Window where
  | inTime
  | late
  | early
  deriving DecidableEq, Repr

/-- The window of an apply tick, from the capture's tick and the present tick (R78). -/
def windowOf (apply capture now : Tick) : Window :=
  if !later apply now then .late else if later apply (capture + 4) then .early else .inTime

/-- An accepted stamped frame placed in its window: kept, or applied at once with SYNC_SLIP where the path
is engaged (R78, R79). Whether the path is engaged is tested before the application, and SYNC_SLIP is raised
after it (DESIGN CHOICE, assumption log 47). -/
def placeFrame (k : Kept) (capture : Tick) (n : Node) : Node :=
  match windowOf k.apply capture n.pg.tick with
  | .inTime => { n with kept := n.kept ++ [k] }
  | _ =>
    let slip := engaged n
    let m := applyKept k n
    if slip then raiseHold .syncSlip (BitVec.ofNat 8 k.sender.val) m else m

/-! ### Skew, slew and snap (R95 to R98) -/

/-- The slew pending after a skew (R96). -/
def slewAfter (q skew : Int) : Int := clampInt (-64) 64 (q - truncDiv skew 4)

/-- A tick's length and the slew left, from the slew pending (R96). -/
def slewTick (q : Int) : Nat × Int :=
  if q < 0 then (1000 + (min 2 (-q)).toNat, q + min 2 (-q))
  else if 0 < q then (1000 - (min 2 q).toNat, q - min 2 q)
  else (1000, 0)

/-- A point of time moved back by a skew (R98). -/
def movedBack (m : Moment) (skew : Int) : Moment := momentOfMicros (momentMicros m - skew)

/-- The conditions for a snap (R98). -/
def snaps (sender : NodeNo) (skew : Int) (n : Node) : Bool :=
  chainAtRest n && sender.val < me n && 200 < skew.natAbs

/-- The snap: the node's time moves back by the skew, q becomes 0, the pace history empties and the due
frames are applied (R98). The length of the tick in progress stands, and the phase is the moved one even where
it lies beyond a shortened tick's last (DESIGN CHOICE, assumption log 62). -/
def snap (under : (Node → Node) → Node → Node) (skew : Int) (n : Node) : Node :=
  let t := movedBack { tick := n.pg.tick, phase := n.pg.phase } skew
  applyDueBy under { n with pg := { n.pg with tick := t.tick, phase := t.phase, slew := 0, history := [] } }

/-- A frame gives a skew: it comes from another node whose entry shows a timing function (R95). One that
carries the node's own number gives none, whoever sent it (DESIGN CHOICE, assumption log 21). -/
def givesSkew (sender : NodeNo) (own : Bool) (n : Node) : Bool :=
  !own && sender.val != me n && isTiming (owned (entryAt sender.val n))

/-- SYNC_SLIP raised for a sender, with the held test of a HOLD-class raising (R45, R50). -/
def raiseSlip (sender : NodeNo) (n : Node) : Node := raiseHold .syncSlip (BitVec.ofNat 8 sender.val) n

/-- The slew and the slip of a skew that gives no snap (R96, R97). -/
def slewFor (under : (Node → Node) → Node → Node) (sender : NodeNo) (skew : Int) (n : Node) : Node :=
  let m := { n with pg := { n.pg with slew := slewAfter n.pg.slew skew } }
  if 200 < skew.natAbs && engaged n then under (raiseSlip sender) m else m

/-- A kept frame made of an accepted stamped one (R78). -/
def keptOf (rx : Rx) (capture : Moment) (stamp : Stamp) (p : Payload) : Kept :=
  let full := fullStampTick stamp.tick capture.tick
  { apply := full + 2, stamp := full, sender := rx.sender, own := rx.own, payload := p }

/-- A stamped frame's skew acted on, with the capture as the snap leaves it; `under` says what stands around
the slip and the due frames. The due frames are applied before the frame is placed (R95 to R98; the order is a
DESIGN CHOICE, assumption log 67), and so the slew and the slip of a frame that gives no snap come before that frame's
own application (R79, R97; DESIGN CHOICE, assumption log 96). -/
def alignTimeBy (under : (Node → Node) → Node → Node) (rx : Rx) (capture : Moment) (stamp : Stamp) (n : Node) :
    Node × Moment :=
  if givesSkew rx.sender rx.own n then
    let k := skewOf capture stamp
    if snaps rx.sender k n then (snap under k n, movedBack capture k)
    else (slewFor under rx.sender k n, capture)
  else (n, capture)

/-- The skew of a stamped frame that is no HOLD (R95 to R98). -/
def alignTime (rx : Rx) (capture : Moment) (stamp : Stamp) (n : Node) : Node × Moment :=
  alignTimeBy (fun f m => f m) rx capture stamp n

end Sys2Proof.Machine
end

