-- ==== Sys2Proof/Machine/AxisTick.lean ====
section
/-! DEFINITION. An axis channel's work at a motion tick and at its frames (chapter 7): inputs, clamp,
commanded position, servo output, disable point, OFFSET, JOG and REFERENCE. -/

namespace Sys2Proof.Machine

/-! ### Limits (R113) -/

/-- A channel's limit input. -/
def limitPin (side : Side) (p : AxisPins) : Bool :=
  match side with
  | .plus => p.limPlus
  | .minus => p.limMinus

/-- A channel's limit mark. -/
def limitMark (side : Side) (a : Axis) : Bool :=
  match side with
  | .plus => a.markPlus
  | .minus => a.markMinus

/-- The channel with a limit mark replaced. -/
def setMark (side : Side) (b : Bool) (a : Axis) : Axis :=
  match side with
  | .plus => { a with markPlus := b }
  | .minus => { a with markMinus := b }

/-- The test of a limit input: its mark follows it, and HARD_LIMIT is raised as it becomes active (R113). -/
def limitTest (c : Chan) (side : Side) (n : Node) : Node :=
  let pin := limitPin side (axPins c n.pins)
  if pin && !limitMark side (getAx c n) then
    raiseStop .hardLimit (chanNumber c) (onAx c (setMark side true) n)
  else if !pin then onAx c (setMark side false) n
  else n

/-! ### Drive (R111) -/

/-- The drive state changed at a node (R111). -/
def driveTo (c : Chan) (d : DriveState) (n : Node) : Node := onAx c (setDrive (chainAtRest n) d) n

/-- The drive becomes FAULTED and DRIVE_FAULT is raised (R111). -/
def driveFault (c : Chan) (n : Node) : Node := raiseStop .driveFault (chanNumber c) (driveTo c .faulted n)

/-- The drive timer of an ENABLING drive counted down; at 0 the drive is FAULTED (R111). -/
def driveTimerTick (c : Chan) (n : Node) : Node :=
  if (getAx c n).driveTimer ≤ 1 then driveFault c n
  else onAx c (fun a => { a with driveTimer := a.driveTimer - 1 }) n

/-- The tests of the drive inputs at a motion tick, before the tick work (R111). Of the events of one tick an
active fault input wins over the latch, the latch over the ready input, and that over the end of the drive timer
(DESIGN CHOICE, assumption log 63). -/
def driveTick (c : Chan) (_ : AxisParams) (n : Node) : Node :=
  let pin := axPins c n.pins
  match (getAx c n).drive with
  | .faulted => n
  | .disabled =>
    if pin.fault then driveFault c n else if n.cu.stopped then n else driveTo c .enabling n
  | .enabling =>
    if pin.fault then driveFault c n
    else if n.cu.stopped then driveTo c .disabled n
    else if pin.ready then driveTo c .enabled n
    else driveTimerTick c n
  | .enabled => if pin.fault || !pin.ready then driveFault c n else n

/-! ### Clamp (R114, R115) -/

/-- Whether an entry lists a channel's axis with a displacement that is not 0. -/
def moves (c : Chan) (e : Entry) : Bool :=
  match recFor c e with
  | some (.resolved s t _) => s != t
  | _ => false

/-- The EVALUATED head needs the axis free (R114). -/
def headNeedsFree (c : Chan) (n : Node) : Bool :=
  n.nt.mode == .auto && !(getAx c n).abandoned &&
  match evaluatedHead n with
  | some e => participates e n && moves c e
  | none => false

/-- The channel needs the axis free (R114). -/
def needsFree (c : Chan) (n : Node) : Bool :=
  headNeedsFree c n || n.bq.entries.any (fun e => inChain e && moves c e) ||
  (getAx c n).motion == .jog || (getAx c n).motion == .reference || 0 < (getAx c n).jogRecent

/-- A clamp state entered; the timer runs in UNCLAMPING and CLAMPING (R115). -/
def clampTo (s : ClampState) (a : Axis) : Axis :=
  { a with clamp := s, clampTimer := if s = .unclamping ∨ s = .clamping then 2000 else 0 }

/-- An unclamp that timed out: CLAMPING, the abandoned-unclamp mark, and the end of a jog (R115, R122). -/
def unclampTimedOut (c : Chan) (n : Node) : Node :=
  onAx c (fun a => endJog (chainAtRest n) { clampTo .clamping a with abandoned := true }) n

/-- The clamp timer counted down. -/
def clampCount (c : Chan) (n : Node) : Node := onAx c (fun a => { a with clampTimer := a.clampTimer - 1 }) n

/-- The clamp at a motion tick, before the tick work: of the events of one tick the sensors win over the timer and
the timer over the request (R114, R115; DESIGN CHOICE, assumption log 74). -/
def clampTick (c : Chan) (p : AxisParams) (n : Node) : Node :=
  let pin := axPins c n.pins
  let a := getAx c n
  if !p.clampFitted then n
  else
    match a.clamp with
    | .clamped => if needsFree c n then onAx c (clampTo .unclamping) n else n
    | .unclamping =>
      if pin.unclamped && !pin.clamped then onAx c (clampTo .unclamped) n
      else if a.clampTimer ≤ 1 then unclampTimedOut c n
      else if needsFree c n then clampCount c n
      else onAx c (clampTo .clamping) n
    | .unclamped => if needsFree c n then n else onAx c (clampTo .clamping) n
    | .clamping =>
      if pin.clamped && !pin.unclamped then onAx c (clampTo .clamped) n
      else if a.clampTimer ≤ 1 then onAx c (clampTo .clamped) n
      else if needsFree c n then onAx c (clampTo .unclamping) n
      else clampCount c n

/-! ### Jog (R120 to R122) -/

/-- The jog's velocity limit (R121). -/
def jogVelocity (p : AxisParams) (a : Axis) : Int :=
  if a.referenced then (p.jogVel : Int) else max 1 ((p.jogVel / 4 : Nat) : Int)

/-- The largest size of a jog accumulator (R121). -/
def jogLimit : Int := 5000

/-- The jog target and accumulator after a mover step (R122). -/
def jogFollow (a : Axis) : Axis :=
  if a.jogEnding then { a with jogTarget := a.commanded, jogAccum := 0 }
  else
    let d := clampInt (-jogLimit) jogLimit (a.jogTarget - a.commanded)
    { a with jogTarget := a.commanded + d, jogAccum := d, moverTarget := a.commanded + d }

/-- The end of a jog: its accumulator is 0 and the mover at rest, or it was ended early and the mover is
at rest (R122). -/
def jogDone (rest : Bool) (a : Axis) : Axis :=
  if a.jogAccum = 0 ∧ moverAtRest a = true then
    { a with motion := idleMotion rest, jogEnding := false }
  else a

/-- A JOG taken (R121): the accumulator clamped, the target clamped to window and gaps, and a mover run
where the motion state was IDLE. -/
def jogTaken (p : AxisParams) (units : Int) (a : Axis) : Axis :=
  let acc := clampInt (-jogLimit) jogLimit (a.jogAccum + units)
  let t0 := a.commanded + acc
  let t := if a.referenced then clampToGap p a a.commanded (clampWindow p a t0) else t0
  let b := if a.motion = .idle then
      { beginMover t a with motion := .jog, abandoned := false, jogEnding := false }
    else { a with moverTarget := t }
  { b with jogTarget := t, jogAccum := t - a.commanded, jogRecent := 1000 }

/-- Whether detents were discarded at the accumulator limit (R121). -/
def jogOverruns (units : Int) (a : Axis) : Bool := jogLimit < (a.jogAccum + units).natAbs

/-- The conditions under which a JOG that is no duplicate is taken (R120). -/
def jogAllowed (detents : Int) (c : Chan) (n : Node) : Bool :=
  let a := getAx c n
  (n.nt.mode == .manual || n.nt.mode == .setup) && n.nt.enabling && chainAtRest n &&
  a.drive == .enabled && (a.motion == .idle || (a.motion == .jog && !a.moverStop)) &&
  !towardMark a detents

/-- An accepted JOG at its channel (R120, R121). -/
def acceptJog (sender : NodeNo) (toggle : Bool) (detents units : Int) (c : Chan) (p : AxisParams)
    (n : Node) : Node :=
  if (getAx c n).lastJog = some (sender, toggle) then n
  else
    let m := onAx c (fun a => { a with lastJog := some (sender, toggle) }) n
    if jogAllowed detents c n then
      let k := onAx c (jogTaken p units) m
      if jogOverruns units (getAx c n) then raiseWarn .jogOverrun (chanNumber c) k else k
    else m

/-! ### Reference sequence (R117 to R119) -/

/-- The search direction as a sign. -/
def searchDir (p : AxisParams) : Int := if p.searchMinus then -1 else 1

/-- The target of a phase that begins at the commanded position (R118). -/
def phaseTarget (p : AxisParams) (ph : RefState) (c : Int) : Int :=
  match ph with
  | .seekSwitch => c + searchDir p * p.searchDist
  | .backOff => c - searchDir p * p.backOff
  | .seekMark => c + searchDir p * 2 * p.backOff
  | _ => c

/-- A phase's velocity (R118). -/
def phaseVelocity (p : AxisParams) (ph : RefState) : Int :=
  match ph with
  | .seekMark => max 1 ((p.searchVel / 4 : Nat) : Int)
  | _ => p.searchVel

/-- A phase begins with a new mover run from rest (R118). -/
def beginPhase (p : AxisParams) (ph : RefState) (a : Axis) : Axis :=
  { beginMover (phaseTarget p ph a.commanded) a with
    ref := ph, switchSeen := false, markLoaded := false }

/-- A sequence that ends with its mover at rest: the motion state becomes IDLE (R102). -/
def refOver (rest : Bool) (s : RefState) (a : Axis) : Axis :=
  { a with ref := s, motion := idleMotion rest }

/-- REF_FAILED raised for a channel (R118). -/
def refFailed (c : Chan) (n : Node) : Node :=
  raiseWarn .refFailed (chanNumber c) (onAx c (refOver (chainAtRest n) .failed) n)

/-- COMP_PARITY raised for each entry that failed its parity test (R108). -/
def raiseParity (c : Chan) : Nat → Node → Node
  | 0, n => n
  | k + 1, n => raiseParity c k (raiseStop .compParity (chanNumber c) n)

/-- The end test of R119: the tracking position as for a referenced axis, before its clamp to the window
(DEDUCED, assumption log 10). -/
def endTest (c : Chan) (p : AxisParams) (n : Node) : Node :=
  let r := trackingRead p (getAx c n)
  let rest := chainAtRest n
  let m := raiseParity c r.2.2 (setAx c r.1 n)
  if p.winLow ≤ r.2.1 ∧ r.2.1 ≤ p.winHigh then
    onAx c (fun a => { refOver rest .done a with commanded := r.2.1, referenced := true }) m
  else refFailed c m

/-- The mover has arrived in a phase (R118). -/
def phaseArrived (c : Chan) (p : AxisParams) (n : Node) : Node :=
  match (getAx c n).ref with
  | .backOff =>
    if (axPins c n.pins).refSwitch then refFailed c n else onAx c (beginPhase p .seekMark) n
  | .seekSwitch => refFailed c n
  | .seekMark => refFailed c n
  | _ => onAx c (refOver (chainAtRest n) (getAx c n).ref) n

/-- The mover is at rest under its stop mark in a phase (R118, R119). -/
def phaseStopped (c : Chan) (p : AxisParams) (n : Node) : Node :=
  match (getAx c n).ref with
  | .seekSwitch => onAx c (beginPhase p .backOff) n
  | .seekMark => endTest c p n
  | _ => onAx c (refOver (chainAtRest n) (getAx c n).ref) n

/-- What the rest of the mover brings to a sequence (R118, R119, R102). -/
def refFollow (c : Chan) (p : AxisParams) (n : Node) : Node :=
  let a := getAx c n
  if moverAtRest a then if a.moverStop then phaseStopped c p n else phaseArrived c p n else n

/-- The reference switch has become active in a phase (R118). -/
def switchActive (a : Axis) : Axis :=
  if a.motion = .reference then
    match a.ref with
    | .seekSwitch => { a with moverStop := true }
    | .seekMark => { a with switchSeen := true }
    | _ => a
  else a

/-- The switch tested at a motion tick (R118). -/
def switchTick (c : Chan) (n : Node) : Node :=
  if (axPins c n.pins).refSwitch then onAx c switchActive n else n

/-- The encoder count a mark loads: the reference position × den / num, rounded up (R118). -/
def markCount (p : AxisParams) : Int := wrap48 (ceilDiv (p.refPos * p.den) p.num)

/-- A mark edge: the first after the switch has become active in SEEK_MARK loads the count and stops the
mover (R118). -/
def markEdge (p : AxisParams) (a : Axis) : Axis :=
  if a.motion = .reference ∧ a.ref = .seekMark ∧ a.switchSeen = true ∧ a.markLoaded = false then
    { a with count := markCount p, markLoaded := true, moverStop := true,
             markShift := a.markShift + (actualOf p (markCount p) - actualOf p a.count) }
  else a

/-- The change a load made, taken over at the next tick work (R118), under a clamp output that is on as well (DESIGN
CHOICE, assumption log 86). -/
def takeShift (a : Axis) : Axis :=
  if a.markShift = 0 then a
  else
    { a with commanded := position (a.commanded + a.markShift),
             moverPos := a.moverPos + a.markShift * q16,
             prevCorrected := a.prevCorrected + a.markShift, markShift := 0 }

/-- The five conditions of R117. -/
def refAllowed (c : Chan) (n : Node) : Bool :=
  let a := getAx c n
  n.nt.mode == .setup && n.nt.enabling && chainAtRest n && a.drive == .enabled && a.motion == .idle

/-- A sequence starts (R117). The commanded position becomes the actual one also under a clamp output that is on
(DESIGN CHOICE, assumption log 76). The move that a mark's load still owes comes at the next tick work as for any
load (R118). -/
def refStart (p : AxisParams) (switch : Bool) (a : Axis) : Axis :=
  let b := { a with referenced := false, commanded := a.actual, motion := .reference,
                    abandoned := false }
  beginPhase p (if switch then .backOff else .seekSwitch) b

/-- An accepted REFERENCE at its channel (R117). -/
def acceptReference (c : Chan) (p : AxisParams) (n : Node) : Node :=
  if refAllowed c n then
    onAx c (refStart p (axPins c n.pins).refSwitch) (clearCond .refFailed n)
  else n

/-! ### The commanded position (R103, R104, R116) -/

/-- The path command (R104). -/
def pathCommand (s t : Int) (p lq : Nat) : Int := s + roundDiv ((t - s) * p) lq

/-- The RUNNING entry's record of a channel, with the path position and length. A listed component that was not
resolved here has no S and no D, and gives no path command: the commanded position is then as where the entry
does not list the axis (R103, R104; DESIGN CHOICE, assumption log 80). -/
def runningRec (c : Chan) (n : Node) : Option (Int × Int × Run) :=
  match n.pg.run with
  | some r =>
    match n.bq.entries.find? fun e => e.num == r.num with
    | some e =>
      match recFor c e with
      | some (.resolved s t _) => some (s, t, r)
      | _ => none
    | none => none
  | none => none

/-- The mover steps unless the clamp output is on or the clamp is UNCLAMPING (R116). -/
def moverFree (p : AxisParams) (a : Axis) : Bool := isUnclamped p a

/-- The commanded position the mover gives, clamped to the window of a referenced axis (R103, R116). -/
def moverCommand (p : AxisParams) (a : Axis) : Axis :=
  { a with commanded := clampWindow p a (position (roundDiv a.moverPos q16)) }

/-- The commanded position of a jog at a motion tick (R116, R122). -/
def jogStep (p : AxisParams) (rest : Bool) (a : Axis) : Axis :=
  let b := if moverFree p a then
      jogFollow (moverCommand p (moverStep (jogVelocity p a) p.jogAcc a))
    else a
  jogDone rest b

/-- The commanded position of a reference sequence at a motion tick (R116, R118). -/
def refStep (c : Chan) (p : AxisParams) (n : Node) : Node :=
  let a := getAx c n
  let m := if moverFree p a then
      setAx c (moverCommand p (moverStep (phaseVelocity p a.ref) p.jogAcc a)) n
    else n
  refFollow c p m

/-- Step 2 of the tick work: the commanded position (R103). A path command is not clamped to the soft window, also
where its S lies outside (DESIGN CHOICE, assumption log 75). -/
def commandStep (c : Chan) (p : AxisParams) (n : Node) : Node :=
  let a := getAx c n
  if clampOutput p a then
    match a.motion with
    | .jog => onAx c (jogDone (chainAtRest n)) n
    | .reference => refFollow c p n
    | _ => n
  else if a.drive ≠ .enabled then
    let r := tracking p a
    raiseParity c r.2.2 (setAx c { r.1 with commanded := r.2.1 } n)
  else
    match a.motion, runningRec c n with
    | .chain, some (s, t, r) => onAx c (fun x => { x with commanded := pathCommand s t r.p (lq r) }) n
    | .jog, _ => onAx c (jogStep p (chainAtRest n)) n
    | .reference, _ => refStep c p n
    | _, _ => onAx c (fun x => { x with commanded := clampWindow p x x.commanded }) n

/-! ### Correction and servo output (R107, R109, R110) -/

/-- The previous corrected command once step 3 has formed a corrected command: that command itself after a change of
the drive state, so that dcc is 0 at the first ENABLED tick (R109; DEDUCED, assumption log 97). -/
def previousFor (corrected : Int) (a : Axis) : Int := if a.driveChanged then corrected else a.prevCorrected

/-- Step 3 of the tick work: the correction and the corrected command (R107, R108, R109). -/
def correctStep (c : Chan) (p : AxisParams) (n : Node) : Node :=
  let a := getAx c n
  let r := correction p a a.commanded
  raiseParity c r.2.2
    (setAx c { r.1 with lastComp := r.2.1, corrected := a.commanded + r.2.1,
                        prevCorrected := previousFor (a.commanded + r.2.1) a } n)

/-- The servo output before its clamp (R109). -/
def servoRaw (p : AxisParams) (a : Axis) : Int :=
  truncDiv ((p.kp : Int) * (a.corrected - a.actual) + p.kf * (a.corrected - a.prevCorrected)) 256

/-- A run that counts consecutive ticks up to a limit. -/
def runCount (limit : Nat) (hit : Bool) (k : Nat) : Nat := if hit then min (k + 1) limit else 0

/-- The output saturates (R109). -/
def saturates (p : AxisParams) (a : Axis) : Bool := clampDrive (servoRaw p a) != servoRaw p a

/-- The following error exceeds its limit (R110). -/
def lags (p : AxisParams) (a : Axis) : Bool := p.followLimit < (a.corrected - a.actual).natAbs

/-- The servo output and the runs of a tick, with which a change of the drive state is over (R109, R110). -/
def servoOut (p : AxisParams) (a : Axis) : Axis :=
  if a.drive = .enabled then
    { a with driveCommand := clampDrive (servoRaw p a), prevCorrected := a.corrected,
             driveChanged := false, satRun := runCount 50 (saturates p a) a.satRun,
             followRun := runCount 4 (lags p a) a.followRun }
  else { a with driveCommand := 0, driveChanged := false, satRun := 0, followRun := 0 }

/-- Step 4 of the tick work: the servo output and the following, saturation and limit checks (R100, R109,
R110, R113). -/
def servoStep (c : Chan) (p : AxisParams) (n : Node) : Node :=
  let a := getAx c n
  let b := servoOut p a
  let m := setAx c b n
  let f := if a.followRun < 4 ∧ b.followRun = 4 then raiseStop .followError (chanNumber c) m else m
  let s := if a.satRun < 50 ∧ b.satRun = 50 then raiseHold .driveSaturated (chanNumber c) f else f
  limitTest c .minus (limitTest c .plus s)

/-! ### Disable point and the whole tick (R100, R124) -/

/-- The stop timer counted down. -/
def stopTimerTick (a : Axis) : Axis :=
  match a.stopTimer with
  | some k => { a with stopTimer := some (k - 1) }
  | none => a

/-- The disable point is reached (R124). -/
def disableDue (a : Axis) : Bool :=
  match a.stopTimer with
  | some k => k == 0 || (a.motion == .idle && a.commanded == a.prevCommanded)
  | none => false

/-- The disable point at a motion tick (R124). -/
def disableTick (c : Chan) (n : Node) : Node :=
  let m := onAx c stopTimerTick n
  if (getAx c m).drive = .enabled ∧ disableDue (getAx c m) = true then driveTo c .disabled m else m

/-- The ticks since the motion state was JOG: it was at this tick where it is after the tick work, or was
before it (R114). The axis stays free through the 1,000th tick after the last one in JOG (DESIGN CHOICE,
assumption log 64). -/
def jogRecentTick (was : Bool) (a : Axis) : Axis :=
  { a with jogRecent := if was || a.motion == .jog then 1000 else a.jogRecent - 1 }

/-- The tick work of R100 with the tests that come before it. The disable point is tested after step 4, so
that the servo output of its tick is formed with the drive ENABLED and then made 0 (DESIGN CHOICE, assumption
log 50). The tests before the tick work go in the order drive, clamp, reference switch (DESIGN CHOICE, assumption log
81). -/
def axisTick (c : Chan) (p : AxisParams) (n : Node) : Node :=
  let was := (getAx c n).motion == .jog
  let a0 := switchTick c (clampTick c p (driveTick c p n))
  let a1 := onAx c (fun a => takeShift { a with actual := actualOf p a.count }) a0
  let a2 := servoStep c p (correctStep c p (commandStep c p a1))
  onAx c (fun a => jogRecentTick was { a with prevCommanded := a.commanded }) (disableTick c a2)

/-! ### OFFSET and the stop reaction (R105, R124, R125) -/

/-- The frame record an OFFSET writes (R105). -/
def offsetRecord (b : OffsetBody) : FrameRec :=
  let lo := b.winLow.toInt
  let hi := b.winHigh.toInt
  { offset := b.offset.toInt, mirror := b.flags.getLsbD 0,
    valid := b.flags.getLsbD 1 && !(b.flags.getLsbD 2 && hi < lo),
    window := if b.flags.getLsbD 2 then some (lo, hi) else none }

/-- An accepted OFFSET at its channel (R105). -/
def acceptOffset (b : OffsetBody) (c : Chan) (n : Node) : Node :=
  if 1 ≤ b.frameNo.toNat ∧ b.frameNo.toNat ≤ 31 then
    onAx c (fun a => { a with frames := a.frames.set b.frameNo.toNat (offsetRecord b) }) n
  else n

/-- A channel's reaction to an accepted STOPALL (R124). -/
def axisStop (c : Chan) (p : AxisParams) (n : Node) : Node :=
  let m := axFailQuiet c p (axEndJog c p n)
  if (getAx c m).drive = .enabled ∧ (getAx c m).stopTimer = none then
    onAx c (fun a => { a with stopTimer := some 500 }) m
  else m

/-- A channel's act at an applied FAULTCLR (R125). -/
def axisFaultclr (c : Chan) (_ : AxisParams) (n : Node) : Node :=
  if (getAx c n).drive = .faulted then
    if (axPins c n.pins).fault then raiseStop .driveFault (chanNumber c) n else driveTo c .disabled n
  else n

/-- A DISABLED drive begins ENABLING as the latch clears (R180). -/
def axisEnable (c : Chan) (_ : AxisParams) (n : Node) : Node :=
  if (getAx c n).drive = .disabled ∧ (axPins c n.pins).fault = false then driveTo c .enabling n else n

/-- The used channel mapped to an axis number; the first one (R100). -/
def chanOf (axis : Nat) (n : Node) : Option (Chan × AxisParams) :=
  let at' (c : Chan) : Option (Chan × AxisParams) :=
    match axParams c n with
    | some p => if axNumber c n = some axis then some (c, p) else none
    | none => none
  match at' .ax0 with
  | some x => some x
  | none => at' .ax1

end Sys2Proof.Machine
end

