-- ==== Sys2Proof/Machine/Spindle.lean ====
section
/-! DEFINITION. The spindle and gearbox unit at a motion tick and at its frames (chapter 8). -/

namespace Sys2Proof.Machine

/-! ### Conditions -/

/-- The low byte of the running block's number, the detail of SPINDLE_FAULT (R134). -/
def runningByte (n : Node) : Byte := ((runningBlock n).getD 0).setWidth 8

/-- SPINDLE_FAULT raised (R134). -/
def spindleFault (n : Node) : Node := raiseHold .spindleFault (runningByte n) n

/-! ### Speed at a motion tick (R127, R130 to R134) -/

/-- The speed the ramped speed aims at (R131). -/
def aimOf (sg : SG) : Int := if sg.commandCcw then -((sg.command : Int) * 256) else sg.command * 256

/-- The ramped speed moved toward an aim by at most a ramp (R131). -/
def rampTo (aim step x : Int) : Int := if x < aim then min (x + step) aim else max (x - step) aim

/-- The estimate of a tick (R127). -/
def estimateTick (p : SpindleParams) (n : Node) : Node :=
  { n with sg := { n.sg with estimate := estimateOf (rangeOf p n.sg.refRange) n.pins.feedback.toNat } }

/-- The ramp of a tick; a STOPPED spindle has none (R131, R132). -/
def rampTick (p : SpindleParams) (sg : SG) : SG :=
  if sg.spindle = .stopped then sg
  else { sg with ramped := rampTo (aimOf sg) (rangeOf p sg.refRange).ramp sg.ramped }

/-- The rest run of a tick (R127). -/
def restTick (sg : SG) : SG :=
  { sg with restRun := runCount 100 (sg.ramped == 0 && sg.estimate < 2) sg.restRun }

/-- The at-speed run and flag of a tick (R133). -/
def atSpeedTick (n : Node) : Node :=
  let k := runCount 100 (withinBand n) n.sg.atRun
  { n with sg := { n.sg with atRun := k, atSpeed := withinBand n && k == 100 } }

/-- The test of the fault run (R134). -/
def fallsBehind (n : Node) : Bool :=
  n.pg.run.isSome &&
  match n.sg.gear with
  | .engaged _ => 0 < n.sg.command && n.sg.ramped == aimOf n.sg && actualRpm n * 5 < n.sg.command * 4
  | _ => false

/-- The fault run of a tick (R134). -/
def faultRunTick (n : Node) : Node :=
  let k := runCount 100 (fallsBehind n) n.sg.faultRun
  let m := { n with sg := { n.sg with faultRun := k } }
  if n.sg.faultRun < 100 ∧ k = 100 then spindleFault m else m

/-- The stop timer has run out: a STOPPING spindle becomes STOPPED (R132, R145). -/
def stopTimerOut (sg : SG) : SG :=
  if sg.spindle = .stopping then spindleStopped sg else { sg with stopTimer := none }

/-- The stop timer counted down at the start of a tick, so that a latch set within the tick has its timer
counted from the next one on (R145). -/
def stopTimerCount (n : Node) : Node :=
  { n with sg := { n.sg with stopTimer := n.sg.stopTimer.map fun k => k - 1 } }

/-- The stop timer's end at a tick (R145). -/
def sgStopTimer (sg : SG) : SG := if sg.stopTimer = some 0 then stopTimerOut sg else sg

/-- The speed work of a tick. -/
def speedTick (p : SpindleParams) (n : Node) : Node :=
  let a := formCommand p (estimateTick p n)
  let b := { a with sg := restTick (rampTick p a.sg) }
  let c := faultRunTick (atSpeedTick b)
  { c with sg := sgStopTimer c.sg }

/-- What being at rest brings: a STOPPING spindle becomes STOPPED, and a shift goes on (R132, R140). -/
def atRestTest (p : SpindleParams) (n : Node) : Node :=
  if spindleRest n.sg then
    if n.sg.gear = .stoppingForShift then shiftFromRest p n
    else if n.sg.spindle = .stopping then { n with sg := spindleStopped n.sg }
    else n
  else n

/-! ### Sensors and gearbox (R138, R139, R141 to R143) -/

/-- A debounced level after a sample, with the number of ticks it takes (R138, R149). -/
def debounce (ticks : Nat) (raw : Bool) (l : Level) : Level :=
  if raw = l.level then { l with run := 0 }
  else if ticks ≤ l.run + 1 then { level := raw, run := 0 }
  else { l with run := l.run + 1 }

/-- The four sensors sampled (R138). -/
def sensorsTick (p : ShifterPins) (sg : SG) : SG :=
  { sg with a1 := debounce 50 p.a1 sg.a1, a2 := debounce 50 p.a2 sg.a2, b1 := debounce 50 p.b1 sg.b1,
            b2 := debounce 50 p.b2 sg.b2 }

/-- GEAR_LOST raised for a range that was engaged while the spindle turned (R139). -/
def gearLost (r : Gear) (n : Node) : Node := raiseStop .gearLost (BitVec.ofNat 8 (gearNumber r)) n

/-- A shifter's reading has become Conflict (R138). -/
def shifterConflict (sh : Shifter) (n : Node) : Node :=
  let m := raiseHold .gearFault (shifterNumber sh)
    { n with sg := setGear .gearFault { endNudge n.sg with retries := 0 } }
  match n.sg.gear with
  | .engaged r => if turning n.sg then gearLost r m else m
  | _ => m

/-- The test of a shifter's reading against the one before (R138). -/
def conflictTest (sh : Shifter) (before : SG) (n : Node) : Node :=
  if readingOf sh n.sg = .conflict ∧ readingOf sh before ≠ .conflict then shifterConflict sh n else n

/-- The gearbox taken to the pattern it stands in, with the speed command formed against a new range
(R139). -/
def patternTo (p : SpindleParams) (g : GearState) (n : Node) : Node :=
  formCommand p { n with sg := setGear g n.sg }

/-- The watch on the pattern in ENGAGED and UNKNOWN (R139). -/
def patternWatch (p : SpindleParams) (n : Node) : Node :=
  match n.sg.gear, patternOf p n.sg with
  | .engaged r, .valid r' =>
    if r = r' then n
    else patternTo p (.engaged r') (if turning n.sg then gearLost r n else n)
  | .engaged r, .opened => patternTo p .unknown (if turning n.sg then gearLost r n else n)
  | .unknown, .valid r => patternTo p (.engaged r) n
  | _, _ => n

/-- The shift timer and the nudge of a tick (R141 to R143). -/
def shiftTimers (sg : SG) : SG :=
  let s := { sg with shiftTimer := sg.shiftTimer - 1 }
  if s.nudging then
    if s.nudgeTimer ≤ 1 then { s with nudgeTimer := 200, nudgeMinus := !s.nudgeMinus }
    else { s with nudgeTimer := s.nudgeTimer - 1 }
  else s

/-- The tests of the gearbox states against the readings, the timers apart (R139, R141, R143). -/
def gearTest (p : SpindleParams) (n : Node) : Node :=
  match n.sg.gear with
  | .shiftingA => if readsTarget p n.sg.step n.sg then stepConfirmed p n else n
  | .shiftingB => if readsTarget p n.sg.step n.sg then stepConfirmed p n else n
  | .toNeutral => if readingOf n.sg.step n.sg = .neutral then neutralReached p n else n
  | .stoppingForShift => n
  | .gearFault => n
  | .engaged _ => patternWatch p n
  | .unknown => patternWatch p n

/-- The shift timer has reached 0: a step has failed, or a neutral return has (R141, R143). -/
def shiftTimerOut (n : Node) : Node :=
  match n.sg.gear with
  | .shiftingA => { n with sg := neutralReturn n.sg.step n.sg }
  | .shiftingB => { n with sg := neutralReturn n.sg.step n.sg }
  | .toNeutral => shiftGivenUp n
  | _ => n

/-- The gearbox at a tick: the sensors, a conflict, the step's test and then its timer (R138 to R143). Of two
shifters that become Conflict at one tick A raises GEAR_FAULT first (DESIGN CHOICE, assumption log 53). -/
def gearTick (p : SpindleParams) (n : Node) : Node :=
  let before := n.sg
  let s := sensorsTick n.pins.shifter (shiftTimers n.sg)
  let m := conflictTest .b before (conflictTest .a before { n with sg := s })
  let ran := 0 < before.shiftTimer && s.shiftTimer == 0
  let k := gearTest p m
  if ran && k.sg.gear == m.sg.gear && k.sg.shiftTimer == 0 then shiftTimerOut k else k

/-- The unit's work at a motion tick. -/
def spindleTick (n : Node) : Node :=
  match n.par.spindle with
  | some p => atRestTest p (gearTick p (speedTick p n))
  | none => n

/-! ### SPINDLE frames (R135) -/

/-- A start form obeyed: the speed settled with the automatic choice of range (R135, R128). -/
def obeyStart (p : SpindleParams) (rpm : Nat) (ccw : Bool) (n : Node) : Node :=
  let s := settle p rpm none
  let m := noteSettled s.1 s.2.2 n
  dropCommand p { m with sg := takeRequest (keptRequest s.2.1 ccw) (some s.1) m.sg }

/-- The node fills a role of the EVALUATED head. -/
def fillsHead (r : Role) (n : Node) : Bool :=
  match evaluatedHead n with
  | some e => fills r e n
  | none => false

/-- A stop form obeyed (R135). -/
def obeyStop (p : SpindleParams) (n : Node) : Node :=
  let auto := n.nt.mode == .auto
  let hit := auto && n.pg.run.isSome && 0 < n.sg.command
  let c := clearCond .speedLimited
    { n with sg := { n.sg with request := none,
                               manualStop := n.sg.manualStop || (auto && fillsHead .spindle n) } }
  let m := dropCommand p c
  if hit then spindleFault m else m

/-- A start form at the unit (R135). -/
def spindleStart (p : SpindleParams) (rpm : Nat) (ccw : Bool) (n : Node) : Node :=
  if n.nt.mode = .auto ∨ n.cu.stopped ∨ takesRequest n.sg = false then n
  else if rpm = 0 then obeyStop p n
  else obeyStart p rpm ccw n

/-- An override form at the unit (R129). -/
def spindleOverride (value : Nat) (n : Node) : Node :=
  { n with sg := { n.sg with override := clampNat 50 120 value } }

/-- The unit's part of an accepted SPINDLE frame: nothing at a node without it (R135, R147). -/
def sgFrame (f : SpindleParams → Node → Node) (n : Node) : Node :=
  match n.par.spindle with
  | some p => f p n
  | none => n

/-- The spindle request in force becomes unknown (R62). -/
def forgetSpindle (n : Node) : Node :=
  { n with bq := { n.bq with spindleForce := none, rangeForce := none } }

/-- The last spindle override accepted (R169). -/
def noteSpindleOverride (value : Nat) (n : Node) : Node :=
  if n.par.pendant.isSome then { n with pd := { n.pd with lastSp := some (clampNat 50 120 value) } } else n

/-- An accepted SPINDLE frame. A direction outside its list makes the spindle unit discard a start form; the
block queue makes the request in force unknown all the same, and the manual speed record stands, there being no
direction to take (DESIGN CHOICE, assumption log 90). A form outside its list has no effect (R135,
R62, R169, R173, R186). -/
def acceptSpindle (form : Byte) (speed : BitVec 16) (dir value : Byte) (n : Node) : Node :=
  if form = 0 then
    match boolOfCode dir with
    | some ccw =>
      manualSpeed speed.toNat ccw (forgetSpindle (sgFrame (fun p m => spindleStart p speed.toNat ccw m) n))
    | none => forgetSpindle n
  else if form = 1 then forgetSpindle (sgFrame obeyStop n)
  else if form = 2 then
    noteSpindleOverride value.toNat (sgFrame (fun _ m => spindleOverride value.toNat m) n)
  else n

/-- The unit's act at an applied FAULTCLR (R144). -/
def spindleFaultclr (n : Node) : Node :=
  match n.par.spindle with
  | some p => if n.sg.gear = .gearFault then gearFromPattern p n else n
  | none => n

end Sys2Proof.Machine
end

