-- ==== Sys2Proof/Machine/Coolant.lean ====
section
/-! DEFINITION. The coolant unit at a motion tick and at its frames (chapter 9). -/

namespace Sys2Proof.Machine

/-! ### Inputs (R149, R152) -/

/-- The sample of a pressure reading (R152). -/
def pressureSample (p : CoolantParams) (reading : Nat) : Nat := reading * p.fullScale / 4095

/-- The average of the pressure window (R152). -/
def average (cl : CL) : Nat := cl.window.foldl (· + ·) 0 / 8

/-- The pressure sampled into the window (R152). -/
def pressureTick (p : CoolantParams) (n : Node) : Node :=
  { n with cl := { n.cl with window := n.cl.window.tail ++ [pressureSample p n.pins.pressure.toNat] } }

/-- The tank low switch's debounced level taken, with TANK_LOW raised or cleared as it changes (R149). -/
def tankTo (l : Level) (n : Node) : Node :=
  let m := { n with cl := { n.cl with tank := l } }
  if l.level && !n.cl.tank.level then tankLowRaised m
  else if !l.level && n.cl.tank.level then tankLowCleared m
  else m

/-- The two switches sampled (R149). -/
def switchesTick (n : Node) : Node :=
  let m := tankTo (debounce 50 n.pins.tankLow n.cl.tank) n
  { m with cl := { m.cl with flow := debounce 50 m.pins.flow m.cl.flow } }

/-! ### The circuits at a tick (R148, R150, R151, R154) -/

/-- The circuit timers and the bleed timer counted down at the start of a tick, so that a timer set within
the tick is counted from the next one on (R150, R154). -/
def circuitTimers (n : Node) : Node :=
  if n.par.coolant.isSome then
    { n with cl := { n.cl with floodTimer := n.cl.floodTimer - 1, tscTimer := n.cl.tscTimer - 1,
                               bleed := n.cl.bleed - 1 } }
  else n

/-- FLOOD at a motion tick: the comparison with its demand, then the events of its state (R148, R150). In
STARTING the flow switch wins over the end of the timer at the same tick (DESIGN CHOICE, assumption log 65). -/
def floodTick (n : Node) : Node :=
  match n.cl.flood with
  | .off => compareFlood n
  | .starting =>
    if !n.cl.demand.flood || tankIsLow n then floodStop n
    else if n.cl.flow.level then floodProven n
    else if n.cl.floodTimer = 0 then floodFault n
    else n
  | .proven =>
    if !n.cl.demand.flood || tankIsLow n then floodStop n
    else if !n.cl.flow.level then floodFault n
    else n
  | .stopping => if !n.cl.flow.level || n.cl.floodTimer == 0 then floodOff n else n
  | .degraded => n
  | .fault => n

/-- TSC in STOPPING at a motion tick: the end of its bleed makes it OFF (R154). -/
def bleedTick (n : Node) : Node := if n.cl.bleed = 0 then tscOff n else n

/-- TSC in STARTING at a motion tick (R154): the pressure wins over the end of the timer at the same tick
(DESIGN CHOICE, assumption log 65). -/
def tscStartingTick (p : CoolantParams) (n : Node) : Node :=
  if p.pOk ≤ average n.cl then tscProven n
  else if n.cl.tscTimer = 0 then tscFault n
  else n

/-- TSC in PROVEN at a motion tick: the low run (R154). -/
def tscProvenTick (p : CoolantParams) (n : Node) : Node :=
  let k := runCount 200 (average n.cl < p.pOk) n.cl.lowRun
  let m := { n with cl := { n.cl with lowRun := k } }
  if k = 200 then tscDegrade p m else m

/-- TSC in DEGRADED at a motion tick (R154). -/
def tscDegradedTick (p : CoolantParams) (n : Node) : Node :=
  if p.pOk + p.hyst ≤ average n.cl then tscProven n else n

/-- TSC at a motion tick: interlock and demand, then the events of its state (R148, R153, R154). -/
def tscTick (p : CoolantParams) (n : Node) : Node :=
  if circOn n.cl.tsc && (!n.cl.demand.tsc || !interlock p n) then tscStop n
  else
    match n.cl.tsc with
    | .off => compareTsc p n
    | .starting => tscStartingTick p n
    | .proven => tscProvenTick p n
    | .degraded => tscDegradedTick p n
    | .stopping => bleedTick n
    | .fault => n

/-- The loss run of a tick (R159). -/
def lossRunTick (p : CoolantParams) (n : Node) : Node :=
  let hit := required .tsc n && circProven .tsc n.cl && average n.cl < p.pLow
  { n with cl := { n.cl with lossRun := runCount 500 hit n.cl.lossRun } }

/-- The unit's work at a motion tick: switches, pressure, the loss run against the tick's average, circuits,
losses. The loss run is counted before the circuits, so that a TSC proven again at this tick is not found
failing on a run that the tick's average ends (R154, R159). A circuit that TANK_LOW stops at the switches is in
STOPPING when its state's events are tested, and may be OFF at this tick already (DESIGN CHOICE, assumption
log 35). -/
def coolantTick (n : Node) : Node :=
  match n.par.coolant with
  | some p =>
    clLoss (compareAir (tscTick p (floodTick (lossRunTick p (pressureTick p (switchesTick n))))))
  | none => n

/-- The comparison of R148 outside the tick's other work, at a start tick (R158). -/
def compareAll (n : Node) : Node :=
  match n.par.coolant with
  | some p => compareAir (compareTsc p (compareFlood n))
  | none => n

/-! ### COOLANT frames (R160) -/

/-- A part of a COOLANT frame: 0 unchanged, 1 on, 2 off. -/
def partOfCode (b : Byte) : Option (Option Bool) :=
  if b = 0 then some none else if b = 1 then some (some true) else if b = 2 then some (some false)
  else none

/-- One part obeyed (R160). -/
def obeyPart (c : Circ) (part : Option Bool) (n : Node) : Node :=
  match part with
  | none => n
  | some true => if n.nt.mode = .auto ∨ n.cu.stopped then n else setDemand c true n
  | some false =>
    let m := setDemand c false n
    if n.nt.mode = .auto ∧ fillsHead .coolant n = true then
      { m with cl := { m.cl with manualOff := putCirc c true m.cl.manualOff } }
    else m

/-- The coolant set in force becomes unknown (R62). -/
def forgetCoolant (n : Node) : Node := { n with bq := { n.bq with coolantForce := none } }

/-- An accepted COOLANT frame. A code outside its list makes the coolant unit discard it; the block queue
makes the set in force unknown all the same (R62, R160, R186). -/
def acceptCoolant (flood tsc air : Byte) (n : Node) : Node :=
  match partOfCode flood, partOfCode tsc, partOfCode air with
  | some f, some t, some a =>
    forgetCoolant
      (if n.par.coolant.isSome then obeyPart .air a (obeyPart .tsc t (obeyPart .flood f n)) else n)
  | _, _, _ => forgetCoolant n

/-- The unit's act at an applied FAULTCLR (R161). -/
def coolantFaultclr (n : Node) : Node :=
  if n.par.coolant.isSome then
    let f := if n.cl.flood = .fault then floodOff n else n
    if f.cl.tsc = .fault then
      if f.cl.bleed = 0 then tscOff f else setTsc .stopping 0 f.cl.bleed f
    else f
  else n

end Sys2Proof.Machine
end

