-- ==== Sys2Proof/Machine/Pendant.lean ====
section
/-! DEFINITION. The pendant unit (chapter 10): debounced readings, handwheel and JOG, knobs, PANEL and
buttons. -/

namespace Sys2Proof.Machine

/-! ### Readings (R163) -/

/-- A reading after a raw value; `none` is a raw value that names no position (R163). -/
def readTick {α : Type} [DecidableEq α] (raw : Option α) (r : Reading α) : Reading α :=
  match raw with
  | none => { r with cand := r.val, run := 0 }
  | some v =>
    if v = r.val then { r with cand := v, run := 0 }
    else
      let k := if v = r.cand then r.run + 1 else 1
      if 20 ≤ k then { val := v, cand := v, run := 0 } else { r with cand := v, run := k }

/-- A reading that has taken a value. -/
def readNow {α : Type} (v : α) : Reading α := { val := v, cand := v, run := 0 }

/-- The enabling switch: it leaves middle at once and comes to it after 20 ticks (R163). -/
def enableTick (raw : EnablePos) (r : Reading EnablePos) : Reading EnablePos :=
  if r.val = .middle ∧ raw ≠ .middle then readNow raw else readTick (some raw) r

/-- The buttons sampled (R163). -/
def buttonsTick (b : Buttons) (pd : PD) : PD :=
  { pd with
    btnCycle := readTick (some b.cycleStart) pd.btnCycle
    btnHold := readTick (some b.feedHold) pd.btnHold
    btnStart := readTick (some b.spindleStart) pd.btnStart
    btnStop := readTick (some b.spindleStop) pd.btnStop
    btnCoolant := readTick (some b.coolant) pd.btnCoolant
    btnReset := readTick (some b.reset) pd.btnReset
    btnRef := readTick (some b.ref) pd.btnRef }

/-- The selectors and the enabling switch sampled (R163). -/
def selectorsTick (p : PendantPins) (pd : PD) : PD :=
  { pd with
    mode := readTick p.mode pd.mode
    axisSel := readTick (p.axisSel.map some) pd.axisSel
    increment := readTick p.increment pd.increment
    enable := enableTick p.enable pd.enable }

/-! ### Handwheel (R164) -/

/-- The wheel cannot jog: no axis selected, the switch not on, or AUTO (R164). -/
def wheelIdle (n : Node) : Bool := (selectedAxis n).isNone || !enableOn n || n.nt.mode == .auto

/-- The node with its detent count replaced. -/
def setDetents (d : Int) (n : Node) : Node := { n with pd := { n.pd with detents := d } }

/-- The detent count set to 0 while the wheel cannot jog (R164). -/
def wheelGate (n : Node) : Node := if wheelIdle n then setDetents 0 n else n

/-- The edge residue and the whole detents after an edge (R164). -/
def residueStep (up : Bool) (r : Int) : Int × Int :=
  let s := if up then r + 1 else r - 1
  if 4 ≤ s then (0, 1) else if s ≤ -4 then (0, -1) else (s, 0)

/-- A handwheel edge (R164). The gate is tested at the edge as well, so that an edge in a tick in which the wheel has
become unable to jog leaves the count 0 before the next tick starts (DESIGN CHOICE, assumption log 87). -/
def wheelEdge (up : Bool) (n : Node) : Node :=
  let x := residueStep up n.pd.residue
  wheelGate { n with pd := { n.pd with
    residue := x.1, detents := clampInt (-32767) 32767 (n.pd.detents + x.2) } }

/-! ### JOG (R165, R166) -/

/-- A toggle as a byte. -/
def toggleByte (t : Bool) : Byte := boolCode t

/-- The outstanding JOG over: the toggle flips (R166). -/
def jogOver (n : Node) : Node := { n with pd := { n.pd with toggle := !n.pd.toggle, outstanding := none } }

/-- An outstanding JOG that no queue entry stands for is lost (R166). -/
def jogLostTest (n : Node) : Node := if n.pd.outstanding.isSome && !txHas isJog n then jogOver n else n

/-- The detents put into one JOG (R165). -/
def jogDetents (d : Int) : Int := clampInt (-127) 127 d

/-- The JOG request of a tick (R165). -/
def jogRequest (n : Node) : Node :=
  if n.pd.detents ≠ 0 ∧ 10 ≤ n.pd.jogTimer ∧ n.pd.outstanding = none then
    let k := jogDetents n.pd.detents
    ask (.jog (axisByte (selectedAxis n)) (incrementCode n.pd.increment.val) (BitVec.ofInt 8 k)
        (toggleByte n.pd.toggle))
      { n with pd := { n.pd with detents := n.pd.detents - k, jogTimer := 0,
                                 outstanding := some (k, n.pd.toggle) } }
  else n

/-- The node's own JOG accepted (R166). -/
def ownJogAccepted (toggle : Bool) (n : Node) : Node :=
  match n.pd.outstanding with
  | some (_, t) => if t = toggle then jogOver n else n
  | none => n

/-! ### Knobs (R167 to R169) -/

/-- A knob's position in sixths of a step, `m` being N − 1 (R167). -/
def knobSixths (m k : Nat) : Nat := k * 6 * m / 4095

/-- The nearest index of a position (R167). -/
def nearestIndex (u : Nat) : Nat := (u + 3) / 6

/-- A knob's index after a reading (R167). -/
def knobIndex (m k i : Nat) : Nat :=
  let u := knobSixths m k
  if 6 * i + 5 ≤ u ∨ u + 5 ≤ 6 * i then min (nearestIndex u) m else i

/-- The knobs read (R167). -/
def knobsTick (p : PendantPins) (pd : PD) : PD :=
  { pd with feedIdx := knobIndex 15 p.feedKnob.toNat pd.feedIdx,
            spindleIdx := knobIndex 7 p.spindleKnob.toNat pd.spindleIdx }

/-- A knob OVERRIDE of the node's own is pending, in transmission, or kept for its apply tick (R168). -/
def knobWaits (n : Node) : Bool :=
  txHas isKnobOverride n || n.kept.any fun k => k.own && isKnobOverride k.payload

/-- The knob OVERRIDE request of a tick (R168). -/
def knobRequest (n : Node) : Node :=
  if (feedKnobValue n ≠ n.pg.knob ∨ n.pd.resend = true) ∧ 20 ≤ n.pd.ovrTimer ∧ knobWaits n = false then
    ask (.override 0 (BitVec.ofNat 8 (feedKnobValue n))) { n with pd := { n.pd with ovrTimer := 0 } }
  else n

/-- The SPINDLE override request of a tick (R169). -/
def spindleKnobRequest (n : Node) : Node :=
  if n.pd.lastSp ≠ some (spindleKnobValue n) ∧ 20 ≤ n.pd.spTimer ∧ txHas isSpindleOverride n = false then
    ask (.spindle 2 0 0 (BitVec.ofNat 8 (spindleKnobValue n))) { n with pd := { n.pd with spTimer := 0 } }
  else n

/-! ### PANEL (R170) -/

/-- The node's own PANEL in transmission. -/
def panelInTx (n : Node) : Bool := n.lc.queue.any fun e => e.inTx && isPanel e.payload

/-- A PANEL carrying readings is pending. -/
def panelPending (b : PanelBody) (n : Node) : Bool := txPending (fun p => p == .panel b) n

/-- The comparison of the panel readings with the own panel fields (R170). -/
def panelRequest (n : Node) : Node :=
  match panelReadings n with
  | none => n
  | some r =>
    if (entryAt (me n) n).panel = some r ∨ panelInTx n ∨ panelPending (panelBody r) n then n
    else ask (.panel (panelBody r)) (withdrawPending (fun e => isPanel e.payload) n)

/-! ### Buttons (R171 to R174) -/

/-- The conditions of CYCLE START (R171). -/
def cycleAllowed (n : Node) : Bool :=
  n.nt.mode == .auto && !hasHold (machineConds n) && !hasStop (machineConds n) && !n.cu.stopped &&
  n.cu.held && !n.pd.btnHold.val && !txHas isResume n && !keptResume n

/-- CYCLE START pressed (R171). -/
def pressCycle (n : Node) : Node := if cycleAllowed n then ask .resume n else n

/-- FEED HOLD pressed: a pending RESUME of the node's own is withdrawn (R171), and from now on its reading
down is one that has been pressed since the reset (R175). A RESUME in transmission is left unmarked, so that an attempt
that fails returns it to pending (R11; DESIGN CHOICE, assumption log 83). -/
def pressHold (n : Node) : Node :=
  withdrawPending (fun e => isResume e.payload) { n with pd := { n.pd with holdPressed := true } }

/-- FEED HOLD at the start of a motion tick; a button held down through the reset acts only once it has been
released and pressed (R171, R175). -/
def feedHoldTick (n : Node) : Node :=
  if n.pd.btnHold.val && n.pd.holdPressed && !n.cu.held && !txHas isHold n && !keptHold n then ask .hold n else n

/-- RESET pressed (R172). -/
def pressReset (n : Node) : Node := if txHas isFaultclr n then n else ask .faultclr n

/-- REF pressed (R172). -/
def pressRef (n : Node) : Node :=
  match n.nt.mode, selectedAxis n with
  | .setup, some a => ask (.reference (BitVec.ofNat 8 a)) n
  | _, _ => n

/-- SPINDLE START pressed (R173). -/
def pressStart (n : Node) : Node :=
  match n.pd.manual with
  | some q =>
    if n.nt.mode = .auto then n else ask (.spindle 0 (BitVec.ofNat 16 q.rpm) (boolCode q.ccw) 0) n
  | none => n

/-- SPINDLE STOP pressed (R173). -/
def pressStop (n : Node) : Node := ask (.spindle 1 0 0 0) n

/-- The FLOOD state reported for the coolant node (R174). -/
def reportedFlood (n : Node) : Option CircuitState :=
  match lowestOwner Functions.coolant n with
  | some i =>
    match (entryAt i n).report with
    | some r => r.flood
    | none => none
  | none => none

/-- COOLANT pressed (R174). For a FLOOD reported as DEGRADED, which R174's table does not name, nothing is sent (DESIGN
CHOICE, assumption log 91). -/
def pressCoolant (n : Node) : Node :=
  match reportedFlood n with
  | some .starting | some .proven => ask (.coolant 2 0 0) n
  | some .off | some .stopping | some .fault => if n.nt.mode = .auto then n else ask (.coolant 1 0 0) n
  | some .degraded | none => n

/-- What a button's press does (R171 to R174). -/
def pressed : Button → Node → Node
  | .cycleStart, n => pressCycle n
  | .feedHold, n => pressHold n
  | .spindleStart, n => pressStart n
  | .spindleStop, n => pressStop n
  | .coolant, n => pressCoolant n
  | .reset, n => pressReset n
  | .ref, n => pressRef n

/-- A button's debounced reading. -/
def buttonReading : Button → PD → Bool
  | .cycleStart, pd => pd.btnCycle.val
  | .feedHold, pd => pd.btnHold.val
  | .spindleStart, pd => pd.btnStart.val
  | .spindleStop, pd => pd.btnStop.val
  | .coolant, pd => pd.btnCoolant.val
  | .reset, pd => pd.btnReset.val
  | .ref, pd => pd.btnRef.val

/-- A button's debounced reading replaced. -/
def setButton (b : Button) (down : Bool) (pd : PD) : PD :=
  match b with
  | .cycleStart => { pd with btnCycle := readNow down }
  | .feedHold => { pd with btnHold := readNow down }
  | .spindleStart => { pd with btnStart := readNow down }
  | .spindleStop => { pd with btnStop := readNow down }
  | .coolant => { pd with btnCoolant := readNow down }
  | .reset => { pd with btnReset := readNow down }
  | .ref => { pd with btnRef := readNow down }

/-- A button's reading goes to a level; from up to down it is the press (10.5). -/
def buttonTo (b : Button) (down : Bool) (n : Node) : Node :=
  let m := { n with pd := setButton b down n.pd }
  if down && !buttonReading b n.pd then pressed b m else m

/-- The buttons in the order their presses are taken within one tick. -/
def buttonOrder : List Button :=
  [.feedHold, .cycleStart, .reset, .ref, .spindleStart, .spindleStop, .coolant]

/-- The presses of a tick: the buttons whose readings have gone from up to down (10.5). -/
def pressesTick (before : PD) (n : Node) : Node :=
  buttonOrder.foldl
    (fun m b => if buttonReading b m.pd && !buttonReading b before then pressed b m else m) n

/-! ### The unit at a motion tick -/

/-- The detent count after a change of the axis selector or the increment (R164). -/
def selectorGate (before : PD) (n : Node) : Node :=
  if n.pd.axisSel.val = before.axisSel.val ∧ n.pd.increment.val = before.increment.val then n
  else setDetents 0 n

/-- The three timers rise (R165, R168, R169). -/
def timersTick (pd : PD) : PD :=
  { pd with jogTimer := min (pd.jogTimer + 1) 10, ovrTimer := min (pd.ovrTimer + 1) 20,
            spTimer := min (pd.spTimer + 1) 20 }

/-- The unit's work at the start of a motion tick: readings, handwheel, requests, buttons. -/
def pendantTick (n : Node) : Node :=
  if n.par.pendant.isSome then
    let p := n.pins.pendant
    let pd := timersTick (knobsTick p (buttonsTick p.buttons (selectorsTick p n.pd)))
    let m := wheelGate (selectorGate n.pd { n with pd := pd })
    let r := panelRequest (spindleKnobRequest (knobRequest (jogRequest (jogLostTest m))))
    pressesTick n.pd r
  else n

/-- A reading taken by its debounce (R163, R164); a button's reading going down is its press. The handwheel's gate is
tested with the reading that bears on it (DESIGN CHOICE, assumption log 87). -/
def controlTo (r : ControlReading) (n : Node) : Node :=
  match r with
  | .mode m => { n with pd := { n.pd with mode := readNow m } }
  | .axisSel x =>
    wheelGate (selectorGate n.pd { n with pd := { n.pd with axisSel := readNow (some x) } })
  | .increment i =>
    wheelGate (selectorGate n.pd { n with pd := { n.pd with increment := readNow i } })
  | .enable e => wheelGate { n with pd := { n.pd with enable := readNow e } }
  | .button b d => buttonTo b d n

/-- A joining ANNOUNCE accepted from another node: the knob's value is to be sent again (R168, R169). -/
def pendantRejoin (n : Node) : Node :=
  if n.par.pendant.isSome then { n with pd := { n.pd with resend := true, lastSp := none } } else n

/-- The node's own knob OVERRIDE accepted: the resend mark clears (R168). -/
def resendClear (n : Node) : Node := { n with pd := { n.pd with resend := false } }

end Sys2Proof.Machine
end

