-- ==== Sys2Proof/Machine/Line.lean ====
section
/-! DEFINITION. The line controller (chapter 2): gaps and attempts, their outcomes, the error counts and
line states, and what acceptance of a frame does before its unit takes it. -/

namespace Sys2Proof.Machine

/-! ### Gap and head (R5, R12) -/

/-- The head of the transmit queue: the first entry that is eligible and not in transmission (R12). -/
def txHead (lc : LC) : Option TxEntry := lc.queue.find? fun e => e.eligible && !e.inTx

/-- Whether an attempt is under way: an entry is in transmission (R12). -/
def sending (lc : LC) : Bool := lc.queue.any TxEntry.inTx

/-- The gap of an entry, in bit times (R5). -/
def gapOf (node : NodeNo) (lc : LC) (e : TxEntry) : Nat :=
  12 + 16 * txClass e + node.val + (if lc.yield && 2 ≤ txClass e then 16 else 0) +
  (if lc.state = .quiet then 96 else 0)

/-- The line states in which frames are sent and requests taken (R18). -/
def onLine (s : LineState) : Bool := s == .active || s == .quiet

/-- The LC is ready to begin an attempt, the quiet count apart (R4). -/
def readyToSend (lc : LC) : Bool :=
  onLine lc.state && (txHead lc).isSome && !sending lc && !lc.decoding && lc.errorRun == 0

/-- The payload an attempt sends: a PACE carries the content of the tick the attempt begins in (R93). -/
def sentAs (pace p : Payload) : Payload :=
  match p with
  | .pace _ _ _ => pace
  | q => q

/-- The first eligible entry that is not in transmission marked as in transmission, with the payload it
sends (R4, R93). -/
def markHead (pace : Payload) : List TxEntry → List TxEntry
  | [] => []
  | e :: es =>
    if e.eligible && !e.inTx then { e with inTx := true, payload := sentAs pace e.payload } :: es
    else e :: markHead pace es

/-- The stamp of a capture (R10). -/
def stampAt (m : Moment) : Stamp :=
  { tick := m.tick.setWidth 16, phase := BitVec.ofNat 10 m.phase.val }

/-- The stamp a payload's kind carries in an attempt that begins at a moment (R10). -/
def stampFor (p : Payload) (m : Moment) : Option Stamp :=
  if kindStamped (payloadKind p) then some (stampAt m) else none

/-- The payload in transmission. -/
def sentPayload (lc : LC) : Option Payload := (lc.queue.find? TxEntry.inTx).map TxEntry.payload

/-- An attempt begins at the leading edge of its start bit: the stamp is captured, the head is marked, and
start bit, frame and slot stand ready for the line; an attempt of class 2 or 3 removes the yield penalty (R4,
R5, R10). -/
def beginAttempt (n : Node) : Node :=
  let c : Moment := { tick := n.pg.tick, phase := n.pg.phase }
  let q := markHead (pacePayload n) n.lc.queue
  let cls := ((txHead n.lc).map txClass).getD 0
  let lc := { n.lc with queue := q, capture := some c, quiet := 0, bitError := false, slotBusy := false,
                        slotError := false, yield := n.lc.yield && cls < 2 }
  let bits := match sentPayload lc with
    | some p => attemptBits n.su.node (stampFor p c) p
    | none => []
  { n with lc := { lc with txBits := bits } }

/-! ### Line state and LINE_WARN (R17, R18, R19, R20) -/

/-- LINE_WARN follows the counts (R18). -/
def lineWarnTest (n : Node) : Node :=
  if n.lc.send < 96 ∧ n.lc.recv < 96 then clearCond .lineWarn n
  else if condIn .lineWarn n.cu.own then n
  else raiseWarn .lineWarn 0 n

/-- The line state between ACTIVE and QUIET that the counts give (R18). -/
def stateForCounts (lc : LC) : LineState :=
  match lc.state with
  | .active => if 128 ≤ lc.send ∨ 128 ≤ lc.recv then .quiet else .active
  | .quiet => if lc.send < 96 ∧ lc.recv < 96 then .active else .quiet
  | s => s

/-- The line state and LINE_WARN after a change of the counts (R18). -/
def recount (n : Node) : Node :=
  lineWarnTest { n with lc := { n.lc with state := stateForCounts n.lc } }

/-- Entry into OFF (R19). -/
def enterOff (n : Node) : Node :=
  let lc := { n.lc with state := .off, queue := [], recovery := some 250, txBits := [], errorRun := 0,
                        decoding := false, capture := none }
  { n with lc := noteLineError .lineOff lc }

/-- The send count after a failed attempt; a rise past 255 takes the node to OFF (R17). -/
def countFailure (n : Node) : Node :=
  if 255 < n.lc.send + 4 then recount (enterOff { n with lc := { n.lc with send := 255 } })
  else recount { n with lc := { n.lc with send := n.lc.send + 4 } }

/-- The joining ANNOUNCE asked for (R31). -/
def askJoining (n : Node) : Node :=
  ask (.announce (announceBody true n)) { n with su := { n.su with joinPending := true } }

/-- The three frames of the first entry into ACTIVE after a full reset (R31). -/
def firstFrames (n : Node) : Node :=
  let s := if hasStop n.cu.own && !txHas isStopall n then ask .stopall n else n
  let a := askJoining { s with su := { s.su with firstActive := false } }
  if a.cu.record.isSome then ask (.fault (faultBody a)) a else a

/-- JOINING is left for ACTIVE (R20, R31). A receive count that stands at 128 or more takes the node on to
QUIET in the same step (DESIGN CHOICE, assumption log 46). -/
def enterActive (n : Node) : Node :=
  let m := { n with lc := { n.lc with state := .active, recoveryMark := false } }
  let k := if n.su.firstActive then firstFrames m else if n.lc.recoveryMark then askJoining m else m
  recount k

/-- The own entry carries the node's present announce cause (R34). -/
def ownCause (n : Node) : Node :=
  setEntry (me n) { entryAt (me n) n with cause := some n.su.announceCause } n

/-- The recovery timer has expired: both counts 0, JOINING with the recovery mark, and the announce cause
LINE_RECOVERY (R19, R20, R34). The quiet count stands as it is, and so does `joined` (DESIGN CHOICE, assumption
log 69). The STATE timer runs on and goes on asking (DESIGN CHOICE, assumption log 93). -/
def recoveryOver (n : Node) : Node :=
  recount (ownCause { n with
    lc := { n.lc with state := .joining, recoveryMark := true, send := 0, recv := 0, queue := [],
                      recovery := none }
    su := { n.su with announceCause := .lineRecovery } })

/-- The recovery timer of a motion tick. -/
def recoveryTick (n : Node) : Node :=
  match n.lc.state, n.lc.recovery with
  | .off, some k =>
    if k ≤ 1 then recoveryOver n else { n with lc := { n.lc with recovery := some (k - 1) } }
  | _, _ => n

/-! ### Outcomes of an attempt (R6, R11, R13, R14) -/

/-- Whether a newer waiting entry would have replaced an entry (R13). -/
def superseded (e : TxEntry) (q : List TxEntry) : Bool := q.any fun x => !x.inTx && replaces x.payload e.payload

/-- The queue after an attempt that did not succeed: the entry in transmission goes back to pending as
`back` leaves it, or leaves where it is withdrawn or a newer one replaces it (R11, R13, R14). -/
def endSending (back : TxEntry → TxEntry) (q : List TxEntry) : List TxEntry :=
  (q.filter fun e => !(e.inTx && (e.doomed || superseded e q))).map fun e =>
    if e.inTx then { back e with inTx := false } else e

/-- The attempt of the node ended, with the queue it leaves. -/
def attemptOver (q : List TxEntry) (lc : LC) : LC := { lc with queue := q, txBits := [], bitError := false }

/-- A contention loss: the entry goes back unchanged and the node goes on decoding, with its capture
(R6, R10). -/
def contentionLost (n : Node) : Node :=
  { n with lc := { attemptOver (endSending id n.lc.queue) n.lc with decoding := true, quiet := 0 } }

/-- Refused busy: the entry is ineligible until the next motion tick begins (R11). -/
def refusedBusy (n : Node) : Node :=
  { n with lc := { attemptOver (endSending (fun e => { e with eligible := false }) n.lc.queue) n.lc with
                     capture := none, quiet := 1 } }

/-- The retry limit of a class, none for class 0 (R11). -/
def retryLimit (cls : Nat) : Option Nat :=
  if cls = 0 then none else if cls = 1 then some 16 else some 8

/-- Whether an entry has reached its retry limit (R11). -/
def spent (e : TxEntry) : Bool :=
  match retryLimit (txClass e) with
  | some k => k ≤ e.failed
  | none => false

/-- The node's error run begins, in ACTIVE only (R7). -/
def errorRun (lc : LC) : LC := if lc.state = .active then { lc with errorRun := 10 } else lc

/-- A bit error of the node's own attempt, with the quiet count that the sample leaves (R4, R6, R7, R21). -/
def bitErrorFound (quiet : Nat) (n : Node) : Node :=
  { n with lc := errorRun (noteLineError .bit { n.lc with bitError := true, txBits := [], quiet := quiet }) }

/-- A failure: the last error code, the failed-attempt count, the retry limit and the send count (R11,
R17, R21). The quiet count is the bit error's, or starts again behind the error bit read driven (R4). -/
def attemptFailed (n : Node) : Node :=
  let lc := if n.lc.bitError then n.lc else noteLineError .objected n.lc
  let q1 := lc.queue.map fun e => if e.inTx then { e with failed := e.failed + 1 } else e
  let gone := q1.any fun e => e.inTx && spent e
  let q2 := if gone then q1.filter fun e => !e.inTx else endSending id q1
  let lc2 := { attemptOver q2 (if gone then noteLineError .abandoned lc else lc) with
                 capture := none, decoding := false, quiet := if n.lc.bitError then n.lc.quiet else 0 }
  countFailure { n with lc := lc2 }

/-- A success: the entry leaves the queue, the send count falls, and a class-2 or class-3 frame brings
the yield penalty (R5, R11, R17). -/
def attemptSucceeded (n : Node) : Node :=
  match n.lc.queue.find? TxEntry.inTx with
  | some e =>
    { n with lc := { attemptOver (n.lc.queue.filter fun x => !x.inTx) n.lc with
        send := if n.lc.state = .off then n.lc.send else n.lc.send - 1
        yield := n.lc.yield || 2 ≤ txClass e } }
  | none => n

/-! ### Receive errors (R2, R3, R7, R17, R19, R21) -/

/-- Whether the node decodes as a receiver what its LC sees: LOADING is over and it is not sending. -/
def receives (n : Node) : Bool := loaded n && !sending n.lc

/-- A phase of a tick of some length: it holds at 999, and at the last phase of a shortened tick, until the
next tick starts (R77). -/
def phaseIn (tickLen k : Nat) : Phase := ⟨min k (min 999 (tickLen - 1)), by omega⟩

/-- The node with its phase at the end of what an event of the line takes in. -/
def atPhase (k : Phase) (n : Node) : Node := { n with pg := { n.pg with phase := phaseIn n.pg.tickLen k.val } }

/-- The LC joins the frame whose start bit followed a quiet count: it has joined the line, or does so at
this start bit (R30). -/
def joins (lead : Nat) (n : Node) : Bool := n.lc.joined || 12 ≤ lead

/-- The end of a frame at the LC, accepted or not: the capture is discarded, nothing is driven in a slot any
more, and the quiet count is what the samples leave (R4, R8, R10). -/
def leaveFrame (quiet : Nat) (n : Node) : Node :=
  { n with lc := { n.lc with decoding := false, capture := none, quiet := quiet,
                             slotBusy := false, slotError := false, joined := true } }

/-- A frame the LC has not joined: its bits only return the quiet count to 0 (R30). -/
def passedOver (quiet : Nat) (n : Node) : Node := { n with lc := { n.lc with quiet := quiet } }

/-- A frame that the LC breaks off or does not accept, where it receives: taken by `f` with the released bits
at its end where the LC has joined it, and passed over otherwise (R4, R10, R30; assumption log 16). -/
def brokenOff (t : Trail) (f : Nat → Node → Node) (n : Node) : Node :=
  if !receives n then n
  else
    let m := atPhase t.phase n
    if joins t.lead.val n then f t.released.val m else passedOver t.released.val m

/-- A receive error: the tally and code, the receive count, and in OFF the recovery timer again (R17,
R19, R21). -/
def receiveError (c : ErrCode) (quiet : Nat) (n : Node) : Node :=
  let m := leaveFrame quiet { n with lc := noteLineError c n.lc }
  if m.lc.state = .off then { m with lc := { m.lc with recovery := some 250 } }
  else recount { m with lc := { m.lc with recv := satAdd 255 m.lc.recv 2 } }

/-- An error found partway through a frame: a sync error or a form error in the length field (R7). A node in
ACTIVE drives its error run even where this error takes the receive count to 128: the run counts as begun
as QUIET takes effect (DESIGN CHOICE, assumption log 46). -/
def partwayError (c : ErrCode) (quiet : Nat) (n : Node) : Node :=
  receiveError c quiet { n with lc := errorRun n.lc }

/-- An error found at the end of the check: the error bit is driven in ACTIVE, the line state being the one
that the count of this error leaves, which holds from the next bit time (R8, R17, R18). -/
def checkTimeError (c : ErrCode) (quiet : Nat) (n : Node) : Node :=
  let m := receiveError c quiet n
  let drives := m.lc.state == .active
  { m with lc := { m.lc with slotError := drives, quiet := if drives then 0 else m.lc.quiet } }

/-! ### Acceptance (R9, R17, R20, R35, R41) -/

/-- The capture of an accepted frame: the LC's own where it sent or contended, otherwise the one passed
with the frame (R10). -/
def captureOf (rx : Rx) (n : Node) : Moment := n.lc.capture.getD rx.capture

/-- The quiet count at the end of a frame's slot, `busy` where the node itself drove the busy bit: 0 behind an
error bit, 1 behind a busy bit, and of two released bits 2, or 3 where the last sync bit was released as well
(R2, R4, R8). -/
def slotQuiet (busy : Bool) (rx : Rx) : Nat :=
  if rx.errorBit then 0 else if busy || rx.busyBit then 1 else if rx.syncDriven then 2 else 3

/-- The node's phase at the end of a frame's slot. -/
def atSlotEnd (rx : Rx) (n : Node) : Node := atPhase rx.phase n

/-- The node at the end of an accepted frame's slot. -/
def frameOver (rx : Rx) (n : Node) : Node := atSlotEnd rx (leaveFrame (slotQuiet false rx) n)

/-- A frame decoded whole passes the rest of R9's test: both slot bits were sampled released, and the node found
no bit error as its sender. -/
def slotClear (rx : Rx) (n : Node) : Bool := !rx.busyBit && !rx.errorBit && !(rx.own && n.lc.bitError)

/-- The outcome of the node's own attempt whose frame is not accepted: a failure on a bit error or a driven error
bit, and otherwise refused busy (R11). -/
def ownOutcome (rx : Rx) (n : Node) : Node :=
  if !(rx.own && sending n.lc) then n
  else if rx.errorBit || n.lc.bitError then attemptFailed n
  else refusedBusy n

/-- A frame decoded whole that is not accepted: of the node's own one the attempt ends, and the frame is over
(R9, R10, R11). -/
def notAccepted (rx : Rx) (n : Node) : Node :=
  atSlotEnd rx (leaveFrame (slotQuiet false rx) (ownOutcome rx n))

/-- A frame decoded whole, taken by `f` where R9 accepts it. -/
def takeFrame (rx : Rx) (f : Node → Node) (n : Node) : Node :=
  if slotClear rx n then f n else notAccepted rx n

/-- A frame that `f` goes on with where the LC has joined it, and passed over otherwise (R30). -/
def joinedFrame (rx : Rx) (f : Node → Node) (n : Node) : Node :=
  if joins rx.lead.val n then f n else atSlotEnd rx (passedOver (slotQuiet false rx) n)

/-- A frame taken by `f` where the LC has joined it and R9 accepts it (R9, R30). -/
def heardFrame (rx : Rx) (f : Node → Node) (n : Node) : Node := joinedFrame rx (takeFrame rx f) n

/-- The counts after an acceptance (R11, R17). -/
def countAccepted (rx : Rx) (n : Node) : Node :=
  if rx.own then recount (attemptSucceeded n)
  else if n.lc.state = .off then n
  else recount { n with lc := { n.lc with recv := n.lc.recv - 1 } }

/-- The line controller's part of an acceptance: the counts, and JOINING left for ACTIVE on another
node's frame (R9, R17, R20). -/
def lineAccept (rx : Rx) (n : Node) : Node :=
  let m := countAccepted rx (frameOver rx n)
  if !rx.own && m.lc.state == .joining then enterActive m else m

/-- The frame carries the node's own number and was not sent by it (R9, R41). -/
def clashing (rx : Rx) (n : Node) : Bool := !rx.own && rx.sender == n.su.node

/-- The frame comes from another node by its number. -/
def fromPeer (rx : Rx) (n : Node) : Bool := !rx.own && rx.sender != n.su.node

/-- The node table's part of every acceptance but an ANNOUNCE's: liveness, or NODE_CLASH (R35, R36, R41). -/
def tableAccept (rx : Rx) (n : Node) : Node :=
  if clashing rx n then nodeClash n
  else if fromPeer rx n then heard rx.sender.val n
  else n

/-- Everything an acceptance does before the owning unit takes the frame, the line controller first (DESIGN CHOICE,
assumption log 70). -/
def accepted (rx : Rx) (n : Node) : Node := tableAccept rx (lineAccept rx n)

/-- The node takes part in the objection slot of a frame (R8). -/
def inSlot (rx : Rx) (n : Node) : Bool := onLine n.lc.state && fromPeer rx n

/-- The node does not accept a BLOCK its queue cannot take: it drives the busy bit, or in JOINING and OFF
passes the frame over (R4, R8, R9, R57; assumption log 14). -/
def busyObjection (rx : Rx) (n : Node) : Node :=
  let m := atSlotEnd rx (leaveFrame (slotQuiet (inSlot rx n) rx) n)
  { m with lc := { m.lc with slotBusy := inSlot rx n } }

/-- A BLOCK is turned away: the queue cannot take it, and the node either objects or is in JOINING or OFF
(R8, R9, R57). -/
def turnsAway (rx : Rx) (num : BlockNo) (n : Node) : Bool :=
  !canTakeBlock num n && (inSlot rx n || !onLine n.lc.state)

/-! ### One bit time (R1, R4, R7) -/

/-- The microseconds of a bit time (R1). -/
def bitMicros : BitTime → Nat
  | .us2 => 2
  | .us1 => 1

/-- The phase after some microseconds of the present tick (R77). -/
def phaseAfter (tickLen k : Nat) (p : Phase) : Phase := phaseIn tickLen (p.val + k)

/-- The quiet count after a sample of the line (R4). -/
def quietAfter (driven : Bool) (q : Nat) : Nat := if driven then 0 else min (q + 1) 255

/-- The quiet count after a bit time; at 12 the LC has joined the line (R4, R30). -/
def countQuiet (driven : Bool) (lc : LC) : LC :=
  let q := quietAfter driven lc.quiet
  { lc with quiet := q, joined := lc.joined || 12 ≤ q }

/-- The next level of the attempt or error run put on the line, with the quiet count of that bit time,
nobody else driving the line (R1, R4, R7). -/
def driveBit (lc : LC) : LC :=
  if 0 < lc.errorRun then countQuiet true { lc with errorRun := lc.errorRun - 1 }
  else countQuiet (lc.txBits.headD false) { lc with txBits := lc.txBits.tail }

/-- An attempt begins in the bit time after the quiet count has reached the gap (R4, R5). -/
def attemptDue (n : Node) : Bool :=
  readyToSend n.lc && (txHead n.lc).any fun e => gapOf n.su.node n.lc e ≤ n.lc.quiet

/-- The LC in a bit time: an attempt that is due begins at its leading edge, with the stamp capture there,
and the level of the bit time is driven and counted (R1, R4, R7, R10). -/
def lineBit (n : Node) : Node :=
  let b := if attemptDue n then beginAttempt n else n
  { b with lc := driveBit b.lc }

/-- The phase at the end of a bit time. -/
def phaseBit (n : Node) : Node :=
  { n with pg := { n.pg with
      phase := phaseAfter n.pg.tickLen (bitMicros n.su.bitTime) n.pg.phase } }

end Sys2Proof.Machine
end

