-- ==== Sys2Proof/Machine/StartUp.lean ====
section
/-! DEFINITION. The start-up logic (chapter 3): full resets, the release, and the end of LOADING at a
CONFIGURED and at a LIMITED node. -/

namespace Sys2Proof.Machine

/-! ### Full resets (R24, R25) -/

/-- The reset cause of a reset that is no RESTART: POWER_ON if the supply has risen since the node last
began a start-up, RESET_PIN otherwise (R24). -/
def causeFor (supplyRose : Bool) : Cause := if supplyRose then .powerOn else .resetPin

/-- The node in a full reset with its straps as last sampled (R24). -/
def fullReset (supplyOk supplyRose : Bool) (cause : Cause) (serial : Option Byte) (n : Node) : Node :=
  Node.reset (StartUp.inFullReset n.su.node n.su.bitTime supplyOk supplyRose cause serial) n.pins

/-- A full reset from the supply or the reset pin (R24). -/
def hardReset (supplyOk supplyRose : Bool) (n : Node) : Node :=
  fullReset supplyOk supplyRose (causeFor supplyRose) none n

/-- The reset that an accepted RESTART starts (R25). -/
def restartReset (serial : Byte) (n : Node) : Node :=
  fullReset n.su.supplyOk n.su.supplyRose .restartFrame (some serial) n

/-- The node number of four strap levels, strap 0 the least significant (R23). -/
def strapNode (straps : BitVec 4) : NodeNo := straps.toFin

/-- The bit time of the rate strap (R23). -/
def strapBitTime (high : Bool) : BitTime := if high then .us1 else .us2

/-- The release of a reset: the straps are sampled, tick 0 begins and LOADING with its first reading
(R23, R24). -/
def released (straps : BitVec 4) (rate : Bool) (n : Node) : Node :=
  { n with su := { n.su with start := .loading, node := strapNode straps, bitTime := strapBitTime rate,
                             supplyRose := false, attempt := 1 } }

/-! ### The end of LOADING: the units' inputs (R28) -/

/-- The clamp from its sensors (R126); a channel without a clamp stays UNCLAMPED. -/
def clampAtStart (p : AxisParams) (pin : AxisPins) (a : Axis) : Axis :=
  if !p.clampFitted then a
  else if pin.clamped && !pin.unclamped then clampTo .clamped a
  else if pin.unclamped && !pin.clamped then clampTo .unclamped a
  else clampTo .clamping a

/-- A channel at the end of LOADING: clamp, drive fault and limit inputs (R126, R111, R113). With both active,
DRIVE_FAULT is raised before HARD_LIMIT (DESIGN CHOICE, assumption log 38). -/
def axisAtStart (c : Chan) (p : AxisParams) (n : Node) : Node :=
  let pin := axPins c n.pins
  let m := onAx c (clampAtStart p pin) n
  let d := if pin.fault then driveFault c m else m
  limitTest c .minus (limitTest c .plus d)

/-- The sensor levels at the end of LOADING (R138, R147). -/
def sensorsAtStart (p : ShifterPins) (sg : SG) : SG :=
  { sg with a1 := ⟨p.a1, 0⟩, a2 := ⟨p.a2, 0⟩, b1 := ⟨p.b1, 0⟩, b2 := ⟨p.b2, 0⟩ }

/-- The spindle and gearbox unit at the end of LOADING (R147). -/
def spindleAtStart (n : Node) : Node :=
  match n.par.spindle with
  | some p =>
    gearFromPattern p
      { n with sg := { sensorsAtStart n.pins.shifter n.sg with refRange := smallestRatio p } }
  | none => n

/-- The coolant unit at the end of LOADING (R149, R162). -/
def coolantAtStart (n : Node) : Node :=
  if n.par.coolant.isSome then
    let m := { n with cl := { n.cl with flow := ⟨n.pins.flow, 0⟩, tank := ⟨n.pins.tankLow, 0⟩ } }
    if n.pins.tankLow then raiseWarn .tankLow 0 m else m
  else n

/-- The readings of the pendant unit at the end of LOADING (R163, R167, R175). -/
def readingsAtStart (p : PendantPins) (pd : PD) : PD :=
  { pd with
    mode := readNow (p.mode.getD .manual)
    axisSel := readNow p.axisSel
    increment := readNow (p.increment.getD .x1)
    enable := readNow p.enable
    btnCycle := readNow p.buttons.cycleStart
    btnHold := readNow p.buttons.feedHold
    btnStart := readNow p.buttons.spindleStart
    btnStop := readNow p.buttons.spindleStop
    btnCoolant := readNow p.buttons.coolant
    btnReset := readNow p.buttons.reset
    btnRef := readNow p.buttons.ref
    feedIdx := nearestIndex (knobSixths 15 p.feedKnob.toNat)
    spindleIdx := nearestIndex (knobSixths 7 p.spindleKnob.toNat) }

/-- The pendant unit at the end of LOADING (R175). -/
def pendantAtStart (n : Node) : Node :=
  if n.par.pendant.isSome then { n with pd := readingsAtStart n.pins.pendant n.pd } else n

/-- The stop chain reading at the end of LOADING (R176, R184). -/
def chainAtStart (n : Node) : Node :=
  let m := { n with cu := { n.cu with chainOpen := n.pins.chainOpen, chainRun := 0 } }
  if n.pins.chainOpen then raiseStop .stopInput 0 m else m

/-- The own entry becomes LIVE with the node's identity (R34, R44, R51). -/
def ownLive (n : Node) : Node :=
  let e : NodeEntry :=
    { state := .live, silence := 0, funcs := some (ownFunctions n), tag := some n.par.ident.tag,
      cause := some n.su.announceCause, report := none, panel := none }
  reformMode (clashTest (unexpectedRaise (me n) (setEntry (me n) e n)))

/-- A passing reading: the units take their parameters and evaluate their inputs (R28, R30), in the order stop chain,
AX0, AX1, spindle, coolant, pendant, own entry (DESIGN CHOICE, assumption log 38). -/
def configured (l : Loaded) (n : Node) : Node :=
  let m := { n with
    su := { n.su with start := .configured }
    par := l.par
    bq := BQ.reset l.par.headWait
    ax0 := Axis.reset l.comp0
    ax1 := Axis.reset l.comp1 }
  ownLive (pendantAtStart (coolantAtStart (spindleAtStart (forAxes axisAtStart (chainAtStart m)))))

/-- A failing deciding reading: IMAGE_BAD with the reason code, and the LIMITED identity (R29, R30). -/
def limited (reason : Nat) (n : Node) : Node :=
  let m := { n with su := { n.su with start := .limited }, par := .limited }
  ownLive (chainAtStart (raiseStop .imageBad (BitVec.ofNat 8 reason) m))

/-- The read command with its three-byte address of 0 (R187). -/
def readCommand : List Byte := [0x03, 0, 0, 0]

/-- The configuration memory is selected while the loader reads, in LOADING (R26, R187). -/
def memorySelected (n : Node) : Bool := n.su.start == .loading

/-- What the loader sends to the memory as a reading begins (R187). -/
def loaderSends (n : Node) : List Byte := if memorySelected n then readCommand else []

/-- What the memory answers to a read command: its contents from the command's address on (R187). -/
def memoryAnswers (sent memory : List Byte) : List Byte :=
  match sent with
  | [op, hi, mid, lo] =>
    if op = 0x03 then memory.drop (hi.toNat * 65536 + mid.toNat * 256 + lo.toNat) else []
  | _ => []

/-- The clocks of a reading: eight for each byte sent and each byte clocked in (R187). -/
def readClocks (bytes : Nat) : Nat := 8 * (readCommand.length + bytes)

/-- A reading judged: the first may fail once, the second decides (R26). -/
def readingDone (bytes : List Byte) (inputs : Pins) (n : Node) : Node :=
  match judgeImage n.su.node bytes with
  | .good l => configured l { n with pins := inputs }
  | .bad r =>
    if n.su.attempt = 1 then { n with su := { n.su with attempt := 2 } }
    else limited r { n with pins := inputs }

end Sys2Proof.Machine
end

