-- ==== Sys2Proof/Machine/Tick.lean ====
section
/-! DEFINITION. The motion tick: what every unit does at it, in one order (assumption log 11), and what
follows every command: the machine condition set, the drive output, and the STATE a change asks for; and the bit
time that passes with no command waiting. -/

namespace Sys2Proof.Machine

/-! ### After every command (R47, R53, R131) -/

/-- A change of a reported field noted (R53). -/
def noteChange (n : Node) : Node :=
  if n.nt.lastKey = some (reportKey n) then n else { n with nt := { n.nt with changeNoted := true } }

/-- A noted change asks for a STATE once the timer stands at 5 or more (R53), also between a line-off recovery and the
acceptance of the joining ANNOUNCE (DESIGN CHOICE, assumption log 93). -/
def changeState (n : Node) : Node :=
  if n.nt.stateRunning && n.nt.changeNoted && 5 ≤ n.nt.stateTimer then askState n else n

/-- The values that follow the state: the machine condition set and the spindle's drive command (R47,
R131). -/
def refresh (n : Node) : Node :=
  { n with nt := { n.nt with machineSet := machineConds n }
           sg := match n.par.spindle with | some p => driveOut p n.sg | none => n.sg }

/-- What follows every command. -/
def finish (n : Node) : Node := refresh (changeState (noteChange n))

/-- A change of a node whose LOADING is over; before that the command has no effect (R24, R26). -/
def live (f : Node → Node) (n : Node) : Node := if loaded n then finish (f n) else n

/-! ### Parts of the tick -/

/-- The tick number, length and slew of a new tick, with the entries of the three ticks before it left in the pace
history (R77, R93, R96). -/
def countTick (n : Node) : Node :=
  let x := slewTick n.pg.slew
  { n with pg := { n.pg with tick := n.pg.tick + 1, phase := 0, tickLen := x.1, slew := x.2,
                             history := n.pg.history.take 3 } }

/-- Entries refused busy are eligible again (R11). -/
def eligibleTick (n : Node) : Node :=
  { n with lc := { n.lc with queue := n.lc.queue.map fun e => { e with eligible := true } } }

/-- The stop chain reading becomes open (R176). -/
def chainOpens (n : Node) : Node :=
  raiseStop .stopInput 0 { n with cu := { n.cu with chainOpen := true, chainRun := 0 } }

/-- The stop chain reading becomes closed (R176). -/
def chainCloses (n : Node) : Node :=
  clearCond .stopInput { n with cu := { n.cu with chainOpen := false, chainRun := 0 } }

/-- The stop chain input sampled (R176). -/
def chainTick (n : Node) : Node :=
  if n.pins.chainOpen then
    if n.cu.chainOpen then { n with cu := { n.cu with chainRun := 0 } } else chainOpens n
  else if !n.cu.chainOpen then n
  else if 20 ≤ n.cu.chainRun + 1 then chainCloses n
  else { n with cu := { n.cu with chainRun := n.cu.chainRun + 1 } }

/-- The joining ANNOUNCE asked for again at the start of a motion tick (R31). -/
def joinTick (n : Node) : Node := if n.su.joinPending && !txHas isAnnounce n then askJoining n else n

/-- The STATE timer and its period (R53), which go on after a line-off recovery before the joining ANNOUNCE has been
accepted (DESIGN CHOICE, assumption log 93). -/
def stateTick (n : Node) : Node :=
  if n.nt.stateRunning then
    let m := { n with nt := { n.nt with stateTimer := n.nt.stateTimer + 1 } }
    if 50 ≤ m.nt.stateTimer then askState m else m
  else n

/-- FEED HOLD at a motion tick, at a node with the pendant (R171). -/
def feedHoldPart (n : Node) : Node := if n.par.pendant.isSome then feedHoldTick n else n

/-- The end of the stop deceleration tested at the end of the tick's work (R92, R75). A block whose final tick this
is leaves with the other entries and does not become the last completed one (DESIGN CHOICE, assumption log 73). -/
def stopEndTest (n : Node) : Node := if stopDone n then stopReached n else n

/-- The start of a tick: the end of the one before with its pace history, the count, the timers of coolant and spindle, the joining
ANNOUNCE, the inputs, the frames due, and the silence timers (R71, R93, R77, R150, R154, R145, R31, R79, R35). -/
def tickStart (inputs : Pins) (n : Node) : Node :=
  let m := joinTick (stopTimerCount (circuitTimers (eligibleTick (countTick (endOfTick (historyEnd n))))))
  silenceTicks 16 (applyDue { m with pins := inputs })

/-- The tests at the start of a tick once its inputs and frames stand: stop chain, block start, pendant
(R176, R71, R163 to R174). -/
def tickInputs (n : Node) : Node := pendantTick (startTick (chainTick n))

/-- The tests on the head (R72, R157, R155, R64, R137, R69). The head is judged before the spindle unit acts on it,
so that a new request is WAIT SPINDLE_SPEED at its tick and judged with its own at-speed test from the next one on
(DESIGN CHOICE, assumption log 68). -/
def tickHead (n : Node) : Node :=
  goTest (sgActHead (verdictTick (clampRepeat (clActHead (headTimerTick n)))))

/-- The requests of the condition unit and of FEED HOLD (R50, R177, R171). -/
def tickRequests (n : Node) : Node := feedHoldPart (askStopall (heldTest n))

/-- The path (R93, R84, R92). -/
def tickPath (n : Node) : Node := historyTick (pathTick (paceTick n))

/-- The machine side: axis channels, spindle, coolant (R100, 8, 9). -/
def tickMachine (n : Node) : Node := coolantTick (spindleTick (forAxes axisTick n))

/-- The end of the tick's work: stop report, mode adoption, and the timers of line and STATE (R92, R52,
R19, R53). -/
def tickEnd (n : Node) : Node := stateTick (recoveryTick (adoptionTest (stopEndTest n)))

/-- The motion tick of a node whose LOADING is over. -/
def workTick (inputs : Pins) (n : Node) : Node :=
  tickEnd (tickMachine (tickPath (tickRequests (tickHead (tickInputs (tickStart inputs n))))))

/-- A motion tick: in LOADING only the tick counts, in a full reset nothing does (R24, R26, R77). -/
def motionTick (inputs : Pins) (n : Node) : Node :=
  match n.su.start with
  | .inReset => n
  | .loading => countTick n
  | .configured => finish (workTick inputs n)
  | .limited => finish (workTick inputs n)

/-! ### A bit time with no command waiting (R1, R20) -/

/-- One bit time of the node's own clock in which no other node drives the line (DESIGN CHOICE,
assumption log 4). In JOINING a quiet count at 128 or more, also one that stood there at the entry, leads to
ACTIVE (R20; DESIGN CHOICE, assumption log 69), a change of the line state that is reported as after a command
(R53), after a line-off recovery too, where the joining ANNOUNCE has not been accepted yet (DESIGN CHOICE, assumption
log 93). -/
def bitTime (n : Node) : Node :=
  if n.su.start = .inReset then n
  else if !loaded n then phaseBit n
  else
    let m := phaseBit (lineBit n)
    if m.lc.state = .joining ∧ 128 ≤ m.lc.quiet then finish (enterActive m) else m

end Sys2Proof.Machine
end

