-- ==== Sys2Proof/Machine/Frames.lean ====
section
/-! DEFINITION. The commands that are frames accepted by the node, and the applications of kept frames:
each meaning is the acceptance of its kind by the unit that owns it. -/

namespace Sys2Proof.Machine

/-! ### Shared forms -/

/-- A command whose whole effect is a change of the node: it always answers a next state. -/
def answer (f : Node → Node) (s : State) : Host.Outcome State Fault Refusal :=
  .next { s with node := f s.node }

/-- An accepted frame: the line controller's and the node table's parts, then the unit's, which is given
the capture (R9, R10). What the first two raise, NODE_CLASH included, comes before the unit takes the frame, whatever
its kind (DESIGN CHOICE, assumption log 89); so are the tests of R50 made before an accepted HOLD counts (log 71). -/
def frame (rx : Rx) (unit : Moment → Node → Node) (s : State) : Host.Outcome State Fault Refusal :=
  answer (live (heardFrame rx fun n => unit (captureOf rx n) (accepted rx n))) s

/-- An accepted stamped frame given to `use` with the capture as a snap leaves it (R78, R95 to R98). -/
def stamped (rx : Rx) (stamp : Stamp) (use : Moment → Node → Node) (c : Moment) (n : Node) : Node :=
  let x := alignTime rx c stamp n
  use x.2 x.1

/-- A stamped frame kept or applied at once (R78, R79). -/
def keepFrame (rx : Rx) (stamp : Stamp) (p : Payload) (c : Moment) (n : Node) : Node :=
  placeFrame (keptOf rx c stamp p) c.tick n

/-! ### STOPALL (R178) -/

/-- The held flag, the owed mark and the latch at an accepted STOPALL (R49, R178). -/
def latchByStopall (n : Node) : Node :=
  setLatch { n with cu := { n.cu with held := true, owed := false, stopallSince := true } }

/-- The reactions to an accepted STOPALL (R16, R92, R124, R164, R178). The transmit queue is purged first, so that the
OVERRIDE 150 of the coolant unit's reaction (R161) stays queued, and the latch is set, with its reactions, before the
path's report removes the entries (DESIGN CHOICE, assumption log 56). -/
def acceptStopall (n : Node) : Node :=
  setDetents 0 (forAxes axisStop (pathStop (latchByStopall (purgeTx n))))

/-- STOPALL (R178). -/
def execStopall (rx : Rx) (s : State) : Host.Outcome State Fault Refusal :=
  frame rx (fun _ n => acceptStopall n) s

/-- STOP_DECELERATION_END (R92, R75). -/
def execStopDecelerationEnd (s : State) : Host.Outcome State Fault Refusal :=
  answer (live fun n => if n.pg.stopMark then stopReached n else n) s

/-- DISABLE_POINT (R124). -/
def execDisablePoint (c : Chan) (s : State) : Host.Outcome State Fault Refusal :=
  answer (live fun n =>
    if (axParams c n).isSome ∧ (getAx c n).drive = .enabled ∧ (getAx c n).stopTimer.isSome then
      driveTo c .disabled n
    else n) s

/-! ### HOLD and RESUME (R49, R50) -/

/-- An accepted HOLD: the own pending one withdrawn where another node sent it (R50). -/
def holdWithdraw (rx : Rx) (n : Node) : Node :=
  if rx.own then n else withdrawPending (fun e => isHold e.payload) n

/-- An accepted HOLD (R49, R50, R79). It is accepted before its skew acts, so the held tests that the skew
brings see it on its way, a late or early one too: neither its slip nor a frame that its snap makes due asks for another
(DESIGN CHOICE, assumption logs 67 and 96). -/
def acceptHold (rx : Rx) (stamp : Stamp) (c : Moment) (n : Node) : Node :=
  let x := alignTimeBy (beneath (keptOf rx c stamp .hold)) rx c stamp (holdWithdraw rx n)
  keepFrame rx stamp .hold x.2 x.1

/-- HOLD (R49, R50, R79). -/
def execHold (rx : Rx) (stamp : Stamp) (s : State) : Host.Outcome State Fault Refusal :=
  frame rx (acceptHold rx stamp) s

/-- HOLD_APPLY (R49). -/
def execHoldApply (s : State) : Host.Outcome State Fault Refusal := answer (live (applyFirst isHold)) s

/-- RESUME (R49, R79). -/
def execResume (rx : Rx) (stamp : Stamp) (s : State) : Host.Outcome State Fault Refusal :=
  frame rx (fun c n => stamped rx stamp (keepFrame rx stamp .resume) c n) s

/-- RESUME_APPLY (R49, R50). -/
def execResumeApply (s : State) : Host.Outcome State Fault Refusal := answer (live (applyFirst isResume)) s

/-! ### GO and READY (R66 to R70) -/

/-- An accepted GO in its case (R70). -/
def acceptGo (rx : Rx) (stamp : Stamp) (num : BlockNo) (c : Moment) (n : Node) : Node :=
  match goCase num n with
  | .ignored => n
  | .gap => raiseGap num n
  | .kept =>
    let k := keptOf rx c stamp (.go num)
    placeFrame k c.tick (onEntry num (fun e => { e with goStamp := some k.stamp }) n)

/-- The own GO withdrawn where another node sent one (R69). -/
def goWithdraw (rx : Rx) (num : BlockNo) (n : Node) : Node := if rx.own then n else withdrawGo num n

/-- GO (R69, R70). -/
def execGo (rx : Rx) (stamp : Stamp) (num : BlockNo) (s : State) : Host.Outcome State Fault Refusal :=
  frame rx (fun c n => stamped rx stamp (acceptGo rx stamp num) c (goWithdraw rx num n)) s

/-- A GO. -/
def isGo : Payload → Bool | .go _ => true | _ => false

/-- GO_APPLY (R70). -/
def execGoApply (s : State) : Host.Outcome State Fault Refusal := answer (live (applyFirst isGo)) s

/-- An accepted READY; a code outside its list discards it (R67, R68, R186). -/
def acceptReady (rx : Rx) (num : BlockNo) (verdict arg : Byte) (n : Node) : Node :=
  match verdictOf verdict arg with
  | some v => recordReady rx.sender.val num v n
  | none => n

/-- READY (R67). -/
def execReady (rx : Rx) (num : BlockNo) (verdict arg : Byte) (s : State) :
    Host.Outcome State Fault Refusal :=
  frame rx (fun _ n => acceptReady rx num verdict arg n) s

/-- HEAD_WAIT_EXPIRY (R72). -/
def execHeadWaitExpiry (s : State) : Host.Outcome State Fault Refusal :=
  answer (live fun n => if headTimerRuns n then raiseStall n else n) s

/-! ### BLOCK and FLUSH (R57 to R60, R73) -/

/-- A BLOCK at the node: turned away, or where R9 accepts it given to a used block queue (R8, R9, R57, R58). -/
def blockArrives (rx : Rx) (b : BlockBody) (n : Node) : Node :=
  if turnsAway rx b.num n then busyObjection rx n
  else takeFrame rx (fun k => let m := accepted rx k; if bqUsed m then acceptBlock b m else m) n

/-- BLOCK (R58). -/
def execBlock (rx : Rx) (b : BlockBody) (s : State) : Host.Outcome State Fault Refusal :=
  answer (live (joinedFrame rx (blockArrives rx b))) s

/-- The conditions that every accepted FLUSH clears (R46). -/
def clearFlush (n : Node) : Node :=
  clearCond .blockRefused (clearCond .peerRejoined (clearCond .sequenceGap n))

/-- The expected number a FLUSH carries, `none` for "any" (R186). -/
def flushNumber (flags : Byte) (expected : BlockNo) : Option BlockNo :=
  if flags.getLsbD 0 then none else some expected

/-- FLUSH (R73). -/
def execFlush (rx : Rx) (flags : Byte) (expected : BlockNo) (s : State) :
    Host.Outcome State Fault Refusal :=
  frame rx (fun _ n => if bqUsed n then acceptFlush (flushNumber flags expected) n else clearFlush n) s

/-! ### OVERRIDE and PACE (R88, R94) -/

/-- The resend mark cleared by the own knob OVERRIDE (R168). -/
def ownKnob (rx : Rx) (form : Byte) (n : Node) : Node := if rx.own && form == 0 then resendClear n else n

/-- An accepted OVERRIDE; a form outside its list discards it (R88, R168, R186). -/
def acceptOverride (rx : Rx) (stamp : Stamp) (form value : Byte) (c : Moment) (n : Node) : Node :=
  if form = 0 ∨ form = 1 then keepFrame rx stamp (.override form value) c (ownKnob rx form n) else n

/-- OVERRIDE (R88). -/
def execOverride (rx : Rx) (stamp : Stamp) (form value : Byte) (s : State) :
    Host.Outcome State Fault Refusal :=
  frame rx (stamped rx stamp (acceptOverride rx stamp form value)) s

/-- An OVERRIDE. -/
def isOverride : Payload → Bool | .override _ _ => true | _ => false

/-- OVERRIDE_APPLY (R88). -/
def execOverrideApply (s : State) : Host.Outcome State Fault Refusal :=
  answer (live (applyFirst isOverride)) s

/-- An accepted PACE from another node (R94). -/
def acceptPace (rx : Rx) (stamp : Stamp) (p : Payload) (c : Moment) (n : Node) : Node :=
  if rx.own then n else keepFrame rx stamp p c n

/-- PACE (R94). -/
def execPace (rx : Rx) (stamp : Stamp) (flags : Byte) (running : BlockNo) (elapsed : BitVec 16)
    (s : State) : Host.Outcome State Fault Refusal :=
  frame rx (stamped rx stamp (acceptPace rx stamp (.pace flags running elapsed))) s

/-- A PACE. -/
def isPace : Payload → Bool | .pace _ _ _ => true | _ => false

/-- PACE_APPLY (R94). -/
def execPaceApply (s : State) : Host.Outcome State Fault Refusal := answer (live (applyFirst isPace)) s

/-! ### OFFSET, JOG and REFERENCE (R100, R105, R117, R120) -/

/-- A frame with an axis number given to the used channel mapped to it (R100). -/
def toChannel (axis : Byte) (f : Chan → AxisParams → Node → Node) (n : Node) : Node :=
  match chanOf axis.toNat n with
  | some (c, p) => f c p n
  | none => n

/-- OFFSET (R105). -/
def execOffset (rx : Rx) (b : OffsetBody) (s : State) : Host.Outcome State Fault Refusal :=
  frame rx (fun _ n => toChannel b.axis (fun c _ m => acceptOffset b c m) n) s

/-- The pendant unit's part of an accepted JOG (R166). -/
def ownJog (rx : Rx) (toggle : Bool) (n : Node) : Node := if rx.own then ownJogAccepted toggle n else n

/-- An accepted JOG; a code outside its list, or the detent number −128, discards it (R120, R166, R186). -/
def acceptJogFrame (rx : Rx) (axis increment detents toggle : Byte) (n : Node) : Node :=
  match incrementOfCode increment, boolOfCode toggle with
  | some k, some t =>
    if detents.toInt = -128 then n
    else
      toChannel axis (acceptJog rx.sender t detents.toInt (detents.toInt * k)) (ownJog rx t n)
  | _, _ => n

/-- JOG (R120). -/
def execJog (rx : Rx) (axis increment detents toggle : Byte) (s : State) :
    Host.Outcome State Fault Refusal :=
  frame rx (fun _ n => acceptJogFrame rx axis increment detents toggle n) s

/-- REFERENCE (R117). -/
def execReference (rx : Rx) (axis : Byte) (s : State) : Host.Outcome State Fault Refusal :=
  frame rx (fun _ n => toChannel axis acceptReference n) s

/-! ### PANEL, STATE, ANNOUNCE and FAULT (R32, R37 to R39, R183) -/

/-- An accepted PANEL; nothing is written into the own entry by another node's frame (R34, R39, R186). -/
def acceptPanel (rx : Rx) (b : PanelBody) (n : Node) : Node :=
  match panelFields b with
  | some p => if clashing rx n then n else writePanel rx.sender.val p n
  | none => n

/-- PANEL (R39). -/
def execPanel (rx : Rx) (b : PanelBody) (s : State) : Host.Outcome State Fault Refusal :=
  frame rx (fun _ n => acceptPanel rx b n) s

/-- MODE_ADOPTION_AT_REST (R52). -/
def execModeAdoptionAtRest (s : State) : Host.Outcome State Fault Refusal :=
  answer (live adoptionTest) s

/-- SPINDLE (R135). -/
def execSpindle (rx : Rx) (form : Byte) (speed : BitVec 16) (dir value : Byte) (s : State) :
    Host.Outcome State Fault Refusal :=
  frame rx (fun _ n => acceptSpindle form speed dir value n) s

/-- COOLANT (R160). -/
def execCoolant (rx : Rx) (flood tsc air : Byte) (s : State) : Host.Outcome State Fault Refusal :=
  frame rx (fun _ n => acceptCoolant flood tsc air n) s

/-- An accepted STATE (R38, R46). -/
def acceptState (rx : Rx) (sent : Option Nat) (b : StateBody) (n : Node) : Node :=
  if clashing rx n then n
  else writeState rx.sender.val b (if rx.own then clearReported sent n else n)

/-- STATE (R38). -/
def execState (rx : Rx) (b : StateBody) (s : State) : Host.Outcome State Fault Refusal :=
  answer (live (heardFrame rx fun n => acceptState rx (sentStateAt n) b (accepted rx n))) s

/-- The answering ANNOUNCE (R32). -/
def answerAnnounce (n : Node) : Node :=
  if txHas isAnnounce n then n else ask (.announce (announceBody false n)) n

/-- What every accepted joining ANNOUNCE takes from its sender's number: the recorded verdict and the JOG
records (R63, R120). -/
def forgetJoining (i : Nat) (b : AnnounceBody) (n : Node) : Node :=
  if announceJoining b then forgetVerdict i (forgetJogs i n) else n

/-- An ANNOUNCE of another node: the table, the answer it may call for, and the pendant unit's marks (R32,
R37, R168, R169). The answer is asked for after what the written ANNOUNCE raises (DESIGN CHOICE, assumption
log 59). A joining one with the own number that the node did not send leaves that number's clamp value as it stands
(R34, R88; DESIGN CHOICE, assumption log 21). -/
def peerAnnounce (rx : Rx) (b : AnnounceBody) (n : Node) : Node :=
  let was := (entryAt rx.sender.val n).state
  let m := if fromPeer rx n then writeAnnounce rx.sender.val b n else forgetJoining rx.sender.val b n
  let k := if announceJoining b then pendantRejoin m else m
  if announceJoining b || (fromPeer rx n && was != .live) then answerAnnounce k else k

/-- The node's own joining ANNOUNCE accepted: it is no longer repeated, and the first STATE is asked for
(R31, R53). After a line-off recovery it need not be the first that is asked for (DESIGN CHOICE, assumption log 93). -/
def ownAnnounce (b : AnnounceBody) (n : Node) : Node :=
  if announceJoining b then
    let m := forgetJoining (me n) b n
    askState { m with su := { m.su with joinPending := false }
                      nt := { m.nt with stateRunning := true } }
  else n

/-- An ANNOUNCE at the node (R31, R32, R37, R41). -/
def announceArrives (rx : Rx) (b : AnnounceBody) (n : Node) : Node :=
  let m := lineAccept rx n
  if rx.own then ownAnnounce b m
  else peerAnnounce rx b (if clashing rx m then nodeClash m else m)

/-- ANNOUNCE (R37). -/
def execAnnounce (rx : Rx) (b : AnnounceBody) (s : State) : Host.Outcome State Fault Refusal :=
  answer (live (heardFrame rx (announceArrives rx b))) s

/-- FAULT (R183): the condition unit discards it; its fields are read by the program source. -/
def execFault (rx : Rx) (_ : FaultBody) (s : State) : Host.Outcome State Fault Refusal :=
  frame rx (fun _ n => n) s

/-! ### FAULTCLR and RESTART (R25, R179, R180) -/

/-- The latched conditions taken out of an entry's reported set (R179). -/
def unlatchEntry (e : NodeEntry) : NodeEntry :=
  { e with report := e.report.map fun r => { r with conds := r.conds &&& ~~~latchedMask } }

/-- Steps 2 to 4 of R179: own set, the other entries' sets, record and counts. -/
def clearLatched (n : Node) : Node :=
  { n with
    cu := { n.cu with own := n.cu.own &&& ~~~latchedMask, record := none,
                      counts := List.replicate 30 0, overflow := 0 }
    nt := { n.nt with entries := n.nt.entries.map unlatchEntry } }

/-- The test of R180: the latch clears, and each DISABLED drive begins ENABLING. -/
def stoppedTest (n : Node) : Node :=
  if n.cu.stopped && permitTerms n then
    forAxes axisEnable { n with cu := { n.cu with stopped := false, stopallSince := false } }
  else n

/-- A FAULTCLR applied (R179, R180). At step 5 the units act in the order AX0, AX1, spindle, coolant (DESIGN CHOICE,
assumption log 84). A TXQ_OVERFLOW that the FAULT of step 1 brings is raised before steps 2 to 4 (DESIGN CHOICE,
assumption log 88). A NODE_CLASH of the same frame has been raised before it (DESIGN CHOICE, assumption log 89). -/
def applyFaultclr (n : Node) : Node :=
  let m := clearLatched (askWith (.fault (faultBody n)) true n)
  stoppedTest (coolantFaultclr (spindleFaultclr (forAxes axisFaultclr m)))

/-- FAULTCLR (R179). -/
def execFaultclr (rx : Rx) (s : State) : Host.Outcome State Fault Refusal :=
  frame rx (fun _ n => applyFaultclr n) s

/-- A RESTART that takes effect: its target is this node, STOPPED is set and its serial is new (R25). -/
def restartTaken (target serial : Byte) (n : Node) : Bool :=
  target.toNat == me n && n.cu.stopped && n.su.serial != some serial

/-- An accepted RESTART (R25). The latch is tested after the acceptance, a NODE_CLASH of the same frame included
(DESIGN CHOICE, assumption log 60). -/
def restartArrives (rx : Rx) (target serial : Byte) (n : Node) : Node :=
  if !loaded n then n
  else if joins rx.lead.val n && slotClear rx n && restartTaken target serial (accepted rx n) then
    restartReset serial (accepted rx n)
  else finish (heardFrame rx (accepted rx) n)

/-- RESTART (R25). -/
def execRestart (rx : Rx) (target serial : Byte) (s : State) : Host.Outcome State Fault Refusal :=
  answer (restartArrives rx target serial) s

/-- SILENCE_TIMEOUT (R35). -/
def execSilenceTimeout (peer : NodeNo) (s : State) : Host.Outcome State Fault Refusal :=
  answer (live fun n =>
    if peer ≠ n.su.node ∧ (entryAt peer.val n).state = .live then entryLost peer.val n else n) s

end Sys2Proof.Machine
end

