-- ==== Sys2Proof/Machine/LineEvents.lean ====
section
/-! DEFINITION. The commands of supply, reset, loading and tick, and the events of the line controller
that are not accepted frames. -/

namespace Sys2Proof.Machine

/-! ### Supply, reset and loading (R23 to R29) -/

/-- POWER_ON (R24). -/
def execPowerOn (s : State) : Host.Outcome State Fault Refusal := answer (hardReset true true) s

/-- RESET_PIN (R24). -/
def execResetPin (s : State) : Host.Outcome State Fault Refusal :=
  answer (fun n => hardReset n.su.supplyOk n.su.supplyRose n) s

/-- RESET_RELEASE (R23, R24): it ends a full reset whose supply is up. -/
def execResetRelease (nodeStraps : BitVec 4) (rateStrap : Bool) (s : State) :
    Host.Outcome State Fault Refusal :=
  answer (fun n =>
    if n.su.start = .inReset ∧ n.su.supplyOk = true then released nodeStraps rateStrap n else n) s

/-- IMAGE_READ_DONE: `bytes` are the memory's contents, of which the reading takes what the memory answers to
the loader's command (R26 to R30, R187). -/
def execImageReadDone (bytes : List Byte) (inputs : Pins) (s : State) :
    Host.Outcome State Fault Refusal :=
  answer (fun n =>
    if n.su.start = .loading then
      let m := readingDone (memoryAnswers (loaderSends n) bytes) inputs n
      if loaded m then finish m else m
    else n) s

/-- SUPPLY_BELOW_THRESHOLD (R24). -/
def execSupplyBelowThreshold (s : State) : Host.Outcome State Fault Refusal :=
  answer (fun n => hardReset false n.su.supplyRose n) s

/-! ### The tick (R77) and events at ticks (R53, R71, R86) -/

/-- MOTION_TICK (R77). -/
def execMotionTick (inputs : Pins) (s : State) : Host.Outcome State Fault Refusal :=
  answer (motionTick inputs) s

/-- The start of the first COMMITTED entry, with what the coolant unit does at a start tick (R71, R158). -/
def blockStarts (n : Node) : Node :=
  match startable n with
  | some (e, f, _) => compareAll (clActHead (startEntry e f n))
  | none => n

/-- BLOCK_START (R71). -/
def execBlockStart (s : State) : Host.Outcome State Fault Refusal := answer (live blockStarts) s

/-- A dwell block's final tick (R86). -/
def dwellEnds (n : Node) : Node :=
  match n.pg.run with
  | some r =>
    if r.len = 0 then
      { n with pg := { n.pg with run := some { r with dwell := 0, v := 0, p := 0, final := true, carry := 0 } } }
    else n
  | none => n

/-- DWELL_END (R86). -/
def execDwellEnd (s : State) : Host.Outcome State Fault Refusal := answer (live dwellEnds) s

/-- STATE_PERIOD (R53). -/
def execStatePeriod (s : State) : Host.Outcome State Fault Refusal :=
  answer (live fun n => if n.nt.stateRunning then askState n else n) s

/-! ### Attempts and their outcomes (R4 to R11) -/

/-- ATTEMPT_START (R4, R10). -/
def execAttemptStart (phase : Phase) (s : State) : Host.Outcome State Fault Refusal :=
  answer (live fun n =>
    if readyToSend n.lc then
      beginAttempt { n with pg := { n.pg with phase := phaseIn n.pg.tickLen phase.val } }
    else n) s

/-- CONTENTION_LOSS (R6). -/
def execContentionLoss (s : State) : Host.Outcome State Fault Refusal :=
  answer (live fun n => if sending n.lc then contentionLost n else n) s

/-- BIT_ERROR (R6, R7, R21): once in an attempt. -/
def execBitError (s : State) (released : Fin 11 := 0) : Host.Outcome State Fault Refusal :=
  answer (live fun n =>
    if sending n.lc && !n.lc.bitError then bitErrorFound released.val n else n) s

/-- SYNC_ERROR (R2, R7, R17). -/
def execSyncError (s : State) (trail : Trail := .driven) : Host.Outcome State Fault Refusal :=
  answer (live (brokenOff trail (partwayError .sync))) s

/-- FORM_ERROR (R3, R7, R8, R17). -/
def execFormError (place : FormPlace) (s : State) (trail : Trail := .driven) :
    Host.Outcome State Fault Refusal :=
  answer (live (brokenOff trail
    (match place with
     | .lengthField => partwayError .form
     | .endOfCheck => checkTimeError .form))) s

/-- CHECK_ERROR (R2, R8, R17). -/
def execCheckError (s : State) (trail : Trail := .driven) : Host.Outcome State Fault Refusal :=
  answer (live (brokenOff trail (checkTimeError .check))) s

/-- REFUSED_BUSY (R11). -/
def execRefusedBusy (s : State) : Host.Outcome State Fault Refusal :=
  answer (live fun n => if sending n.lc then refusedBusy n else n) s

/-- FAILURE (R11, R17). -/
def execFailure (s : State) : Host.Outcome State Fault Refusal :=
  answer (live fun n => if sending n.lc then attemptFailed n else n) s

/-- RECOVERY_TIMER_EXPIRY (R19). -/
def execRecoveryTimerExpiry (s : State) : Host.Outcome State Fault Refusal :=
  answer (live fun n => if n.lc.state = .off then recoveryOver n else n) s

/-- QUIET_COUNT_JOIN (R20, R31). -/
def execQuietCountJoin (s : State) : Host.Outcome State Fault Refusal :=
  answer (live fun n =>
    if n.lc.state = .joining then
      enterActive { n with lc := { n.lc with quiet := max n.lc.quiet 128, joined := true } }
    else n) s

/-- FRAME_NOT_ACCEPTED (R9, R10). -/
def execFrameNotAccepted (s : State) (trail : Trail := .driven) : Host.Outcome State Fault Refusal :=
  answer (live (brokenOff trail leaveFrame)) s

/-! ### Stop chain (R176) -/

/-- STOP_CHAIN_OPEN (R176). -/
def execStopChainOpen (s : State) : Host.Outcome State Fault Refusal :=
  answer (live fun n =>
    let m := { n with pins := { n.pins with chainOpen := true } }
    if n.cu.chainOpen then m else chainOpens m) s

/-- STOP_CHAIN_CLOSED (R176). -/
def execStopChainClosed (s : State) : Host.Outcome State Fault Refusal :=
  answer (live fun n =>
    let m := { n with pins := { n.pins with chainOpen := false } }
    if n.cu.chainOpen then chainCloses m else m) s

end Sys2Proof.Machine
end

