-- ==== Sys2Proof/Machine/AxisEvents.lean ====
section
/-! DEFINITION. The events of the axis channels (chapter 7). A row is its event: the counter, timer or
input it names is taken to have reached the point the row names, and the channel reacts as it does at a
motion tick; in a state in which the rule gives the event no effect nothing changes (assumption log 12). -/

namespace Sys2Proof.Machine

/-- An event of a used channel (R100). -/
def axEvent (c : Chan) (f : AxisParams → Node → Node) (s : State) : Host.Outcome State Fault Refusal :=
  answer (live fun n => match axParams c n with | some p => f p n | none => n) s

/-- The node with a channel's sampled inputs changed. -/
def onAxPins (c : Chan) (f : AxisPins → AxisPins) (n : Node) : Node :=
  { n with pins := setAxPins c (f (axPins c n.pins)) n.pins }

/-! ### The mover (R116, R118, R119, R122) -/

/-- The mover stands at its target with velocity 0, and the commanded position follows it (R116). -/
def arriveMover (p : AxisParams) (a : Axis) : Axis :=
  moverCommand p { a with moverPos := a.moverTarget * q16, moverVel := 0 }

/-- What the arrival of the mover brings (R116, R118, R122). -/
def moverArrives (c : Chan) (p : AxisParams) (n : Node) : Node :=
  let a := getAx c n
  if a.moverStop || !moverFree p a then n
  else
    match a.motion with
    | .jog => onAx c (fun x => jogDone (chainAtRest n) (jogFollow (arriveMover p x))) n
    | .reference => phaseArrived c p (onAx c (arriveMover p) n)
    | .idle => n
    | .chain => n

/-- MOVER_ARRIVE (R116). -/
def execMoverArrive (c : Chan) (s : State) : Host.Outcome State Fault Refusal := axEvent c (moverArrives c) s

/-- A mover under its stop mark stands still (R116). -/
def stillMover (a : Axis) : Axis := { a with moverVel := 0 }

/-- What the rest of a stopped mover brings (R118, R119, R122). The row's end test of R119 reads the actual position
of the last tick work (DESIGN CHOICE, assumption log 77). -/
def moverRests (c : Chan) (p : AxisParams) (n : Node) : Node :=
  let a := getAx c n
  if !a.moverStop then n
  else
    match a.motion with
    | .jog => onAx c (fun x => jogDone (chainAtRest n) (jogFollow (stillMover x))) n
    | .reference => phaseStopped c p (onAx c stillMover n)
    | .idle => n
    | .chain => n

/-- MOVER_AT_REST (R119, R122). -/
def execMoverAtRest (c : Chan) (s : State) : Host.Outcome State Fault Refusal := axEvent c (moverRests c) s

/-! ### Following and saturation runs (R109, R110) -/

/-- The following run reaches 4 (R110). -/
def followLimitReached (c : Chan) (n : Node) : Node :=
  let a := getAx c n
  if a.drive = .enabled ∧ a.followRun < 4 then
    raiseStop .followError (chanNumber c) (onAx c (fun x => { x with followRun := 4 }) n)
  else n

/-- FOLLOWING_RUN_LIMIT (R110). -/
def execFollowingRunLimit (c : Chan) (s : State) : Host.Outcome State Fault Refusal :=
  axEvent c (fun _ => followLimitReached c) s

/-- The saturation run reaches 50 (R109). -/
def saturationLimitReached (c : Chan) (n : Node) : Node :=
  let a := getAx c n
  if a.drive = .enabled ∧ a.satRun < 50 then
    raiseHold .driveSaturated (chanNumber c) (onAx c (fun x => { x with satRun := 50 }) n)
  else n

/-- SATURATION_RUN_LIMIT (R109). -/
def execSaturationRunLimit (c : Chan) (s : State) : Host.Outcome State Fault Refusal :=
  axEvent c (fun _ => saturationLimitReached c) s

/-! ### Drive (R111) -/

/-- The fault input becomes active (R111). -/
def driveFaultActive (c : Chan) (n : Node) : Node :=
  let m := onAxPins c (fun x => { x with fault := true }) n
  if (getAx c m).drive = .faulted then m else driveFault c m

/-- DRIVE_FAULT_INPUT (R111). -/
def execDriveFaultInput (c : Chan) (s : State) : Host.Outcome State Fault Refusal :=
  axEvent c (fun _ => driveFaultActive c) s

/-- The ready input comes on (R111). -/
def driveBecomesReady (c : Chan) (n : Node) : Node :=
  let m := onAxPins c (fun x => { x with ready := true }) n
  if (getAx c m).drive = .enabling then driveTo c .enabled m else m

/-- DRIVE_READY_ON (R111). -/
def execDriveReadyOn (c : Chan) (s : State) : Host.Outcome State Fault Refusal :=
  axEvent c (fun _ => driveBecomesReady c) s

/-- The ready input goes off (R111). -/
def driveLosesReady (c : Chan) (n : Node) : Node :=
  let m := onAxPins c (fun x => { x with ready := false }) n
  if (getAx c m).drive = .enabled then driveFault c m else m

/-- DRIVE_READY_OFF (R111). -/
def execDriveReadyOff (c : Chan) (s : State) : Host.Outcome State Fault Refusal :=
  axEvent c (fun _ => driveLosesReady c) s

/-- DRIVE_TIMER_EXPIRY (R111). -/
def execDriveTimerExpiry (c : Chan) (s : State) : Host.Outcome State Fault Refusal :=
  axEvent c (fun _ n => if (getAx c n).drive = .enabling then driveFault c n else n) s

/-! ### Limits (R113) -/

/-- The inputs of a channel with a limit input replaced. -/
def setLimitPin (side : Side) (b : Bool) (p : AxisPins) : AxisPins :=
  match side with
  | .plus => { p with limPlus := b }
  | .minus => { p with limMinus := b }

/-- LIMIT_ACTIVE (R113). -/
def execLimitActive (c : Chan) (side : Side) (s : State) : Host.Outcome State Fault Refusal :=
  axEvent c (fun _ n => limitTest c side (onAxPins c (setLimitPin side true) n)) s

/-- LIMIT_INACTIVE (R113). -/
def execLimitInactive (c : Chan) (side : Side) (s : State) : Host.Outcome State Fault Refusal :=
  axEvent c (fun _ n => limitTest c side (onAxPins c (setLimitPin side false) n)) s

/-! ### Clamp (R115) -/

/-- A change of a fitted clamp that stands in a state. -/
def clampEvent (c : Chan) (from' : ClampState) (f : Node → Node) (s : State) :
    Host.Outcome State Fault Refusal :=
  axEvent c (fun p n => if p.clampFitted = true ∧ (getAx c n).clamp = from' then f n else n) s

/-- The sensors show a position of the clamp. -/
def clampPins (clamped : Bool) (p : AxisPins) : AxisPins := { p with clamped := clamped, unclamped := !clamped }

/-- UNCLAMP_CONFIRMED (R115). -/
def execUnclampConfirmed (c : Chan) (s : State) : Host.Outcome State Fault Refusal :=
  clampEvent c .unclamping (fun n => onAx c (clampTo .unclamped) (onAxPins c (clampPins false) n)) s

/-- CLAMP_CONFIRMED (R115). -/
def execClampConfirmed (c : Chan) (s : State) : Host.Outcome State Fault Refusal :=
  clampEvent c .clamping (fun n => onAx c (clampTo .clamped) (onAxPins c (clampPins true) n)) s

/-- UNCLAMP_TIMEOUT (R115, R122). -/
def execUnclampTimeout (c : Chan) (s : State) : Host.Outcome State Fault Refusal :=
  clampEvent c .unclamping (unclampTimedOut c) s

/-- CLAMP_TIMEOUT (R115). -/
def execClampTimeout (c : Chan) (s : State) : Host.Outcome State Fault Refusal :=
  clampEvent c .clamping (onAx c (clampTo .clamped)) s

/-! ### Reference switch, mark and encoder (R101, R118) -/

/-- REFERENCE_SWITCH_ACTIVE (R118). -/
def execReferenceSwitchActive (c : Chan) (s : State) : Host.Outcome State Fault Refusal :=
  axEvent c (fun _ n => onAx c switchActive (onAxPins c (fun x => { x with refSwitch := true }) n)) s

/-- MARK_EDGE (R118). -/
def execMarkEdge (c : Chan) (s : State) : Host.Outcome State Fault Refusal :=
  axEvent c (fun p n => onAx c (markEdge p) n) s

/-- The encoder count moved by one edge (R101). -/
def countEdge (up : Bool) (a : Axis) : Axis :=
  { a with count := wrap48 (if up then a.count + 1 else a.count - 1) }

/-- ENCODER_EDGE (R101). -/
def execEncoderEdge (c : Chan) (up : Bool) (s : State) : Host.Outcome State Fault Refusal :=
  axEvent c (fun _ n => onAx c (countEdge up) n) s

end Sys2Proof.Machine
end

