-- ==== Sys2Proof/Machine/CoolantEvents.lean ====
section
/-! DEFINITION. The events of the coolant unit (chapter 9), read as the axis events are (assumption
log 12). -/

namespace Sys2Proof.Machine

/-- An event of the unit at a node that has it (R162). -/
def clEvent (f : CoolantParams → Node → Node) (s : State) : Host.Outcome State Fault Refusal :=
  answer (live fun n => match n.par.coolant with | some p => f p n | none => n) s

/-- CL_ACT (R157). -/
def execClAct (s : State) : Host.Outcome State Fault Refusal := answer (live clActHead) s

/-- The debounced flow switch comes on: FLOOD in STARTING is proven (R150). -/
def flowOn (_ : CoolantParams) (n : Node) : Node :=
  let m := { n with pins := { n.pins with flow := true }
                    cl := { n.cl with flow := { level := true, run := 0 } } }
  if m.cl.flood = .starting then floodProven m else m

/-- FLOW_SWITCH_ON (R150). -/
def execFlowSwitchOn (s : State) : Host.Outcome State Fault Refusal := clEvent flowOn s

/-- The debounced flow switch falls: FLOOD in PROVEN fails, in STOPPING it is off (R150). -/
def flowOff (_ : CoolantParams) (n : Node) : Node :=
  let m := { n with pins := { n.pins with flow := false }
                    cl := { n.cl with flow := { level := false, run := 0 } } }
  match m.cl.flood with
  | .proven => floodFault m
  | .stopping => floodOff m
  | _ => m

/-- FLOW_SWITCH_OFF (R150). -/
def execFlowSwitchOff (s : State) : Host.Outcome State Fault Refusal := clEvent flowOff s

/-- The FLOOD timer expires (R150). -/
def floodTimerOut (_ : CoolantParams) (n : Node) : Node :=
  match n.cl.flood with
  | .starting => floodFault n
  | .stopping => floodOff n
  | _ => n

/-- FLOOD_TIMER_EXPIRY (R150). -/
def execFloodTimerExpiry (s : State) : Host.Outcome State Fault Refusal := clEvent floodTimerOut s

/-- The debounced tank low switch takes a level (R149). -/
def tankTakes (low : Bool) (_ : CoolantParams) (n : Node) : Node :=
  tankTo { level := low, run := 0 } { n with pins := { n.pins with tankLow := low } }

/-- TANK_LOW_ACTIVE (R149). -/
def execTankLowActive (s : State) : Host.Outcome State Fault Refusal := clEvent (tankTakes true) s

/-- TANK_LOW_INACTIVE (R149). -/
def execTankLowInactive (s : State) : Host.Outcome State Fault Refusal := clEvent (tankTakes false) s

/-- TSC_START_TIMEOUT (R154). -/
def execTscStartTimeout (s : State) : Host.Outcome State Fault Refusal :=
  clEvent (fun _ n => if n.cl.tsc = .starting then tscFault n else n) s

/-- TSC_DEGRADED (R154, R155). -/
def execTscDegraded (s : State) : Host.Outcome State Fault Refusal :=
  clEvent (fun p n =>
    if n.cl.tsc = .proven then tscDegrade p { n with cl := { n.cl with lowRun := 200 } } else n) s

/-- The bleed timer expires: in STOPPING TSC is OFF, in FAULT the bleed closes (R154). -/
def bleedOut (_ : CoolantParams) (n : Node) : Node :=
  match n.cl.tsc with
  | .stopping => tscOff n
  | .fault => { n with cl := { n.cl with bleed := 0 } }
  | _ => n

/-- BLEED_TIMER_EXPIRY (R154). -/
def execBleedTimerExpiry (s : State) : Host.Outcome State Fault Refusal := clEvent bleedOut s

/-- The loss run of a required, proven TSC reaches 500 (R159). -/
def lossRunReached (_ : CoolantParams) (n : Node) : Node :=
  if required .tsc n && circProven .tsc n.cl && n.cl.lossRun < 500 then
    clLoss { n with cl := { n.cl with lossRun := 500 } }
  else n

/-- LOSS_RUN_LIMIT (R159). -/
def execLossRunLimit (s : State) : Host.Outcome State Fault Refusal := clEvent lossRunReached s

end Sys2Proof.Machine
end

