-- ==== Sys2Proof/Machine/PendantEvents.lean ====
section
/-! DEFINITION. The events of the pendant unit (chapter 10), read as the axis events are (assumption
log 12). A button row is the press: the debounced reading goes from up to down. -/

namespace Sys2Proof.Machine

/-- An event of the unit at a node that has it (R175). -/
def pdEvent (f : Node → Node) (s : State) : Host.Outcome State Fault Refusal :=
  answer (live fun n => if n.par.pendant.isSome then f n else n) s

/-- HANDWHEEL_EDGE (R164). -/
def execHandwheelEdge (up : Bool) (s : State) : Host.Outcome State Fault Refusal := pdEvent (wheelEdge up) s

/-- The enabling switch leaves middle: its reading follows at once (R163, R164). -/
def switchLeaves (e : EnablePos) (n : Node) : Node :=
  if n.pd.enable.val = .middle then wheelGate { n with pd := { n.pd with enable := readNow e } } else n

/-- ENABLING_SWITCH_RELEASE (R163). -/
def execEnablingSwitchRelease (pressedThrough : Bool) (s : State) : Host.Outcome State Fault Refusal :=
  pdEvent (switchLeaves (if pressedThrough then .pressedThrough else .released)) s

/-- CONTROL_DEBOUNCE (R163). -/
def execControlDebounce (r : ControlReading) (s : State) : Host.Outcome State Fault Refusal :=
  pdEvent (controlTo r) s

/-- CYCLE_START (R171). -/
def execCycleStart (s : State) : Host.Outcome State Fault Refusal := pdEvent (buttonTo .cycleStart true) s

/-- FEED_HOLD: the press, and the request that stands while the button is down (R171). -/
def execFeedHold (s : State) : Host.Outcome State Fault Refusal :=
  pdEvent (fun n => feedHoldTick (buttonTo .feedHold true n)) s

/-- RESET_BUTTON (R172). -/
def execResetButton (s : State) : Host.Outcome State Fault Refusal := pdEvent (buttonTo .reset true) s

/-- REF_BUTTON (R172). -/
def execRefButton (s : State) : Host.Outcome State Fault Refusal := pdEvent (buttonTo .ref true) s

/-- SPINDLE_START (R173). -/
def execSpindleStart (s : State) : Host.Outcome State Fault Refusal := pdEvent (buttonTo .spindleStart true) s

/-- SPINDLE_STOP (R173). -/
def execSpindleStop (s : State) : Host.Outcome State Fault Refusal := pdEvent (buttonTo .spindleStop true) s

/-- COOLANT_BUTTON (R174). -/
def execCoolantButton (s : State) : Host.Outcome State Fault Refusal := pdEvent (buttonTo .coolant true) s

end Sys2Proof.Machine
end

