-- ==== Sys2Proof/Machine/SpindleEvents.lean ====
section
/-! DEFINITION. The events of the spindle and gearbox unit (chapter 8), read as the axis events are
(assumption log 12). -/

namespace Sys2Proof.Machine

/-- An event of the unit at a node that has it (R147). -/
def sgEvent (f : SpindleParams → Node → Node) (s : State) : Host.Outcome State Fault Refusal :=
  answer (live (sgFrame f)) s

/-- The rest run reaches 100 (R127, R132, R140). -/
def restRunReached (p : SpindleParams) (n : Node) : Node :=
  if n.sg.ramped = 0 ∧ n.sg.restRun < 100 then
    atRestTest p { n with sg := { n.sg with restRun := 100 } }
  else n

/-- SPINDLE_AT_REST (R127). -/
def execSpindleAtRest (s : State) : Host.Outcome State Fault Refusal := sgEvent restRunReached s

/-- Whether the gearbox is ENGAGED with a speed command above 0. -/
def commandStands (sg : SG) : Bool :=
  match sg.gear with
  | .engaged _ => 0 < sg.command
  | _ => false

/-- The at-speed run reaches 100 (R133). -/
def atSpeedReached (_ : SpindleParams) (n : Node) : Node :=
  if commandStands n.sg then { n with sg := { n.sg with atRun := 100, atSpeed := true } } else n

/-- AT_SPEED (R133). -/
def execAtSpeed (s : State) : Host.Outcome State Fault Refusal := sgEvent atSpeedReached s

/-- The fault run reaches 100 (R134). -/
def faultRunReached (_ : SpindleParams) (n : Node) : Node :=
  if n.pg.run.isSome && commandStands n.sg && n.sg.ramped == aimOf n.sg && n.sg.faultRun < 100 then
    spindleFault { n with sg := { n.sg with faultRun := 100 } }
  else n

/-- SPINDLE_FAULT_RUN (R134). -/
def execSpindleFaultRun (s : State) : Host.Outcome State Fault Refusal := sgEvent faultRunReached s

/-- The stop timer expires (R145). -/
def stopTimerExpires (_ : SpindleParams) (n : Node) : Node :=
  if n.sg.stopTimer.isSome then { n with sg := stopTimerOut n.sg } else n

/-- SPINDLE_STOP_TIMER_EXPIRY (R145). -/
def execSpindleStopTimerExpiry (s : State) : Host.Outcome State Fault Refusal := sgEvent stopTimerExpires s

/-- SG_ACT (R137). -/
def execSgAct (s : State) : Host.Outcome State Fault Refusal := answer (live sgActHead) s

/-- The debounced level of a sensor (R138). -/
def sensorLevel (sh : Shifter) (pos : ForkPos) (sg : SG) : Level :=
  match sh, pos with
  | .a, .p1 => sg.a1
  | .a, .p2 => sg.a2
  | .b, .p1 => sg.b1
  | .b, .p2 => sg.b2

/-- The debounced level of a sensor replaced. -/
def setSensor (sh : Shifter) (pos : ForkPos) (l : Level) (sg : SG) : SG :=
  match sh, pos with
  | .a, .p1 => { sg with a1 := l }
  | .a, .p2 => { sg with a2 := l }
  | .b, .p1 => { sg with b1 := l }
  | .b, .p2 => { sg with b2 := l }

/-- The raw level of a sensor replaced. -/
def setSensorPin (sh : Shifter) (pos : ForkPos) (b : Bool) (p : ShifterPins) : ShifterPins :=
  match sh, pos with
  | .a, .p1 => { p with a1 := b }
  | .a, .p2 => { p with a2 := b }
  | .b, .p1 => { p with b1 := b }
  | .b, .p2 => { p with b2 := b }

/-- A sensor's debounced level takes its raw level (R138), with the conflict test and the tests of the
gearbox state (R139, R141, R143). -/
def sensorTakes (sh : Shifter) (pos : ForkPos) (level : Bool) (p : SpindleParams) (n : Node) : Node :=
  let m := { n with pins := { n.pins with shifter := setSensorPin sh pos level n.pins.shifter } }
  if (sensorLevel sh pos n.sg).level = level then m
  else
    gearTest p (conflictTest sh n.sg
      { m with sg := setSensor sh pos { level := level, run := 0 } m.sg })

/-- SHIFTER_SENSOR_CHANGE (R138). -/
def execShifterSensorChange (sh : Shifter) (pos : ForkPos) (level : Bool) (s : State) :
    Host.Outcome State Fault Refusal :=
  sgEvent (sensorTakes sh pos level) s

/-- The shift timer reaches 0 in a step (R141, R143). -/
def shiftExpires (_ : SpindleParams) (n : Node) : Node :=
  match n.sg.gear with
  | .shiftingA => shiftTimerOut n
  | .shiftingB => shiftTimerOut n
  | _ => n

/-- SHIFT_TIMEOUT (R143). -/
def execShiftTimeout (s : State) : Host.Outcome State Fault Refusal := sgEvent shiftExpires s

/-- The neutral return's timer reaches 0 (R143). -/
def neutralExpires (_ : SpindleParams) (n : Node) : Node :=
  match n.sg.gear with
  | .toNeutral => shiftTimerOut n
  | _ => n

/-- NEUTRAL_TIMEOUT (R143). -/
def execNeutralTimeout (s : State) : Host.Outcome State Fault Refusal := sgEvent neutralExpires s

/-- The nudge timer reaches 0: the sign reverses and the timer is set to 200 (R142). -/
def nudgeReverses (_ : SpindleParams) (n : Node) : Node :=
  if n.sg.nudging then
    { n with sg := { n.sg with nudgeTimer := 200, nudgeMinus := !n.sg.nudgeMinus } }
  else n

/-- NUDGE_REVERSE (R142). -/
def execNudgeReverse (s : State) : Host.Outcome State Fault Refusal := sgEvent nudgeReverses s

end Sys2Proof.Machine
end

