-- ==== Sys2Proof/Machine/Dispatch.lean ====
section
/-! DEFINITION. The dispatch: one arm per command, each a direct call of the command's meaning. -/

namespace Sys2Proof.Machine

def exec (i : Instr) (s : State) : Host.Outcome State Fault Refusal :=
  match i with
  | .powerOn => Sys2Proof.Machine.execPowerOn s
  | .resetPin => Sys2Proof.Machine.execResetPin s
  | .resetRelease nodeStraps rateStrap => Sys2Proof.Machine.execResetRelease nodeStraps rateStrap s
  | .imageReadDone bytes inputs => Sys2Proof.Machine.execImageReadDone bytes inputs s
  | .motionTick inputs => Sys2Proof.Machine.execMotionTick inputs s
  | .blockStart => Sys2Proof.Machine.execBlockStart s
  | .dwellEnd => Sys2Proof.Machine.execDwellEnd s
  | .statePeriod => Sys2Proof.Machine.execStatePeriod s
  | .attemptStart phase => Sys2Proof.Machine.execAttemptStart phase s
  | .contentionLoss => Sys2Proof.Machine.execContentionLoss s
  | .bitError released => Sys2Proof.Machine.execBitError s released
  | .syncError trail => Sys2Proof.Machine.execSyncError s trail
  | .formError place trail => Sys2Proof.Machine.execFormError place s trail
  | .checkError trail => Sys2Proof.Machine.execCheckError s trail
  | .refusedBusy => Sys2Proof.Machine.execRefusedBusy s
  | .failure => Sys2Proof.Machine.execFailure s
  | .recoveryTimerExpiry => Sys2Proof.Machine.execRecoveryTimerExpiry s
  | .quietCountJoin => Sys2Proof.Machine.execQuietCountJoin s
  | .stopall rx => Sys2Proof.Machine.execStopall rx s
  | .stopDecelerationEnd => Sys2Proof.Machine.execStopDecelerationEnd s
  | .disablePoint c => Sys2Proof.Machine.execDisablePoint c s
  | .hold rx stamp => Sys2Proof.Machine.execHold rx stamp s
  | .holdApply => Sys2Proof.Machine.execHoldApply s
  | .resume rx stamp => Sys2Proof.Machine.execResume rx stamp s
  | .resumeApply => Sys2Proof.Machine.execResumeApply s
  | .go rx stamp num => Sys2Proof.Machine.execGo rx stamp num s
  | .goApply => Sys2Proof.Machine.execGoApply s
  | .ready rx num verdict arg => Sys2Proof.Machine.execReady rx num verdict arg s
  | .headWaitExpiry => Sys2Proof.Machine.execHeadWaitExpiry s
  | .block rx b => Sys2Proof.Machine.execBlock rx b s
  | .flush rx flags expected => Sys2Proof.Machine.execFlush rx flags expected s
  | .override rx stamp form value => Sys2Proof.Machine.execOverride rx stamp form value s
  | .overrideApply => Sys2Proof.Machine.execOverrideApply s
  | .pace rx stamp flags running elapsed => Sys2Proof.Machine.execPace rx stamp flags running elapsed s
  | .paceApply => Sys2Proof.Machine.execPaceApply s
  | .offset rx b => Sys2Proof.Machine.execOffset rx b s
  | .jog rx axis increment detents toggle => Sys2Proof.Machine.execJog rx axis increment detents toggle s
  | .panel rx b => Sys2Proof.Machine.execPanel rx b s
  | .modeAdoptionAtRest => Sys2Proof.Machine.execModeAdoptionAtRest s
  | .spindle rx form speed dir value => Sys2Proof.Machine.execSpindle rx form speed dir value s
  | .coolant rx flood tsc air => Sys2Proof.Machine.execCoolant rx flood tsc air s
  | .reference rx axis => Sys2Proof.Machine.execReference rx axis s
  | .faultclr rx => Sys2Proof.Machine.execFaultclr rx s
  | .restart rx target serial => Sys2Proof.Machine.execRestart rx target serial s
  | .announce rx b => Sys2Proof.Machine.execAnnounce rx b s
  | .state rx b => Sys2Proof.Machine.execState rx b s
  | .fault rx b => Sys2Proof.Machine.execFault rx b s
  | .silenceTimeout peer => Sys2Proof.Machine.execSilenceTimeout peer s
  | .moverArrive c => Sys2Proof.Machine.execMoverArrive c s
  | .moverAtRest c => Sys2Proof.Machine.execMoverAtRest c s
  | .followingRunLimit c => Sys2Proof.Machine.execFollowingRunLimit c s
  | .saturationRunLimit c => Sys2Proof.Machine.execSaturationRunLimit c s
  | .driveFaultInput c => Sys2Proof.Machine.execDriveFaultInput c s
  | .driveReadyOn c => Sys2Proof.Machine.execDriveReadyOn c s
  | .driveReadyOff c => Sys2Proof.Machine.execDriveReadyOff c s
  | .driveTimerExpiry c => Sys2Proof.Machine.execDriveTimerExpiry c s
  | .limitActive c side => Sys2Proof.Machine.execLimitActive c side s
  | .limitInactive c side => Sys2Proof.Machine.execLimitInactive c side s
  | .unclampConfirmed c => Sys2Proof.Machine.execUnclampConfirmed c s
  | .clampConfirmed c => Sys2Proof.Machine.execClampConfirmed c s
  | .unclampTimeout c => Sys2Proof.Machine.execUnclampTimeout c s
  | .clampTimeout c => Sys2Proof.Machine.execClampTimeout c s
  | .referenceSwitchActive c => Sys2Proof.Machine.execReferenceSwitchActive c s
  | .markEdge c => Sys2Proof.Machine.execMarkEdge c s
  | .encoderEdge c up => Sys2Proof.Machine.execEncoderEdge c up s
  | .spindleAtRest => Sys2Proof.Machine.execSpindleAtRest s
  | .atSpeed => Sys2Proof.Machine.execAtSpeed s
  | .spindleFaultRun => Sys2Proof.Machine.execSpindleFaultRun s
  | .spindleStopTimerExpiry => Sys2Proof.Machine.execSpindleStopTimerExpiry s
  | .sgAct => Sys2Proof.Machine.execSgAct s
  | .shifterSensorChange sh pos level => Sys2Proof.Machine.execShifterSensorChange sh pos level s
  | .shiftTimeout => Sys2Proof.Machine.execShiftTimeout s
  | .neutralTimeout => Sys2Proof.Machine.execNeutralTimeout s
  | .nudgeReverse => Sys2Proof.Machine.execNudgeReverse s
  | .clAct => Sys2Proof.Machine.execClAct s
  | .flowSwitchOn => Sys2Proof.Machine.execFlowSwitchOn s
  | .flowSwitchOff => Sys2Proof.Machine.execFlowSwitchOff s
  | .floodTimerExpiry => Sys2Proof.Machine.execFloodTimerExpiry s
  | .tankLowActive => Sys2Proof.Machine.execTankLowActive s
  | .tankLowInactive => Sys2Proof.Machine.execTankLowInactive s
  | .tscStartTimeout => Sys2Proof.Machine.execTscStartTimeout s
  | .tscDegraded => Sys2Proof.Machine.execTscDegraded s
  | .bleedTimerExpiry => Sys2Proof.Machine.execBleedTimerExpiry s
  | .lossRunLimit => Sys2Proof.Machine.execLossRunLimit s
  | .stopChainOpen => Sys2Proof.Machine.execStopChainOpen s
  | .stopChainClosed => Sys2Proof.Machine.execStopChainClosed s
  | .handwheelEdge up => Sys2Proof.Machine.execHandwheelEdge up s
  | .enablingSwitchRelease pressedThrough => Sys2Proof.Machine.execEnablingSwitchRelease pressedThrough s
  | .controlDebounce r => Sys2Proof.Machine.execControlDebounce r s
  | .cycleStart => Sys2Proof.Machine.execCycleStart s
  | .feedHold => Sys2Proof.Machine.execFeedHold s
  | .resetButton => Sys2Proof.Machine.execResetButton s
  | .refButton => Sys2Proof.Machine.execRefButton s
  | .spindleStart => Sys2Proof.Machine.execSpindleStart s
  | .spindleStop => Sys2Proof.Machine.execSpindleStop s
  | .coolantButton => Sys2Proof.Machine.execCoolantButton s
  | .supplyBelowThreshold => Sys2Proof.Machine.execSupplyBelowThreshold s
  | .frameNotAccepted trail => Sys2Proof.Machine.execFrameNotAccepted s trail

end Sys2Proof.Machine
end

