-- ==== Sys2Proof/WellFormed.lean ====
section
/-! DEFINITION. Well-formed commands: what the operands of a command satisfy where it comes from a frame
that passed the checks of R3 or from a reading of the configuration memory. The meanings are total and do
not ask for it. -/

namespace Sys2Proof

open Machine

/-- The payload of a command that is a frame's arrival. -/
def Instr.framePayload : Instr → Option Payload
  | .stopall _ => some (.stopall)
  | .hold _ _ => some (.hold)
  | .resume _ _ => some (.resume)
  | .go _ _ num => some (.go num)
  | .ready _ num verdict arg => some (.ready num verdict arg)
  | .block _ b => some (.block b)
  | .flush _ flags expected => some (.flush flags expected)
  | .override _ _ form value => some (.override form value)
  | .pace _ _ flags running elapsed => some (.pace flags running elapsed)
  | .offset _ b => some (.offset b)
  | .jog _ axis increment detents toggle => some (.jog axis increment detents toggle)
  | .panel _ b => some (.panel b)
  | .spindle _ form speed dir value => some (.spindle form speed dir value)
  | .coolant _ flood tsc air => some (.coolant flood tsc air)
  | .reference _ axis => some (.reference axis)
  | .faultclr _ => some (.faultclr)
  | .restart _ target serial => some (.restart target serial)
  | .announce _ b => some (.announce b)
  | .state _ b => some (.state b)
  | .fault _ b => some (.fault b)
  | .powerOn | .resetPin | .resetRelease _ _ | .imageReadDone _ _ | .motionTick _ | .blockStart
  | .dwellEnd | .statePeriod | .attemptStart _ | .contentionLoss | .bitError _ | .syncError _
  | .formError _ _ | .checkError _ | .refusedBusy | .failure | .recoveryTimerExpiry | .quietCountJoin
  | .stopDecelerationEnd | .disablePoint _ | .holdApply | .resumeApply | .goApply | .headWaitExpiry
  | .overrideApply | .paceApply | .modeAdoptionAtRest | .silenceTimeout _ | .moverArrive _
  | .moverAtRest _ | .followingRunLimit _ | .saturationRunLimit _ | .driveFaultInput _
  | .driveReadyOn _ | .driveReadyOff _ | .driveTimerExpiry _ | .limitActive _ _ | .limitInactive _ _
  | .unclampConfirmed _ | .clampConfirmed _ | .unclampTimeout _ | .clampTimeout _
  | .referenceSwitchActive _ | .markEdge _ | .encoderEdge _ _ | .spindleAtRest | .atSpeed
  | .spindleFaultRun | .spindleStopTimerExpiry | .sgAct | .shifterSensorChange _ _ _ | .shiftTimeout
  | .neutralTimeout | .nudgeReverse | .clAct | .flowSwitchOn | .flowSwitchOff | .floodTimerExpiry
  | .tankLowActive | .tankLowInactive | .tscStartTimeout | .tscDegraded | .bleedTimerExpiry
  | .lossRunLimit | .stopChainOpen | .stopChainClosed | .handwheelEdge _ | .enablingSwitchRelease _
  | .controlDebounce _ | .cycleStart | .feedHold | .resetButton | .refButton | .spindleStart
  | .spindleStop | .coolantButton | .supplyBelowThreshold | .frameNotAccepted _ => none

/-- A payload has a length its kind permits (R3, R186). -/
def Payload.wf (p : Payload) : Bool := (kindLengths (payloadKind p)).contains (payloadBytes p).length

/-- A reading of the configuration memory holds at most its 4,096 bytes (R26, R187). -/
def imageWf (bytes : List Byte) : Bool := bytes.length ≤ 4096

/-- A frame's payload is well formed, and an image reading fits the memory; every other operand is well
formed by its type. -/
def Instr.wf (i : Instr) : Bool :=
  match i.framePayload with
  | some p => p.wf
  | none =>
    match i with
    | .imageReadDone bytes _ => imageWf bytes
    | _ => true

end Sys2Proof
end

