-- ==== Sys2Proof/Safety.lean ====
section
/-! DEFINITION. The terms claims are stated in: the parts of the node and what it means that a command
leaves a part alone, that a command completes, and the bounds and states the manual promises of every
node. -/

namespace Sys2Proof.Machine

/-! ### Parts and frames -/

/-- The parts of a node that frames speak of. -/
inductive Part where
  | start      -- start-up logic
  | params     -- parameters of the image
  | line       -- line controller but for the transmit queue, the error tally and the last error code
  | txQueue    -- transmit queue, error tally and last error code
  | table      -- node entries and clashing pairs
  | mode       -- mode, mode source, source mode and its enabling switch
  | report     -- STATE timer and marks, and the machine condition set
  | conds      -- own condition set but for TXQ_OVERFLOW
  | faults     -- TXQ_OVERFLOW, fault record, fault counts and flags
  | held
  | latch      -- the STOPPED latch
  | stopInfo   -- STOPALL owed, the stop chain reading
  | kept       -- kept stamped frames
  | blocks     -- block queue
  | path       -- path profile generator
  | channel0
  | channel1
  | spindle    -- spindle and gearbox but for the drive command, which follows the rest (R131)
  | coolant
  | pendant
  | pins
  deriving DecidableEq, Repr

/-- A condition set without TXQ_OVERFLOW. -/
def lessOverflow (s : CondSet) : CondSet := s &&& ~~~condBit .txqOverflow

/-- `m` has a part of a node as `n` has it. -/
def keeps (p : Part) (n m : Node) : Prop :=
  match p with
  | .start => m.su = n.su
  | .params => m.par = n.par
  | .line =>
    { m.lc with queue := [], tally := 0, lastErr := .none } =
      { n.lc with queue := [], tally := 0, lastErr := .none }
  | .txQueue => m.lc.queue = n.lc.queue ∧ m.lc.tally = n.lc.tally ∧ m.lc.lastErr = n.lc.lastErr
  | .table => m.nt.entries = n.nt.entries ∧ m.nt.clashes = n.nt.clashes
  | .mode =>
    m.nt.mode = n.nt.mode ∧ m.nt.modeSource = n.nt.modeSource ∧
      m.nt.sourceMode = n.nt.sourceMode ∧ m.nt.enabling = n.nt.enabling
  | .report =>
    m.nt.machineSet = n.nt.machineSet ∧ m.nt.stateTimer = n.nt.stateTimer ∧
      m.nt.stateRunning = n.nt.stateRunning ∧ m.nt.changeNoted = n.nt.changeNoted ∧
      m.nt.lastKey = n.nt.lastKey
  | .conds => lessOverflow m.cu.own = lessOverflow n.cu.own
  | .faults =>
    condIn .txqOverflow m.cu.own = condIn .txqOverflow n.cu.own ∧ m.cu.record = n.cu.record ∧
      m.cu.counts = n.cu.counts ∧ m.cu.overflow = n.cu.overflow ∧ m.cu.reportSeq = n.cu.reportSeq ∧
      m.cu.jogSeq = n.cu.jogSeq ∧ m.cu.txqSeq = n.cu.txqSeq
  | .held => m.cu.held = n.cu.held
  | .latch => m.cu.stopped = n.cu.stopped
  | .stopInfo =>
    m.cu.owed = n.cu.owed ∧ m.cu.stopallSince = n.cu.stopallSince ∧
      m.cu.chainOpen = n.cu.chainOpen ∧ m.cu.chainRun = n.cu.chainRun
  | .kept => m.kept = n.kept
  | .blocks => m.bq = n.bq
  | .path => m.pg = n.pg
  | .channel0 => m.ax0 = n.ax0
  | .channel1 => m.ax1 = n.ax1
  | .spindle => { m.sg with driveCmd := 0 } = { n.sg with driveCmd := 0 }
  | .coolant => m.cl = n.cl
  | .pendant => m.pd = n.pd
  | .pins => m.pins = n.pins

/-- The parts in which every command may leave its report: a request for a STATE or a FAULT, the overflow
it may cause, and the STATE timer (R12, R15, R53). -/
def reporting : List Part := [.txQueue, .report, .faults]

/-- Every part is kept but the listed ones and the reporting parts. -/
def onlyChanges (ps : List Part) (n m : Node) : Prop :=
  ∀ p : Part, p ∉ ps → p ∉ reporting → keeps p n m

/-- The part a channel is. -/
def chanPart : Chan → Part
  | .ax0 => .channel0
  | .ax1 => .channel1

/-- The parts a STOP-class condition acts on as it sets the latch (R45, R178, R111, R145, R161). -/
def stopParts : List Part :=
  [.conds, .latch, .stopInfo, .channel0, .channel1, .spindle, .coolant]

/-! ### Completion -/

/-- A command answers a next state with the queue untouched, whose node is as `P` says. -/
def completes (i : Instr) (s : State) (P : Node → Prop) : Prop :=
  ∃ t, exec i s = .next t ∧ t.pending = s.pending ∧ P t.node

/-! ### What holds of every node -/

/-- The line controller's counts and its queue within their bounds (R12, R17, R21). -/
def lineBounded (n : Node) : Prop :=
  n.lc.queue.length ≤ 8 ∧ n.lc.send ≤ 255 ∧ n.lc.recv ≤ 255 ∧ n.lc.tally ≤ 65535

/-- Thirty fault counts, none above 255 (R182). -/
def countsBounded (n : Node) : Prop := n.cu.counts.length = 30 ∧ ∀ k ∈ n.cu.counts, k ≤ 255

/-- At most sixteen block entries (R56). -/
def blocksBounded (n : Node) : Prop := n.bq.entries.length ≤ 16

/-- The override inputs: the knob at most 150, one clamp for each node number, each 1 to 150 (R88). -/
def overridesBounded (n : Node) : Prop :=
  n.pg.knob ≤ 150 ∧ n.pg.clamps.length = 16 ∧ ∀ v ∈ n.pg.clamps, 1 ≤ v ∧ v ≤ 150

/-- The slew pending and the tick length it gives (R96). -/
def slewBounded (n : Node) : Prop :=
  -64 ≤ n.pg.slew ∧ n.pg.slew ≤ 64 ∧ 998 ≤ n.pg.tickLen ∧ n.pg.tickLen ≤ 1002

/-- A finished command asks for no STATE of its own: none is reported yet, or the timer stands below 5 (R53). -/
def asksNoState (n : Node) : Prop := n.nt.stateRunning = false ∨ n.nt.stateTimer < 5

/-- The transmit queue takes a request, with room for it and a STATE behind it (R12, R15). -/
def hasRoom (n : Node) : Prop := onLine n.lc.state = true ∧ n.lc.queue.length ≤ 6

/-- A frame waits in the transmit queue. -/
def waiting (p : Payload) (n : Node) : Prop := ∃ e ∈ n.lc.queue, e.payload = p

/-- Whether the gearbox is ENGAGED in some range. -/
def isEngaged (sg : SG) : Prop := ∃ r, sg.gear = .engaged r

/-- A speed command above 0 needs LOADING over, a request, an ENGAGED gearbox and the latch clear (R130). -/
def commandAllowed (n : Node) : Prop :=
  n.sg.command = 0 ∨
    (loaded n = true ∧ n.par.spindle.isSome = true ∧ n.sg.request.isSome = true ∧ isEngaged n.sg ∧ n.cu.stopped = false)

/-- Each channel has its 32 frame records, and record 0 maps a target onto itself (R105). -/
def frameZeroFixed (n : Node) : Prop :=
  n.ax0.frames.length = 32 ∧ n.ax0.frames[0]? = some (FrameRec.blank true) ∧
    n.ax1.frames.length = 32 ∧ n.ax1.frames[0]? = some (FrameRec.blank true)

/-- Before the end of LOADING the line controller stands in JOINING with an empty queue, held and STOPPED
are set (R22, R24, R49, R184). -/
def loadingWaits (n : Node) : Prop :=
  loaded n = false →
    n.lc.state = .joining ∧ n.lc.queue = [] ∧ n.cu.held = true ∧ n.cu.stopped = true

/-! ### Named forms of statements -/

/-- The commands that act at a node in a full reset or in LOADING. -/
def actsBeforeLoaded : Instr → Bool
  | .powerOn => true
  | .resetPin => true
  | .supplyBelowThreshold => true
  | .resetRelease _ _ => true
  | .imageReadDone _ _ => true
  | .motionTick _ => true
  | _ => false

/-- The commands of the supply and the reset pin, each of which begins a full reset (R24). -/
def isHardReset : Instr → Bool
  | .powerOn => true
  | .resetPin => true
  | .supplyBelowThreshold => true
  | _ => false

/-- What a frame command carries from the line controller. -/
def frameRx : Instr → Option Rx
  | .stopall rx | .hold rx _ | .resume rx _ | .go rx _ _ | .ready rx _ _ _ | .block rx _
  | .flush rx _ _ | .override rx _ _ _ | .pace rx _ _ _ _ | .offset rx _ | .jog rx _ _ _ _
  | .panel rx _ | .spindle rx _ _ _ _ | .coolant rx _ _ _ | .reference rx _ | .faultclr rx
  | .restart rx _ _ | .announce rx _ | .state rx _ | .fault rx _ => some rx
  | _ => none

/-- Neither a raising nor a clearing of LINE_WARN follows from the counts: both stand below 96, or it is in
the own set already (R18). -/
def lineWarnStands (send recv : Nat) (n : Node) : Prop :=
  (send < 96 ∧ recv < 96) ∨ condIn .lineWarn n.cu.own = true

/-- A condition set agrees with another but for LINE_WARN and TXQ_OVERFLOW. -/
def sameButLineWarn (a b : CondSet) : Prop :=
  ∀ c : Cond, c ≠ .lineWarn → c ≠ .txqOverflow → condIn c a = condIn c b

/-- The line controller as R22 lists it after a full reset. -/
def lineAtReset (lc : LC) : Prop :=
  lc.state = .joining ∧ lc.recoveryMark = false ∧ lc.send = 0 ∧ lc.recv = 0 ∧ lc.tally = 0 ∧
    lc.lastErr = .none ∧ lc.quiet = 0 ∧ lc.queue = [] ∧ lc.yield = false ∧ lc.recovery = none

/-- The node table and the condition unit as R55 and R184 list them after a full reset, before the end of
LOADING. -/
def tableAtReset (n : Node) : Prop :=
  n.nt.entries.length = 16 ∧
    (∀ e ∈ n.nt.entries, e.state = .absent ∧ e.silence = 0 ∧ e.funcs = none ∧ e.tag = none ∧
      e.cause = none ∧ e.report = none ∧ e.panel = none) ∧
    n.nt.machineSet = n.cu.own ∧ n.nt.mode = .manual ∧ n.nt.modeSource = none ∧
    n.nt.sourceMode = .manual ∧ n.nt.stateTimer = 0 ∧ n.nt.stateRunning = false ∧
    n.cu.own = 0 ∧ n.cu.held = true ∧ n.cu.stopped = true ∧ n.cu.owed = false ∧
    n.cu.record = none ∧ n.cu.counts = List.replicate 30 0 ∧ n.cu.overflow = 0

/-- The path profile generator as R99 lists it after a full reset, and the block queue as R76 does. -/
def pathAtReset (n : Node) : Prop :=
  n.pg.tick = 0 ∧ n.pg.phase = 0 ∧ n.pg.slew = 0 ∧ n.pg.run = none ∧ n.pg.stopMark = false ∧
    n.pg.knob = 100 ∧ n.pg.clamps = List.replicate 16 150 ∧ n.pg.history = [] ∧ n.kept = [] ∧
    n.bq.entries = [] ∧ n.bq.expected = none ∧ n.bq.spindleForce = none ∧ n.bq.rangeForce = none ∧
    n.bq.coolantForce = none ∧ n.bq.last = none

/-- A channel as R126 lists it after a full reset, before the end of LOADING. -/
def channelAtReset (a : Axis) : Prop :=
  a.count = 0 ∧ a.actual = 0 ∧ a.commanded = 0 ∧ a.prevCorrected = 0 ∧ a.planned = 0 ∧
    a.frames.length = 32 ∧
    a.frames[0]? = some { offset := 0, mirror := false, valid := true, window := none } ∧
    (∀ r ∈ a.frames.tail, r.valid = false ∧ r.offset = 0 ∧ r.window = none) ∧
    a.drive = .disabled ∧ a.driveCommand = 0 ∧ a.driveTimer = 0 ∧ a.stopTimer = none ∧
    a.motion = .idle ∧ a.moverPos = 0 ∧ a.moverVel = 0 ∧ a.moverTarget = 0 ∧ a.moverStop = false ∧
    a.jogAccum = 0 ∧ a.lastJog = none ∧ a.jogRecent = 0 ∧ a.ref = .noSequence ∧
    a.referenced = false ∧ a.markPlus = false ∧ a.markMinus = false ∧ a.followRun = 0 ∧
    a.satRun = 0 ∧ a.abandoned = false

/-- The spindle, coolant and pendant units as R147, R162 and R175 list them after a full reset, the values
taken at the end of LOADING apart. -/
def machineAtReset (n : Node) : Prop :=
  n.sg.spindle = .stopped ∧ n.sg.request = none ∧ n.sg.override = 100 ∧ n.sg.command = 0 ∧
    n.sg.ramped = 0 ∧ n.sg.driveCmd = 0 ∧ n.sg.restRun = 0 ∧ n.sg.atRun = 0 ∧ n.sg.faultRun = 0 ∧
    n.sg.atSpeed = false ∧ n.sg.target = none ∧ n.sg.retries = 0 ∧ n.sg.shiftTimer = 0 ∧
    n.sg.nudging = false ∧ n.sg.nudgeTimer = 0 ∧ n.sg.stopTimer = none ∧ n.sg.manualStop = false ∧
    n.cl.flood = .off ∧ n.cl.tsc = .off ∧ n.cl.air = .off ∧ n.cl.demand = .empty ∧
    n.cl.manualOff = .empty ∧ n.cl.loss = .empty ∧ n.cl.floodTimer = 0 ∧ n.cl.tscTimer = 0 ∧
    n.cl.bleed = 0 ∧ n.cl.window = List.replicate 8 0 ∧ n.cl.lowRun = 0 ∧ n.cl.lossRun = 0 ∧
    n.cl.blockSet = .empty ∧ n.cl.clamp = 150 ∧
    n.pd.residue = 0 ∧ n.pd.detents = 0 ∧ n.pd.toggle = false ∧ n.pd.jogTimer = 10 ∧
    n.pd.outstanding = none ∧ n.pd.ovrTimer = 20 ∧ n.pd.spTimer = 20 ∧ n.pd.resend = true ∧
    n.pd.lastSp = none ∧ n.pd.manual = none ∧ n.pd.holdPressed = false

/-- A command is accepted as a frame of a peer or of the node itself, whose line controller has joined the
line (R30) and finds R9's test met, and its unit works on the node that the acceptance leaves: `P` speaks of that
node and of the node after the command. -/
def frameCompletes (i : Instr) (rx : Rx) (s : State) (P : Node → Node → Prop) : Prop :=
  loaded s.node = true → joins rx.lead.val s.node = true → slotClear rx s.node = true →
    completes i s (fun t => P (accepted rx s.node) t)

end Sys2Proof.Machine
end

