-- ==== Sys2Proof/Certificates/Slice0/Obligations.lean ====
section
/-! DEFINITION. The statements about the node for the provers. Each is listed in OBLIGATIONS.json with the
rules it rests on. A statement that a command completes has a witness for its hypotheses in
Sys2Proof/Tests/Slice0.lean. Where a statement speaks of an event row (a timer's end, an input's change, a
press, an application), it takes the row as that event, as assumption log 12 says. -/

open Sys2Proof Sys2Proof.Machine

/-! ### The queue of commands -/

/-- A step carries out the command at the front of the queue on the state with the queue's rest. -/
def Obligations.StepRunsFrontCommand : Prop :=
  ∀ (c : Instr) (s : State), step { s with pending := c :: s.pending } = exec c s

/-- With no command waiting, one bit time passes: nothing at all in a full reset, and otherwise the phase
rises by one bit time, up to the last phase of its tick, with no tick begun, and of the path's part nothing
else changes; in LOADING nothing else changes at all. An attempt that is due takes its capture at the phase
before the rise, the leading edge of its start bit (R10); in any other bit time the quiet count returns to 0
where the node drives its next level, and rises by 1 up to 255 where nobody drives. Outside JOINING nothing
but the line controller and the phase is touched; in JOINING the end of it (R20) also touches the recovery
mark, the start-up marks of R31 and LINE_WARN, and no other condition but TXQ_OVERFLOW, and may ask for a STATE as
the line state changes (R53). The model's choice,
assumption log 4; that the phase rises at the end of the bit time is its choice too. -/
def Obligations.EmptyQueueStepIsOneBitTime : Prop :=
  ∀ s : State, s.pending = [] →
    let n := s.node
    ∃ t, step s = .next t ∧ t.pending = [] ∧ (n.su.start = .inReset → t = s) ∧
      (n.su.start = .loading → { t.node with pg := n.pg } = n) ∧
      (n.su.start ≠ .inReset →
        t.node.pg = { n.pg with phase := t.node.pg.phase } ∧
        t.node.pg.phase.val =
          min (n.pg.phase.val + bitMicros n.su.bitTime) (min 999 (n.pg.tickLen - 1)) ∧
        { t.node.su with joinPending := n.su.joinPending, firstActive := n.su.firstActive } = n.su ∧
        sameButLineWarn t.node.cu.own n.cu.own ∧
        onlyChanges [.start, .line, .path, .conds] n t.node ∧
        (n.lc.state ≠ .joining → onlyChanges [.line, .path] n t.node)) ∧
      (loaded n = true →
        (attemptDue n = true →
          t.node.lc.capture = some { tick := n.pg.tick, phase := n.pg.phase } ∧
          t.node.lc.quiet = 0) ∧
        (attemptDue n = false →
          t.node.lc.quiet =
            if 0 < n.lc.errorRun ∨ n.lc.txBits.head? = some true then 0 else min 255 (n.lc.quiet + 1)))

/-- Before the end of LOADING every command but the resets, the release, the end of an image reading and
the motion tick leaves the state as it is (R24, R26). The model's
reading of the rows that arrive then, assumption log 8. -/
def Obligations.CommandsBeforeEndOfLoadingDoNothing : Prop :=
  ∀ (c : Instr) (s : State), loaded s.node = false → actsBeforeLoaded c = false → exec c s = .next s

/-! ### Resets and LOADING -/

/-- R22, R24: the line controller after power-on, the reset pin, a fall of the supply (assumption log 15)
and an accepted RESTART; the bit time of the release. R19, R20, R34: the line controller after line-off
recovery, at a row that stands for the expiry of the timer (assumption log 12), and the own entry, which
carries the announce cause LINE_RECOVERY. -/
def Obligations.LineControllerAfterResetAndRecovery : Prop :=
  (∀ (c : Instr) (s : State), isHardReset c = true → completes c s (fun t => lineAtReset t.lc)) ∧
  (∀ (rx : Rx) (target serial : Byte) (s : State), loaded s.node = true →
    joins rx.lead.val s.node = true → slotClear rx s.node = true →
    restartTaken target serial (accepted rx s.node) = true →
    completes (.restart rx target serial) s (fun t => lineAtReset t.lc)) ∧
  (∀ (straps : BitVec 4) (rate : Bool) (s : State),
    s.node.su.start = .inReset → s.node.su.supplyOk = true →
    completes (.resetRelease straps rate) s
      (fun t => t.su.bitTime = (if rate then .us1 else .us2) ∧ t.lc = s.node.lc)) ∧
  (∀ s : State, loaded s.node = true → s.node.lc.state = .off →
    completes .recoveryTimerExpiry s (fun t =>
      t.lc.state = .joining ∧ t.lc.recoveryMark = true ∧ t.lc.send = 0 ∧ t.lc.recv = 0 ∧
      t.lc.queue = [] ∧ t.lc.recovery = none ∧ t.lc.tally = s.node.lc.tally ∧
      t.lc.lastErr = s.node.lc.lastErr ∧ t.su = { s.node.su with announceCause := .lineRecovery } ∧
      t.nt.entries = s.node.nt.entries.set s.node.su.node.val
        { entryAt s.node.su.node.val s.node with cause := some .lineRecovery } ∧
      t.nt.clashes = s.node.nt.clashes ∧
      onlyChanges [.start, .line, .table, .conds] s.node t))

/-- R55, R76, R99, R126, R147, R162, R175, R184: in a full reset from the supply (its fall by assumption log
15), from the reset pin and from an accepted RESTART the node table, the condition unit, the block queue, the
path, both channels, the spindle, the coolant unit and the pendant unit stand at their values of reset. The
values that come from the image or the inputs at the end of LOADING, the head wait timer's among them, are the
matter of ImageReadingDecidesTheStartState. -/
def Obligations.UnitsAfterReset : Prop :=
  let reset (t : Node) : Prop :=
    tableAtReset t ∧ pathAtReset t ∧ channelAtReset t.ax0 ∧ channelAtReset t.ax1 ∧ machineAtReset t
  (∀ (c : Instr) (s : State), isHardReset c = true → completes c s reset) ∧
  (∀ (rx : Rx) (target serial : Byte) (s : State), loaded s.node = true →
    joins rx.lead.val s.node = true → slotClear rx s.node = true →
    restartTaken target serial (accepted rx s.node) = true →
    completes (.restart rx target serial) s reset)

/-- R24, R25: the reset causes. A power-on gives POWER_ON; the reset pin gives POWER_ON where the supply
has risen since the node last began a start-up and RESET_PIN otherwise; a RESTART gives RESTART_FRAME and
its serial is kept. A RESTART for another node, one at a node whose STOPPED latch is clear, and one that
repeats the serial kept start no reset; the frame is one that the line controller has joined (R30). The latch and
the serial are tested on the node that the acceptance leaves, a NODE_CLASH of the same frame included, so that a
clashing RESTART is taken where the latch was clear before (the model's choice, assumption log 60). -/
def Obligations.ResetCauses : Prop :=
  (∀ s : State, completes .powerOn s (fun t =>
    t.su.start = .inReset ∧ t.su.cause = .powerOn ∧ t.su.supplyOk = true ∧ t.su.serial = none)) ∧
  (∀ s : State, completes .resetPin s (fun t =>
    t.su.start = .inReset ∧ t.su.serial = none ∧ t.su.supplyOk = s.node.su.supplyOk ∧
    t.su.cause = (if s.node.su.supplyRose then .powerOn else .resetPin))) ∧
  (∀ (rx : Rx) (target serial : Byte) (s : State), loaded s.node = true →
    joins rx.lead.val s.node = true → slotClear rx s.node = true →
    restartTaken target serial (accepted rx s.node) = true →
    completes (.restart rx target serial) s (fun t =>
      t.su.start = .inReset ∧ t.su.cause = .restartFrame ∧ t.su.serial = some serial)) ∧
  (∀ (rx : Rx) (target serial : Byte) (s : State), loaded s.node = true →
    joins rx.lead.val s.node = true → slotClear rx s.node = true →
    (target.toNat ≠ (accepted rx s.node).su.node.val ∨ (accepted rx s.node).cu.stopped = false ∨
      (accepted rx s.node).su.serial = some serial) →
    completes (.restart rx target serial) s (fun t => onlyChanges [] (accepted rx s.node) t))

/-- R23, R24: at its release a reset whose supply is up samples the straps and LOADING begins with its
first reading; nothing else changes, and a release in any other state has no effect. After a fall of the
supply no release ends the reset until the supply has risen again, and that start-up has cause POWER_ON; that
this row begins a reset which POWER_ON alone lets end is assumption log 15. -/
def Obligations.ReleaseBeginsLoading : Prop :=
  ∀ (straps : BitVec 4) (rate : Bool) (s : State),
    completes (.resetRelease straps rate) s (fun t =>
      if s.node.su.start = .inReset ∧ s.node.su.supplyOk = true then
        t.su.start = .loading ∧ t.su.node.val = straps.toNat ∧
        t.su.bitTime = (if rate then .us1 else .us2) ∧ t.su.attempt = 1 ∧
        t.su.cause = s.node.su.cause ∧ { t with su := s.node.su } = s.node
      else t = s.node) ∧
    completes .supplyBelowThreshold s (fun t => t.su.start = .inReset ∧ t.su.supplyOk = false) ∧
    (∀ t, exec .supplyBelowThreshold s = .next t →
      exec (.resetRelease straps rate) t = .next t ∧
      completes .powerOn t (fun u => u.su.supplyOk = true ∧ u.su.cause = .powerOn))

/-- R26 to R30, R34: an image reading in LOADING, the line controller in JOINING and the latch set as a full
reset leaves them. A first reading that fails is made again; a second one that fails makes the node LIMITED,
with IMAGE_BAD, no functions, tag 0 and an empty expected set. A reading that passes makes the node CONFIGURED
with the image's parameters, and each used unit evaluates its inputs: the block queue is empty with its head wait
timer preset (R76); the limit marks, the clamp and its timer and the drive follow each channel's inputs, with
HARD_LIMIT and DRIVE_FAULT (R113, R126, R111); the sensor levels are the raw ones, and gearbox and reference range
follow their pattern, with GEAR_FAULT in a conflict and no GEAR_LOST (R138, R147); flow and tank switch are read,
with TANK_LOW (R149, R162); the pendant's readings and knob indices are the controls', with their starting values
(R163, R167, R175); the stop chain is read, with STOP_INPUT, at a LIMITED node too (R176, R184). None of these
conditions is raised without its input, and a STOP-class one leaves a STOPALL owed. Either way the node is in
JOINING and its own entry LIVE. -/
def Obligations.ImageReadingDecidesTheStartState : Prop :=
  ∀ (bytes : List Byte) (inputs : Pins) (s : State), s.node.su.start = .loading →
    s.node.lc.state = .joining → s.node.cu.stopped = true →
    completes (.imageReadDone bytes inputs) s (fun t =>
      let has (c : Cond) : Bool := condIn c t.cu.own
      let had (c : Cond) : Bool := condIn c s.node.cu.own
      let stands : Prop := t.lc.state = .joining ∧ t.cu.held = s.node.cu.held ∧ t.cu.stopped = true ∧
        t.cu.chainOpen = inputs.chainOpen ∧ t.cu.chainRun = 0 ∧
        has .stopInput = (had .stopInput || inputs.chainOpen) ∧ has .gearLost = had .gearLost ∧
        (s.node.nt.entries.length = 16 → (entryAt s.node.su.node.val t).state = .live)
      match judgeImage s.node.su.node bytes with
      | .good l =>
        let used (test : AxisPins → Bool) : Bool :=
          (l.par.axis0.isSome && test inputs.ax0) || (l.par.axis1.isSome && test inputs.ax1)
        let sensors := inputs.shifter
        let controls := inputs.pendant
        stands ∧ t.su.start = .configured ∧ t.par = l.par ∧ t.pins = inputs ∧
        t.bq = { entries := [], expected := none, headTimer := l.par.headWait, spindleForce := none,
                 rangeForce := none, coolantForce := none, last := none } ∧
        (∀ c p, (match c with | .ax0 => l.par.axis0 | .ax1 => l.par.axis1) = some p →
          let x := getAx c t
          let pin := axPins c inputs
          limitMark .plus x = pin.limPlus ∧ limitMark .minus x = pin.limMinus ∧
          x.drive = (if pin.fault then .faulted else .disabled) ∧
          x.comp = (match c with | .ax0 => l.comp0 | .ax1 => l.comp1) ∧
          x.clamp = (if p.clampFitted = false then .unclamped
            else if pin.clamped && !pin.unclamped then .clamped
            else if pin.unclamped && !pin.clamped then .unclamped else .clamping) ∧
          x.clampTimer = (if x.clamp = .clamping then 2000 else 0)) ∧
        has .hardLimit = (had .hardLimit || used fun pin => pin.limPlus || pin.limMinus) ∧
        has .driveFault = (had .driveFault || used AxisPins.fault) ∧
        (inputs.chainOpen = true ∨ used (fun pin => pin.limPlus || pin.limMinus || pin.fault) = true →
          t.cu.owed = true) ∧
        (∀ p, l.par.spindle = some p →
          t.sg.a1 = ⟨sensors.a1, 0⟩ ∧ t.sg.a2 = ⟨sensors.a2, 0⟩ ∧
          t.sg.b1 = ⟨sensors.b1, 0⟩ ∧ t.sg.b2 = ⟨sensors.b2, 0⟩ ∧
          match patternOf p t.sg with
          | .valid r => t.sg.gear = .engaged r ∧ t.sg.refRange = r
          | .opened => t.sg.gear = .unknown ∧ t.sg.refRange = smallestRatio p
          | .conflict _ => t.sg.gear = .gearFault ∧ t.sg.refRange = smallestRatio p) ∧
        has .gearFault = (had .gearFault || (l.par.spindle.isSome &&
          ((sensors.a1 && sensors.a2) || (sensors.b1 && sensors.b2)))) ∧
        (l.par.coolant.isSome = true →
          t.cl.flow = ⟨inputs.flow, 0⟩ ∧ t.cl.tank = ⟨inputs.tankLow, 0⟩) ∧
        has .tankLow = (had .tankLow || (l.par.coolant.isSome && inputs.tankLow)) ∧
        (l.par.pendant.isSome = true →
          t.pd.mode = readNow (controls.mode.getD .manual) ∧ t.pd.axisSel = readNow controls.axisSel ∧
          t.pd.increment = readNow (controls.increment.getD .x1) ∧
          t.pd.enable = readNow controls.enable ∧
          t.pd.btnCycle = readNow controls.buttons.cycleStart ∧
          t.pd.btnHold = readNow controls.buttons.feedHold ∧
          t.pd.btnStart = readNow controls.buttons.spindleStart ∧
          t.pd.btnStop = readNow controls.buttons.spindleStop ∧
          t.pd.btnCoolant = readNow controls.buttons.coolant ∧
          t.pd.btnReset = readNow controls.buttons.reset ∧ t.pd.btnRef = readNow controls.buttons.ref ∧
          t.pd.feedIdx = (controls.feedKnob.toNat * 90 / 4095 + 3) / 6 ∧
          t.pd.spindleIdx = (controls.spindleKnob.toNat * 42 / 4095 + 3) / 6)
      | .bad r =>
        if s.node.su.attempt = 1 then
          t.su.start = .loading ∧ t.su.attempt = 2 ∧ { t with su := s.node.su } = s.node
        else
          stands ∧ t.su.start = .limited ∧ t.par = .limited ∧ has .imageBad = true ∧ t.cu.owed = true ∧
          (∀ c, c = .hardLimit ∨ c = .driveFault ∨ c = .gearFault ∨ c = .tankLow → has c = had c) ∧
          (s.node.cu.record = none → t.cu.record =
            some { cond := .imageBad, tick := s.node.pg.tick, running := runningBlock s.node,
                   detail := BitVec.ofNat 8 r }))

/-! ### The motion tick and the path -/

/-- R77, R96: a motion tick raises the tick number by 1 and starts its phase at 0, and fixes the tick's
length and the slew left from the slew pending; it does so in LOADING and at a LIMITED node, and in a full
reset nothing happens. -/
def Obligations.MotionTickCountsAndSlews : Prop :=
  ∀ (inputs : Pins) (s : State),
    completes (.motionTick inputs) s (fun t =>
      (s.node.su.start = .inReset → t = s.node) ∧
      (s.node.su.start ≠ .inReset →
        t.pg.tick = s.node.pg.tick + 1 ∧ t.pg.phase = 0 ∧
        (s.node.pg.slew < 0 →
          (t.pg.tickLen : Int) = 1000 + min 2 (-s.node.pg.slew) ∧
          t.pg.slew = s.node.pg.slew + min 2 (-s.node.pg.slew)) ∧
        (s.node.pg.slew = 0 → t.pg.tickLen = 1000 ∧ t.pg.slew = 0) ∧
        (0 < s.node.pg.slew →
          (t.pg.tickLen : Int) = 1000 - min 2 s.node.pg.slew ∧
          t.pg.slew = s.node.pg.slew - min 2 s.node.pg.slew)) ∧
      (s.node.su.start = .loading → { t with pg := s.node.pg } = s.node))

/-- R152: at each motion tick a used coolant unit's newest pressure sample joins the window and the oldest
leaves it, whatever the state of TSC; the average is the sum of the samples over 8; the window of a reset
holds eight samples of 0; and with a full scale of 16,380 the readings and sums of the rule's example give
its values. -/
def Obligations.PressureWindowTakesOneSamplePerTick : Prop :=
  (∀ (inputs : Pins) (s : State) (p : CoolantParams), s.node.su.start = .configured →
    s.node.par.coolant = some p →
    completes (.motionTick inputs) s (fun t =>
      t.cl.window = s.node.cl.window.tail ++ [inputs.pressure.toNat * p.fullScale / 4095])) ∧
  (∀ cl : CL, average cl = cl.window.sum / 8) ∧
  (∀ s : State, completes .powerOn s (fun t => t.cl.window = [0, 0, 0, 0, 0, 0, 0, 0])) ∧
  1750 * 16380 / 4095 = 7000 ∧
  (∀ cl : CL, cl.window = [7000, 7000, 7000, 7000, 7000, 7000, 5600, 5600] → average cl = 6650)

/-- R101: an encoder edge changes the count by 1, up or down, in every drive state, and the signed 48-bit
count wraps at its ends; at a motion tick the actual position is the count × num / den rounded down and
clamped to the signed 32-bit range; the mark input acts only in the reference sequence. -/
def Obligations.EncoderCountAndActualPosition : Prop :=
  (∀ (c : Chan) (up : Bool) (s : State), loaded s.node = true → (axParams c s.node).isSome = true →
    completes (.encoderEdge c up) s (fun t =>
      (getAx c t).count =
        (BitVec.ofInt 48 ((getAx c s.node).count + (if up then 1 else -1))).toInt ∧
      { getAx c t with count := 0 } = { getAx c s.node with count := 0 } ∧
      onlyChanges [chanPart c] s.node t)) ∧
  (∀ (c : Chan) (inputs : Pins) (s : State) (p : AxisParams), s.node.su.start = .configured →
    axParams c s.node = some p →
    completes (.motionTick inputs) s (fun t =>
      (getAx c t).count = (getAx c s.node).count ∧
      (getAx c t).actual =
        max (-2147483648) (min 2147483647 (((getAx c s.node).count * p.num) / (p.den : Int))))) ∧
  (∀ p : AxisParams, p.num = 1 → p.den = 4 → actualOf p 400003 = 100000 ∧ actualOf p (-5) = -2) ∧
  (∀ (c : Chan) (s : State), loaded s.node = true → (getAx c s.node).motion ≠ .reference →
    completes (.markEdge c) s (fun t =>
      getAx c t = getAx c s.node ∧ onlyChanges [] s.node t))

/-- R84, R85: a profile step moves a block's path position forward by its velocity and never past the
block's length; it reaches the length exactly at the final tick; and its velocity never exceeds the
greater of the velocity before the step and F × 150 / 100. -/
def Obligations.ProfileStepStaysWithinTheBlock : Prop :=
  ∀ (n : Node) (r : Run), r.p ≤ lq r → r.final = false →
    let u := profileStep n r
    r.p ≤ u.p ∧ u.p = min (r.p + u.v) (lq r) ∧ u.p ≤ lq u ∧
    (u.final = true ↔ u.p = lq u) ∧
    (n.pg.knob ≤ 150 → u.v ≤ max r.v (r.feed * 150 / 100))

/-- R89, R92: while the held flag is set a running block never gains velocity: its velocity falls by A at
each tick down to 0; under the stop deceleration mark it falls by 2 × A, whatever the override and the held
flag. A motion tick makes exactly this step of the RUNNING block, the profile step, the stop step or the tick of a
dwell block (R84 to R86), where its final tick has not been, no kept frame is due at the tick, no silence timer ends
at it and no MODE_SWITCH waits; and under the stop deceleration mark the tick at which the velocity is 0 brings the
report: the mark is clear, no entry is left and none runs (R75). -/
def Obligations.HeldAndStoppedPathsSlowDown : Prop :=
  (∀ (n : Node) (r : Run),
    (n.cu.held = true → (profileStep n r).v = r.v - r.acc) ∧
    (n.pg.stopMark = true → r.final = false → 0 < r.len → (runStep n r).v = r.v - 2 * r.acc) ∧
    (r.final = false → 0 < r.len → n.pg.stopMark = false →
      runStep n r = profileStep n { r with
        fresh := false, elapsed := if r.fresh then r.elapsed else r.elapsed + 1 })) ∧
  (∀ (inputs : Pins) (s : State) (r : Run), s.node.su.start = .configured →
    s.node.pg.run = some r → r.final = false → condIn .modeSwitch s.node.cu.own = false →
    (∀ k ∈ s.node.kept, later k.apply (s.node.pg.tick + 1) = true) →
    (∀ e ∈ s.node.nt.entries, e.state = .live → e.silence ≠ 1) →
    completes (.motionTick inputs) s (fun t =>
      let u := runStep s.node r
      let reported := s.node.pg.stopMark = true ∧ (u.v = 0 ∨ u.final = true)
      (¬reported → t.pg.run = some u ∧ t.pg.stopMark = s.node.pg.stopMark) ∧
      (s.node.pg.stopMark = true → u.v = 0 → (∃ e ∈ s.node.bq.entries, inChain e = true) →
        t.pg.run = none ∧ t.pg.stopMark = false ∧ t.bq.entries = [])))

/-- R86: a dwell block starts with a dwell count of its dwell, at least 1, with velocity 0 whatever its
predecessor carried and path position 0. At each tick it runs, whatever the held flag, the override and the
stop mark, its count falls by 1, its velocity and position stay 0 and its elapsed ticks count as any block's
do; the tick at which the count reaches 0 is its final tick, with carried velocity 0; and so it lasts its
dwell, at least 1, in ticks. DWELL_END makes the present tick the final tick of a running dwell block,
whatever count is left (the model's choice, assumption log 12); a block with a length is left alone, and so
is everything else. -/
def Obligations.DwellBlocksCountTheirTicks : Prop :=
  (∀ (n : Node) (e : Entry) (f : BlockFields), f.len = 0 →
    let u := startRun e f n
    u.dwell = max f.dwell 1 ∧ u.v = 0 ∧ u.p = 0 ∧ u.len = 0 ∧ u.elapsed = 0 ∧ u.final = false ∧
    ∀ ticks : List Node,
      ((ticks.foldl (fun r m => runStep m r) u).final = true ↔ max f.dwell 1 ≤ ticks.length)) ∧
  (∀ (n : Node) (r : Run), r.final = false → r.len = 0 →
    let u := runStep n r
    u.dwell = r.dwell - 1 ∧ u.p = 0 ∧ u.v = 0 ∧ u.carry = 0 ∧
    (0 < r.dwell → (u.final = true ↔ u.dwell = 0)) ∧
    u.elapsed = (if r.fresh then r.elapsed else r.elapsed + 1) ∧ u.fresh = false) ∧
  (∀ (s : State) (r : Run), loaded s.node = true → s.node.pg.run = some r →
    completes .dwellEnd s (fun t =>
      (r.len = 0 → t.pg.run = some { r with dwell := 0, v := 0, p := 0, final := true, carry := 0 }) ∧
      (r.len ≠ 0 → t.pg = s.node.pg) ∧
      onlyChanges [.path] s.node t))

/-- R71, R80, R86: BLOCK_START makes the first COMMITTED entry, its start tick settled and no entry
RUNNING, the RUNNING one: the path position and the elapsed ticks are 0, the ceiling is the committed one,
the velocity is the predecessor's carried velocity where its final tick was the tick just before and 0
otherwise, and a dwell block starts with its dwell count, at least 1, and velocity 0. That the row stands for
the start tick, whatever the tick number, is the model's choice (assumption log 25). -/
def Obligations.BlockStartTakesTheCommittedEntry : Prop :=
  ∀ (s : State) (e : Entry) (f : BlockFields) (k : Tick), loaded s.node = true →
    s.node.bq.entries.head? = some e → s.node.pg.run = none → e.state = .committed →
    e.start = .at k → e.fields = some f →
    completes .blockStart s (fun t =>
      ∃ r, t.pg.run = some r ∧ r.num = e.num ∧ r.len = f.len ∧ r.feed = f.feed ∧ r.acc = f.acc ∧
        r.junction = f.junction ∧ r.cont = f.cont ∧ r.ceiling = e.ceiling ∧ r.p = 0 ∧
        r.elapsed = 0 ∧ r.final = false ∧
        (f.len = 0 → r.v = 0 ∧ r.dwell = max f.dwell 1) ∧
        (0 < f.len →
          (∀ k' v, s.node.pg.carry = some (k', v) →
            r.v = if k' = s.node.pg.tick - 1 then v else 0) ∧
          (s.node.pg.carry = none → r.v = 0)) ∧
        t.bq.entries.head? = some { e with state := .running } ∧
        onlyChanges [.blocks, .path, .coolant, .conds] s.node t)

/-- R107, R109, R110, and R112 with the clamp of R103. The correction is 0 for an unreferenced axis and in
mode NONE; otherwise, where no entry read fails its parity test, the first entry's below x = 0, the last
entry's from the last index on, and between two entries the first plus the truncated share of their
difference. Step 3 forms the corrected command as c + comp; where a test fails the correction of the
previous tick stands and COMP_PARITY is raised. The tracking position uses the same computation at the
actual position, and where a parity test fails there the correction of the previous tick as well (the model's
choice, assumption log 52). Step 4, while ENABLED, forms (Kp × e + Kf × dcc) / 256, truncated, clamped to ±32,767, and
records the corrected command; 1,024, 512, 6 and 2 give 28. The saturation run counts the ticks at which the
clamp changed the output and raises DRIVE_SATURATED, HOLD-class and latched, as it reaches 50; the following
run counts those at which the size of e exceeds the limit and raises FOLLOW_ERROR, STOP-class and latched, as
it reaches 4, each with the channel number as detail; a run stays there without a further raising. In every other drive state
command and runs are 0, and a change of the drive state sets the previous corrected command to the present
one. At a MOTION_TICK at which a drive is ENABLED it takes its command so, and at the first one after a change of its
state dcc is 0, whatever the path command does (the model's reading, assumption log 97). -/
def Obligations.CorrectionAndServoOutput : Prop :=
  (∀ (p : AxisParams) (a : Axis) (c : Int),
    let comp := (correction p a c).2.1
    (a.referenced = false ∨ p.seg = none → comp = 0) ∧
    (∀ seg : Nat, a.referenced = true → p.seg = some seg → 0 < seg →
      let x := c - p.compOrigin
      let last := a.comp.length - 1
      parityFailures a (cellEntries a (compCell seg a x)) = [] →
      (x < 0 → comp = compValue 0 a) ∧
      ((last * seg : Nat) ≤ x → comp = compValue last a) ∧
      (∀ i : Nat, i < last → (i * seg : Nat) ≤ x → x < ((i + 1) * seg : Nat) →
        comp = compValue i a +
          Int.tdiv ((compValue (i + 1) a - compValue i a) * (x - (i * seg : Nat))) seg)) ∧
    (tracking p a).2.1 = (if a.referenced then
      clampInt p.winLow p.winHigh (a.actual - (correction p a a.actual).2.1) else a.actual)) ∧
  (∀ (c : Chan) (p : AxisParams) (n : Node),
    let a := getAx c n
    let u := correctStep c p n
    (getAx c u).commanded = a.commanded ∧
    (getAx c u).corrected = a.commanded + (correction p a a.commanded).2.1 ∧
    (getAx c u).lastComp = (correction p a a.commanded).2.1 ∧
    (∀ seg, a.referenced = true → p.seg = some seg →
      parityFailures a (cellEntries a (compCell seg a (a.commanded - p.compOrigin))) ≠ [] →
      (getAx c u).corrected = a.commanded + a.lastComp ∧
      condIn .compParity u.cu.own = true ∧ u.cu.stopped = true)) ∧
  (∀ (c : Chan) (p : AxisParams) (n : Node), n.cu.counts.length = 30 →
    let a := getAx c n
    let u := servoStep c p n
    let e := a.corrected - a.actual
    let out := Int.tdiv (p.kp * e + p.kf * (a.corrected - a.prevCorrected)) 256
    (a.drive = .enabled →
      (getAx c u).drive = .enabled ∧
      (getAx c u).driveCommand = max (-32767) (min 32767 out) ∧
      (getAx c u).prevCorrected = a.corrected ∧
      (getAx c u).satRun =
        (if out < -32767 ∨ 32767 < out then min (a.satRun + 1) 50 else 0) ∧
      (getAx c u).followRun = (if p.followLimit < e.natAbs then min (a.followRun + 1) 4 else 0) ∧
      (p.followLimit < e.natAbs → a.followRun = 3 →
        condIn .followError u.cu.own = true ∧ u.cu.stopped = true ∧
        (n.cu.record = none → u.cu.record =
          some { cond := .followError, tick := n.pg.tick, running := runningBlock n,
                 detail := match c with | .ax0 => 0 | .ax1 => 1 })) ∧
      (e.natAbs ≤ p.followLimit ∨ a.followRun < 3 ∨ 4 ≤ a.followRun →
        u.cu.counts.getD (condNumber .followError) 0 =
          n.cu.counts.getD (condNumber .followError) 0) ∧
      (out < -32767 ∨ 32767 < out → a.satRun = 49 →
        condIn .driveSaturated u.cu.own = true ∧
        (a.followRun ≠ 3 → n.cu.record = none → (axPins c n.pins).limPlus = false →
          (axPins c n.pins).limMinus = false → u.cu.record =
            some { cond := .driveSaturated, tick := n.pg.tick, running := runningBlock n,
                   detail := match c with | .ax0 => 0 | .ax1 => 1 })) ∧
      ((-32767 ≤ out ∧ out ≤ 32767) ∨ a.satRun < 49 ∨ 50 ≤ a.satRun →
        u.cu.counts.getD (condNumber .driveSaturated) 0 =
          n.cu.counts.getD (condNumber .driveSaturated) 0)) ∧
    (a.drive ≠ .enabled →
      (getAx c u).driveCommand = 0 ∧ (getAx c u).satRun = 0 ∧ (getAx c u).followRun = 0)) ∧
  (condClass .followError = .stop ∧ condIn .followError latchedMask = true ∧
    condClass .driveSaturated = .hold ∧ condIn .driveSaturated latchedMask = true) ∧
  Int.tdiv (1024 * 6 + 512 * 2) 256 = 28 ∧
  (∀ (rest : Bool) (d : DriveState) (a : Axis), a.drive ≠ d →
    (setDrive rest d a).drive = d ∧ (setDrive rest d a).prevCorrected = a.corrected ∧
    (setDrive rest d a).driveChanged = true ∧
    (setDrive rest d a).driveCommand = 0 ∧ (setDrive rest d a).satRun = 0 ∧
    (setDrive rest d a).followRun = 0) ∧
  (∀ (c : Chan) (inputs : Pins) (s : State) (p : AxisParams), s.node.su.start = .configured →
    axParams c s.node = some p →
    completes (.motionTick inputs) s (fun t =>
      let a := getAx c s.node
      let x := getAx c t
      let dcc :=
        if a.drive = .enabled ∧ a.driveChanged = false then
          x.corrected - a.prevCorrected - a.markShift
        else 0
      x.drive = .enabled →
        x.corrected = x.commanded + x.lastComp ∧ x.prevCorrected = x.corrected ∧
        x.driveChanged = false ∧
        x.driveCommand = max (-32767) (min 32767
          (Int.tdiv (p.kp * (x.corrected - x.actual) + p.kf * dcc) 256))))

/-! ### Stamped frames -/

/-- R78, R95 to R98: the full stamp tick agrees with the stamp tick modulo 65,536 and lies within 32,768
ticks before and 32,767 after the capture's tick. The skew of a stamped frame from a timing node: above
200 µs with the chain at rest and a lower-numbered sender the node's time moves back by it; otherwise the
slew pending takes a quarter of it, clamped to ±64, and SYNC_SLIP is raised where it exceeds 200 µs on an
engaged path. A frame that gives no skew changes nothing. -/
def Obligations.StampTicksAndSkew : Prop :=
  (∀ (stamp : BitVec 16) (c : Tick),
    (fullStampTick stamp c).setWidth 16 = stamp ∧
    -32768 ≤ (fullStampTick stamp c - c).toInt ∧ (fullStampTick stamp c - c).toInt ≤ 32767) ∧
  (∀ (rx : Rx) (c : Moment) (st : Stamp) (n : Node),
    let k := skewOf c st
    let x := alignTime rx c st n
    (-32768000 ≤ k ∧ k ≤ 32767999) ∧
    (givesSkew rx.sender rx.own n = false → x = (n, c)) ∧
    (givesSkew rx.sender rx.own n = true → snaps rx.sender k n = false →
      x.2 = c ∧ x.1.pg.slew = max (-64) (min 64 (n.pg.slew - Int.tdiv k 4)) ∧
      x.1.pg.tick = n.pg.tick ∧ x.1.pg.phase = n.pg.phase ∧
      (200 < k.natAbs → engaged n = true → condIn .syncSlip x.1.cu.own = true) ∧
      (k.natAbs ≤ 200 → x.1.cu = n.cu)) ∧
    (givesSkew rx.sender rx.own n = true → snaps rx.sender k n = true →
      x.1.pg.slew = 0 ∧ x.1.pg.history = [] ∧
      momentMicros { tick := x.1.pg.tick, phase := x.1.pg.phase } % 4294967296000 =
        (momentMicros { tick := n.pg.tick, phase := n.pg.phase } - k) % 4294967296000))

/-- R78, R79, R49, R88, R94: an accepted HOLD, RESUME or OVERRIDE, or a PACE of another node, that lies in
its window is kept until the second tick after its full stamp tick, behind the frames kept before it, at a LIMITED
node too (assumption log 39); a HOLD or a RESUME outside its window is applied at once, and raises SYNC_SLIP where
the path was engaged before it (the model's choice, log 47: a late HOLD at velocity 0). The frames that a snap makes
due are applied before the frame is placed, and a HOLD's skew acts with the HOLD already among the kept frames, so that
R50's test finds it (both the model's choice, log 67), and the slip of a skew without a snap comes before the frame is
placed as well (log 96). R49, R50: at its apply tick a kept HOLD sets
the held flag and a kept RESUME clears it; the HOLD that a HOLD-class condition then asks for is a request and
leaves held clear. Nothing else changes, and without a kept frame of the kind nothing at all does. The rows take
the first kept frame of their kind, which leaves the kept frames (log 22). -/
def Obligations.StampedFramesAreKeptOrAppliedAtOnce : Prop :=
  (∀ (rx : Rx) (st : Stamp) (s : State),
    let aligned (p : Payload) (m : Node) : Node × Moment :=
      if p = .hold then
        alignTimeBy (beneath (keptOf rx (captureOf rx s.node) st .hold)) rx (captureOf rx s.node) st
          (holdWithdraw rx m)
      else alignTime rx (captureOf rx s.node) st m
    (∀ (p : Payload) (i : Instr),
      ((i = .hold rx st ∧ p = .hold) ∨ (i = .resume rx st ∧ p = .resume) ∨
        (∃ form value, i = .override rx st form value ∧ p = .override form value ∧
          (form = 0 ∨ form = 1)) ∨
        (∃ fl run el, i = .pace rx st fl run el ∧ p = .pace fl run el ∧ rx.own = false)) →
      frameCompletes i rx s (fun m t =>
        let x := aligned p m
        let full := fullStampTick st.tick x.2.tick
        windowOf (full + 2) x.2.tick x.1.pg.tick = .inTime →
          t.kept = x.1.kept ++
            [{ apply := full + 2, stamp := full, sender := rx.sender, own := rx.own, payload := p }])) ∧
    (frameCompletes (.hold rx st) rx s (fun m t =>
      let x := aligned .hold m
      windowOf (fullStampTick st.tick x.2.tick + 2) x.2.tick x.1.pg.tick ≠ .inTime →
        t.cu.held = true ∧ t.kept = x.1.kept ∧
        (engaged x.1 = true → condIn .syncSlip t.cu.own = true))) ∧
    (frameCompletes (.resume rx st) rx s (fun m t =>
      let x := aligned .resume m
      windowOf (fullStampTick st.tick x.2.tick + 2) x.2.tick x.1.pg.tick ≠ .inTime →
        t.cu.held = false ∧ t.kept = x.1.kept ∧
        (engaged x.1 = true → condIn .syncSlip t.cu.own = true)))) ∧
  (∀ s : State, loaded s.node = true →
    ((∃ k ∈ s.node.kept, k.payload = .hold) → completes .holdApply s (fun t =>
      t.cu.held = true ∧
      (∀ k, s.node.kept.find? (fun x => isHold x.payload) = some k → t.kept = s.node.kept.erase k) ∧
      onlyChanges [.held, .kept] s.node t)) ∧
    ((∃ k ∈ s.node.kept, k.payload = .resume) → completes .resumeApply s (fun t =>
      t.cu.held = false ∧
      (∀ k, s.node.kept.find? (fun x => isResume x.payload) = some k → t.kept = s.node.kept.erase k) ∧
      onlyChanges [.held, .kept] s.node t)) ∧
    ((∀ k ∈ s.node.kept, k.payload ≠ .hold) → completes .holdApply s (fun t => onlyChanges [] s.node t)) ∧
    ((∀ k ∈ s.node.kept, k.payload ≠ .resume) →
      completes .resumeApply s (fun t => onlyChanges [] s.node t)))

/-- R88, R94: at its apply tick (the row takes the first kept frame of its kind whatever its tick, the model's choice
of assumption log 22, and at a LIMITED node too, log 39) a knob OVERRIDE sets the knob value, above 150 taken as 150, and a clamp
OVERRIDE sets the clamp of the sender's node number, limited to 1 to 150; no other clamp changes. A PACE of
another node is compared with the pace history: on an engaged path an entry of its full stamp tick with
another block or other elapsed ticks raises SYNC_SLIP; otherwise nothing changes but the kept frames, as with
no entry of that tick and with the node's own PACE. R79: a late or early OVERRIDE, GO or PACE of another node
is applied at once and not kept, after the frames that its snap makes due (the model's choice, log 67) and after the slip
of a skew that makes none (log 96), and SYNC_SLIP
is raised where the path was engaged before it (assumption log 47); a GO then commits the head as a kept one does, or is discarded with SYNC_SLIP, its stamp kept in the
entry (log 30). A PACE of the node itself does nothing. R45, R50: a HOLD-class raising with held clear and no
HOLD on its way asks for a HOLD, and otherwise does what every raising does. -/
def Obligations.OverrideAndPaceApply : Prop :=
  (∀ (s : State) (k : Kept) (value : Byte), loaded s.node = true →
    s.node.kept.find? (fun x => isOverride x.payload) = some k →
    (k.payload = .override 0 value → completes .overrideApply s (fun t =>
      t.pg = { s.node.pg with knob := min value.toNat 150 } ∧
      t.kept = s.node.kept.erase k ∧ onlyChanges [.kept, .path] s.node t)) ∧
    (k.payload = .override 1 value → completes .overrideApply s (fun t =>
      t.pg = { s.node.pg with
        clamps := s.node.pg.clamps.set k.sender.val (max 1 (min 150 value.toNat)) } ∧
      t.kept = s.node.kept.erase k ∧ onlyChanges [.kept, .path] s.node t))) ∧
  (∀ (s : State) (k : Kept) (fl : Byte) (run : BlockNo) (el : BitVec 16), loaded s.node = true →
    s.node.kept.find? (fun x => isPace x.payload) = some k → k.payload = .pace fl run el →
    let agrees (h : PaceEntry) : Bool := paceAgrees h (if fl.getLsbD 0 then some run else none) el
    completes .paceApply s (fun t =>
      t.kept = s.node.kept.erase k ∧ onlyChanges [.kept, .conds] s.node t ∧
      (k.own = true ∨ engaged s.node = false → onlyChanges [.kept] s.node t) ∧
      (k.own = false → ∀ h, s.node.pg.history.find? (fun e => e.tick == k.stamp) = some h →
        (engaged s.node = true → agrees h = false → condIn .syncSlip t.cu.own = true) ∧
        (agrees h = true → onlyChanges [.kept] s.node t)) ∧
      ((∀ h ∈ s.node.pg.history, h.tick ≠ k.stamp) → onlyChanges [.kept] s.node t))) ∧
  (∀ (rx : Rx) (st : Stamp) (s : State),
    let outside (x : Node × Moment) : Prop :=
      windowOf (fullStampTick st.tick x.2.tick + 2) x.2.tick x.1.pg.tick ≠ .inTime
    let slips (x t : Node) : Prop := engaged x = true → condIn .syncSlip t.cu.own = true
    (∀ (form value : Byte), frameCompletes (.override rx st form value) rx s (fun m t =>
      let x := alignTime rx (captureOf rx s.node) st m
      outside x → form = 0 ∨ form = 1 →
        t.pg = (if form = 0 then { x.1.pg with knob := min value.toNat 150 }
          else { x.1.pg with
            clamps := x.1.pg.clamps.set rx.sender.val (max 1 (min 150 value.toNat)) }) ∧
        t.kept = x.1.kept ∧ slips x.1 t ∧
        onlyChanges [.path, .pendant, .conds] x.1 t ∧
        (engaged x.1 = false → onlyChanges [.path, .pendant] x.1 t))) ∧
    (∀ (fl : Byte) (run : BlockNo) (el : BitVec 16),
      frameCompletes (.pace rx st fl run el) rx s (fun m t =>
        let x := alignTime rx (captureOf rx s.node) st m
        (rx.own = true → onlyChanges [] x.1 t) ∧
        (rx.own = false → outside x → t.kept = x.1.kept ∧ slips x.1 t ∧
          onlyChanges [.conds] x.1 t ∧ (engaged x.1 = false → onlyChanges [] x.1 t)))) ∧
    (∀ num : BlockNo, frameCompletes (.go rx st num) rx s (fun m t =>
      let x := alignTime rx (captureOf rx s.node) st (goWithdraw rx num m)
      let full := fullStampTick st.tick x.2.tick
      goCase num x.1 = .kept → outside x →
        t.kept = x.1.kept ∧ slips x.1 t ∧
        (∀ e, evaluatedHead x.1 = some e → e.fields.isSome = true →
          (x.1.cu.stopped = false → e.orphan = false →
            ∃ c, t.bq.entries.find? (fun y => y.num == num) = some c ∧ c.state = .committed ∧
              c.goStamp = some full ∧
              c.start = (if chainAtRest x.1 then
                  StartTick.at (if later (full + 4) x.1.pg.tick then full + 4 else x.1.pg.tick + 1)
                else .afterPredecessor)) ∧
          (x.1.cu.stopped = true ∨ e.orphan = true →
            condIn .syncSlip t.cu.own = true ∧ onlyChanges [.blocks, .conds] x.1 t ∧
            evaluatedHead t = some { e with goStamp := some full }))))) ∧
  (∀ (c : Cond) (d : Byte) (n : Node), condClass c = .hold →
    (n.cu.held = false → txHas isHold n = false → keptHold n = false → hasRoom n →
      waiting .hold (raiseHold c d n)) ∧
    (n.cu.held = true ∨ txHas isHold n = true ∨ keptHold n = true →
      raiseHold c d n = raiseCommon c d n))

/-! ### Blocks -/

/-- R57 to R60: what an accepted BLOCK does at a CONFIGURED node that does not turn it away. A number that
is the expected one, or any number while "any" is expected, is taken: a new entry at the end, INVALID where
the form is bad and the expected number one on (no entry carrying the number yet). A number 1 to 32 behind the expected one is a duplicate and
changes nothing. Any other number raises SEQUENCE_GAP and leaves the queue and the expected number. With all
sixteen entries in use a node on the line turns away a BLOCK of another node that it would have to take: it
drives the busy bit, does not accept the frame and leaves its queue; it can take every other BLOCK. -/
def Obligations.BlockAcceptance : Prop :=
  ∀ (rx : Rx) (b : BlockBody) (s : State), s.node.su.start = .configured →
    joins rx.lead.val s.node = true →
    (turnsAway rx b.num s.node = false → slotClear rx s.node = true → completes (.block rx b) s (fun t =>
      let m := accepted rx s.node
      (takesNumber b.num m.bq = true → m.bq.entries.length < 16 →
        (∀ x ∈ m.bq.entries, x.num ≠ b.num) →
        t.bq.entries.length = m.bq.entries.length + 1 ∧ t.bq.expected = some (b.num + 1) ∧
        (∃ e, t.bq.entries.getLast? = some e ∧ e.num = b.num ∧
          (blockGoodForm b = true →
            e.fields = some (blockFields b) ∧ (e.state = .queued ∨ e.state = .evaluated)) ∧
          (blockGoodForm b = false → e.fields = none ∧ e.state = .invalid)) ∧
        t.bq.last = m.bq.last) ∧
      (takesNumber b.num m.bq = false → isDuplicate b.num m.bq = true → onlyChanges [] m t) ∧
      (takesNumber b.num m.bq = false → isDuplicate b.num m.bq = false →
        condIn .sequenceGap t.cu.own = true ∧ onlyChanges [.conds] m t))) ∧
    (s.node.bq.entries.length < 16 ∨ takesNumber b.num s.node.bq = false →
      turnsAway rx b.num s.node = false) ∧
    (16 ≤ s.node.bq.entries.length → takesNumber b.num s.node.bq = true → fromPeer rx s.node = true →
      onLine s.node.lc.state = true →
      completes (.block rx b) s (fun t =>
        t.lc.slotBusy = true ∧ t.lc.capture = none ∧ onlyChanges [.line, .path] s.node t))

/-- R60, R105: the resolution of a component. An invalid frame record leaves it unresolved with
FRAME_INVALID and an exact target outside the signed 32-bit range with TRAVEL, both without moving the
planned end; otherwise it starts at the planned end, which moves to the target. The path command starts at
S, lies between S and the target all along the block, and is the target exactly where the path position
reaches the block's length (R104). R105: an OFFSET writes record 1 to 31 of the channel its axis is mapped to:
the offset, the mirror and valid flags and the travel window, with valid clear where the window's low end lies
above its high end; frame number 0 and those above 31 write nothing, and so does an axis with no channel here. -/
def Obligations.ComponentResolutionAndPathCommand : Prop :=
  (∀ (sel : Nat) (x : Int) (a : Axis) (r : FrameRec), a.frames[sel]? = some r →
    let m := (if r.mirror then -x else x) + r.offset
    (r.valid = false → resolveComp sel x a = (.unresolved .frameInvalid, a.planned)) ∧
    (r.valid = true → (m < -2147483648 ∨ 2147483647 < m) →
      resolveComp sel x a = (.unresolved .travel, a.planned)) ∧
    (r.valid = true → -2147483648 ≤ m → m ≤ 2147483647 →
      ∃ w, resolveComp sel x a = (.resolved a.planned m w, m) ∧
        (w = true ↔ ∀ lo hi, r.window = some (lo, hi) → lo ≤ m ∧ m ≤ hi))) ∧
  (∀ (s t : Int) (p l : Nat), 0 < l → p ≤ l →
    pathCommand s t 0 l = s ∧ pathCommand s t l l = t ∧
    min s t ≤ pathCommand s t p l ∧ pathCommand s t p l ≤ max s t) ∧
  (∀ (rx : Rx) (b : OffsetBody) (s : State), frameCompletes (.offset rx b) rx s (fun m t =>
      (∀ c p, chanOf b.axis.toNat m = some (c, p) → 1 ≤ b.frameNo.toNat → b.frameNo.toNat ≤ 31 →
        (getAx c t).frames = (getAx c m).frames.set b.frameNo.toNat
          { offset := b.offset.toInt, mirror := b.flags.getLsbD 0,
            valid := b.flags.getLsbD 1 &&
              !(b.flags.getLsbD 2 && decide (b.winHigh.toInt < b.winLow.toInt)),
            window := if b.flags.getLsbD 2 then some (b.winLow.toInt, b.winHigh.toInt) else none } ∧
        { getAx c t with frames := [] } = { getAx c m with frames := [] } ∧
        onlyChanges [chanPart c] m t) ∧
      (chanOf b.axis.toNat m = none ∨ b.frameNo.toNat = 0 ∨ 31 < b.frameNo.toNat →
        onlyChanges [] m t)))

/-- R67, R68, R186: a READY with listed codes from a participant, for the EVALUATED head, replaces that
participant's verdict, and a REFUSE raises BLOCK_REFUSED; a READY that fails a test, or carries a code
outside its list, leaves the queue and the conditions as they are. A ceiling outside 1 to 150 counts as such a
code: the model's reading, assumption log 9. -/
def Obligations.ReadyRecordsTheVerdict : Prop :=
  ∀ (rx : Rx) (num : BlockNo) (verdict arg : Byte) (s : State),
    frameCompletes (.ready rx num verdict arg) rx s (fun m t =>
      (∀ v e, verdictOf verdict arg = some v → evaluatedHead m = some e → e.num = num →
        (participants e).contains rx.sender.val = true →
        (∃ e', t.bq.entries.find? (fun x => x.num == num && uncommitted x) = some e' ∧
          recordedVerdict rx.sender.val e' = some v) ∧
        ((∃ r, v = .refuse r) → condIn .blockRefused t.cu.own = true) ∧
        onlyChanges [.blocks, .conds] m t) ∧
      ((verdictOf verdict arg = none ∨ evaluatedHead m = none ∨
          ∃ e, evaluatedHead m = some e ∧
            (e.num ≠ num ∨ (participants e).contains rx.sender.val = false)) →
        onlyChanges [] m t))

/-- R70: what an accepted GO finds, the node given as the skew of the frame leaves it, with the frames that a snap
makes due applied (the model's choice, assumption logs 67 and 96). For an EVALUATED head
without an accepted GO it is kept, in its window, and the entry takes its full stamp tick. For an entry that
stands behind the head, and for an INVALID head, SEQUENCE_GAP is raised with the low byte of the number, and the
GO is dropped. For a COMMITTED or RUNNING entry, the last completed block, an entry with an accepted GO and a
number that no entry carries, nothing happens; such a GO raises no SYNC_SLIP for being late or early (the model's
reading, assumption log 30). The last completed block's number counts so even where the EVALUATED head, sent again
after a FLUSH, carries it too, when two rows of R70 fit (the model's choice, assumption log 72). -/
def Obligations.GoAcceptanceCases : Prop :=
  ∀ (rx : Rx) (st : Stamp) (num : BlockNo) (s : State),
    frameCompletes (.go rx st num) rx s (fun m t =>
      let x := alignTime rx (captureOf rx s.node) st (goWithdraw rx num m)
      let full := fullStampTick st.tick x.2.tick
      let gap : Prop := condIn .sequenceGap t.cu.own = true ∧ onlyChanges [.conds] x.1 t ∧
        (x.1.cu.record = none → t.cu.record =
          some { cond := .sequenceGap, tick := x.1.pg.tick, running := runningBlock x.1,
                 detail := num.setWidth 8 })
      ((∀ e ∈ x.1.bq.entries, e.num ≠ num) → onlyChanges [] x.1 t) ∧
      (∀ e, x.1.bq.entries.find? (fun y => y.num == num) = some e →
        let duplicate := e.state = .committed ∨ e.state = .running ∨ x.1.bq.last = some num ∨
          e.goStamp.isSome = true
        (duplicate → onlyChanges [] x.1 t) ∧
        (¬duplicate → headNum x.1 ≠ some num → gap) ∧
        (¬duplicate → headNum x.1 = some num → e.state = .invalid → gap) ∧
        (¬duplicate → evaluatedHead x.1 = some e →
          windowOf (full + 2) x.2.tick x.1.pg.tick = .inTime →
          t.kept = x.1.kept ++ [{ apply := full + 2, stamp := full, sender := rx.sender,
                                  own := rx.own, payload := .go num }] ∧
          evaluatedHead t = some { e with goStamp := some full } ∧
          onlyChanges [.kept, .blocks] x.1 t)))

/-- R70, R71: at its apply tick a kept GO commits the EVALUATED head, with the smallest READY ceiling among
its verdicts, 150 where none is recorded here (the model's choice, assumption log 61), and a start tick: without a
predecessor the later of G + 4 and the tick after the present one, and otherwise "after predecessor". The records in
force take the entry's fields that are not "unchanged", the range also where it is given without a speed (the model's
reading, assumption log 37), START_STALL clears, and the head wait timer is preset. The
next head, the first uncommitted entry behind it, is evaluated where it is QUEUED; every other entry stands. Each channel's motion leaves IDLE, the marks
that a head keeps clear, and the units change in nothing else but the coolant demands and the manual speed record.
Where the STOPPED latch is set or the entry is orphaned the GO is discarded with SYNC_SLIP and the entry stays
EVALUATED, its GO stamp kept (the model's choice, assumption log 30). Either way the GO leaves the kept frames, and
so does one whose entry is not the EVALUATED head, which does nothing else. The row applies the first kept GO
whatever the tick, and does nothing where none is kept (log 22). -/
def Obligations.GoApplyCommitsTheHead : Prop :=
  (∀ (s : State) (k : Kept) (e : Entry) (f : BlockFields), loaded s.node = true →
    s.node.kept.find? (fun x => isGo x.payload) = some k → k.payload = .go e.num →
    evaluatedHead s.node = some e → e.fields = some f →
    (s.node.cu.stopped = false → e.orphan = false →
      completes .goApply s (fun t =>
        let n := s.node
        let c := { e with
          state := .committed, verdicts := [], goStamp := some k.stamp
          ceiling := (e.verdicts.filterMap fun v => match v.2 with
            | .ready x => some x | _ => none).foldl min 150
          start := (if chainAtRest n then
              StartTick.at (if later (k.stamp + 4) n.pg.tick then k.stamp + 4 else n.pg.tick + 1)
            else .afterPredecessor) }
        t.kept = n.kept.erase k ∧
        t.bq.entries.find? (fun x => x.num == e.num) =
          (n.bq.entries.find? (fun x => x.num == e.num)).map (fun x =>
            { x with state := c.state, ceiling := c.ceiling, verdicts := [], goStamp := c.goStamp,
                     start := c.start }) ∧
        (∀ before after, n.bq.entries = before ++ e :: after → (∀ x ∈ before ++ after, x.num ≠ e.num) →
          ((∀ h, after.find? uncommitted = some h → h.state ≠ .queued ∨ h.fields = none) →
            t.bq.entries = before ++ c :: after) ∧
          (∀ mid h rest, after = mid ++ h :: rest → (∀ x ∈ mid, inChain x = true) →
            h.state = .queued → h.fields.isSome = true →
            (∀ x ∈ before ++ mid ++ rest, x.num ≠ h.num) →
            ∃ g, t.bq.entries = before ++ c :: (mid ++ g :: rest) ∧ g.state = .evaluated ∧
              g.num = h.num ∧ g.fields = h.fields ∧ g.rec0 = h.rec0 ∧ g.rec1 = h.rec1)) ∧
        { t.bq with entries := [] } = { n.bq with
          entries := [], headTimer := n.par.headWait,
          spindleForce := if f.spindle.isSome then f.spindle else n.bq.spindleForce,
          rangeForce := if f.spindle.isSome || (1 ≤ f.gear && f.gear ≤ 4) then some f.gear
            else n.bq.rangeForce,
          coolantForce := if f.coolant.isSome then f.coolant else n.bq.coolantForce } ∧
        condIn .startStall t.cu.own = false ∧
        (∀ x, x ≠ .startStall → x ≠ .txqOverflow → condIn x t.cu.own = condIn x n.cu.own) ∧
        (∀ x : Chan, getAx x t = { getAx x n with
          abandoned := false
          motion := if (axParams x n).isSome ∧ (getAx x n).motion = .idle then .chain
            else (getAx x n).motion }) ∧
        { t.sg with driveCmd := 0 } = { n.sg with manualStop := false, driveCmd := 0 } ∧
        { t.cl with demand := .empty } = { n.cl with demand := .empty, manualOff := .empty } ∧
        { t.pd with manual := none } = { n.pd with manual := none } ∧
        onlyChanges [.kept, .blocks, .conds, .channel0, .channel1, .spindle, .coolant, .pendant] n t)) ∧
    ((s.node.cu.stopped = true ∨ e.orphan = true) →
      completes .goApply s (fun t =>
        t.kept = s.node.kept.erase k ∧ condIn .syncSlip t.cu.own = true ∧ evaluatedHead t = some e ∧
        onlyChanges [.kept, .conds] s.node t))) ∧
  (∀ s : State, loaded s.node = true →
    (s.node.kept.find? (fun x => isGo x.payload) = none →
      completes .goApply s (fun t => onlyChanges [] s.node t)) ∧
    (∀ k num, s.node.kept.find? (fun x => isGo x.payload) = some k → k.payload = .go num →
      (∀ e, evaluatedHead s.node = some e → e.num ≠ num) →
      completes .goApply s (fun t => t.kept = s.node.kept.erase k ∧ onlyChanges [.kept] s.node t)))

/-- R72, R53: at the expiry of the head wait timer, where it counts, START_STALL is raised and the timer
stands at 0; a timer that does not count has no expiry. At the end of the STATE period a node that reports
asks for a STATE whose contents are taken then, with its timer at 0, also between a line-off recovery and the acceptance
of the joining ANNOUNCE (the model's choice, assumption log 93); nothing else changes. -/
def Obligations.TimersThatReport : Prop :=
  ∀ s : State, loaded s.node = true →
    (headTimerRuns s.node = true → completes .headWaitExpiry s (fun t =>
      t.bq.headTimer = 0 ∧ t.bq.entries = s.node.bq.entries ∧
      condIn .startStall t.cu.own = true ∧ onlyChanges [.blocks, .conds] s.node t)) ∧
    (headTimerRuns s.node = false → completes .headWaitExpiry s (fun t => onlyChanges [] s.node t)) ∧
    completes .statePeriod s (fun t =>
      onlyChanges [] s.node t ∧
      (s.node.nt.stateRunning = true → t.nt.stateTimer = 0 ∧ t.nt.lastKey = some (reportKey s.node) ∧
        (onLine s.node.lc.state = true → s.node.lc.queue = [] →
          waiting (.state (stateBody s.node)) t)))

/-- R73: an accepted FLUSH removes every uncommitted entry, and the chain as well where the node is held
with the path at velocity 0, when a RUNNING entry leaves the path; a kept GO of a removed entry is discarded and
the node's READY and GO for it withdrawn: a pending one leaves, and one in transmission is marked to leave if its
attempt does not succeed (R14; the model's reading, assumption log 19, R73 naming pending ones). Each planned end becomes the commanded position where no entry is left,
and otherwise the target of the last entry left that lists the axis. It clears SEQUENCE_GAP, PEER_REJOINED and
BLOCK_REFUSED, makes the records in force unknown, presets the head wait timer and leaves the held flag and the
last completed block. With no mode adoption waiting it sets the expected number: the FLUSH's where nothing is left
or where it is ahead of the last remaining number, and otherwise one on from that number. -/
def Obligations.FlushEmptiesTheQueue : Prop :=
  ∀ (rx : Rx) (flags : Byte) (num : BlockNo) (s : State), s.node.su.start = .configured →
    frameCompletes (.flush rx flags num) rx s (fun m t =>
      let stays (e : Entry) : Bool := inChain e && !(m.cu.held && pathVelocity m == 0)
      t.bq.entries = m.bq.entries.filter stays ∧
      ((∃ e ∈ m.bq.entries, inChain e = true ∧ stays e = false) → t.pg.run = none) ∧
      (∀ k, k ∈ t.kept ↔ k ∈ m.kept ∧ ∀ g, k.payload = .go g → ∃ e ∈ t.bq.entries, e.num = g) ∧
      (∀ e ∈ m.bq.entries, stays e = false → ∀ x ∈ t.lc.queue,
        isReadyFor e.num x.payload = true ∨ isGoFor e.num x.payload = true →
        x.inTx = true ∧ x.doomed = true) ∧
      (∀ c : Chan,
        let record (e : Entry) : Option AxisRec := match c with | .ax0 => e.rec0 | .ax1 => e.rec1
        (t.bq.entries = [] → (getAx c t).planned = (getAx c m).commanded) ∧
        (∀ before e after from' target w, t.bq.entries = before ++ e :: after →
          record e = some (.resolved from' target w) →
          (∀ y ∈ after, ∀ a b d, record y ≠ some (.resolved a b d)) → (getAx c t).planned = target) ∧
        ((∀ y ∈ t.bq.entries, ∀ a b d, record y ≠ some (.resolved a b d)) →
          (getAx c t).planned = (getAx c m).commanded)) ∧
      condIn .sequenceGap t.cu.own = false ∧ condIn .peerRejoined t.cu.own = false ∧
      condIn .blockRefused t.cu.own = false ∧ t.bq.spindleForce = none ∧
      t.bq.rangeForce = none ∧ t.bq.coolantForce = none ∧ t.bq.headTimer = m.par.headWait ∧
      t.cu.held = m.cu.held ∧ t.bq.last = m.bq.last ∧
      (condIn .modeSwitch m.cu.own = false →
        t.bq.expected =
          match t.bq.entries.getLast? with
          | none => if flags.getLsbD 0 then none else some num
          | some l =>
            if flags.getLsbD 0 = false ∧ ahead num l.num = true then some num
            else some (l.num + 1)))

/-- R52, R75: with MODE_SWITCH set, the node held and the path at velocity 0, the source mode is adopted:
the queue is emptied, the expected number becomes "any" and MODE_SWITCH clears; otherwise nothing
changes. -/
def Obligations.ModeAdoptionEmptiesTheQueue : Prop :=
  ∀ s : State, loaded s.node = true →
    (adoptionDue s.node = true → completes .modeAdoptionAtRest s (fun t =>
      t.nt.mode = s.node.nt.sourceMode ∧ t.bq.entries = [] ∧ t.bq.expected = none ∧
      condIn .modeSwitch t.cu.own = false ∧ t.cu.held = s.node.cu.held)) ∧
    (adoptionDue s.node = false → completes .modeAdoptionAtRest s (fun t => onlyChanges [] s.node t))

/-- R64, R65, R123, R136, R156, R66, R69: the judgement of the head, the verdict and the requests that follow
it. A channel gives, of a resolved component, the first row of R123 that applies, and of an unresolved one a
REFUSE with its reason; a correction is invalid on the way exactly where some position from S to the target lies
in an invalid segment. The spindle unit gives the first row of R136, with its target settled in the range of the
entry or the automatic one, but WAIT SPINDLE_SPEED while the manual stop mark is set (R137, assumption log 48);
the coolant unit the first row of R156. The node's verdict is a REFUSE where a unit refuses, otherwise a WAIT
where one waits, with the reason first in the table, and otherwise READY with the smallest ceiling, at most 150.
At the tick a participant of the EVALUATED head asks for a READY where the verdict differs from the one last
asked for, or where its recorded one differs and none waits. A GO candidate asks for its GO unless one waits,
and a node that is none withdraws its pending one. -/
def Obligations.HeadJudgementVerdictAndGo : Prop :=
  (∀ (p : AxisParams) (a : Axis) (f : BlockFields) (s t : Int) (w : Bool),
    let d := t - s
    let v := axisJudge p a f s t w
    let travel := t < p.winLow ∨ p.winHigh < t ∨ w = false ∨ (0 < d ∧ a.markPlus = true) ∨
      (d < 0 ∧ a.markMinus = true)
    let gap := a.referenced = true ∧ crossesGap p a s t = true
    let ceiling := min (100 * p.vmax * f.len / (f.feed * d.natAbs)) 150
    let rated := d ≠ 0 ∧ 0 < f.len
    let slow := rated ∧ p.amax * f.len < f.acc * d.natAbs
    let idle := a.drive = .enabled ∧ a.motion ≠ .jog ∧ a.motion ≠ .reference
    let shut := p.clampFitted = true ∧ d ≠ 0 ∧ a.clamp ≠ .unclamped
    (travel → v = .refuse .travel) ∧
    (¬travel → gap → v = .refuse .compGap) ∧
    (¬travel → ¬gap → a.referenced = false → v = .refuse .unreferenced) ∧
    (¬travel → ¬gap → a.referenced = true →
      (slow → v = .refuse .axisAccel) ∧
      (¬slow → rated → ceiling = 0 → v = .refuse .axisSpeed) ∧
      (¬slow → ¬rated ∨ ceiling ≠ 0 →
        (¬idle → v = .wait .driveOff) ∧
        (idle → shut → v = .wait .unclamping) ∧
        (idle → ¬shut → rated → v = .ready (some ceiling)) ∧
        (idle → ¬shut → ¬rated → v = .ready none))) ∧
    (∀ seg : Nat, p.seg = some seg → 0 < seg →
      (crossesGap p a s t = true ↔ ∃ x : Int, min s t ≤ x ∧ x ≤ max s t ∧
        cellValid a (compCell seg a (x - p.compOrigin)) = false))) ∧
  (∀ (c : Chan) (e : Entry) (n : Node) (p : AxisParams) (f : BlockFields),
    axParams c n = some p → e.fields = some f →
    (recFor c e = none → chanJudge c e n = none) ∧
    (∀ r, recFor c e = some (.unresolved r) → chanJudge c e n = some (.refuse r)) ∧
    (∀ s t w, recFor c e = some (.resolved s t w) →
      chanJudge c e n = some (axisJudge p (getAx c n) f s t w))) ∧
  (∀ (p : SpindleParams) (f : BlockFields) (n : Node),
    let sg := n.sg
    let x := spindleTarget p f sg
    let v := spindleJudge p f n
    let q : Option SpeedDir := match f.spindle with
      | some y => if y.rpm = 0 then none else some { rpm := y.rpm, ccw := y.ccw }
      | none => sg.request
    let unsettled := sg.request ≠ x.request ∨ (x.request.isSome = true ∧ sg.atSpeed = false) ∨
      (x.request = none ∧ sg.spindle ≠ .stopped)
    (q = none → x.request = none ∧ x.range = gearOfNumber f.gear ∧ x.clamped = false) ∧
    (∀ y, q = some y →
      let r := (gearOfNumber f.gear).getD (autoRange p y.rpm)
      x.range = some r ∧ x.clamped = decide ((rangeOf p r).max < y.rpm) ∧
      x.request = keptRequest (min y.rpm (rangeOf p r).max) y.ccw) ∧
    (sg.manualStop = true → v = .wait .spindleSpeed) ∧
    (sg.manualStop = false → sg.gear = .gearFault → v = .refuse .gearFault) ∧
    (sg.manualStop = false → sg.gear ≠ .gearFault →
      (chainAtRest n = false → v = .wait .chainBusy) ∧
      (chainAtRest n = true → (∃ r, x.range = some r ∧ sg.gear ≠ .engaged r) → v = .wait .shifting) ∧
      (chainAtRest n = true → (∀ r, x.range = some r → sg.gear = .engaged r) →
        (unsettled → v = .wait .spindleSpeed) ∧ (¬unsettled → v = .ready none)))) ∧
  (∀ (p : CoolantParams) (k : CircSet) (n : Node),
    let v := coolantJudge p k n
    let proven (x : Circ) : Prop := circState x n.cl = .proven ∨ (x = .tsc ∧ n.cl.tsc = .degraded)
    let broken := ∃ x, inCirc x k = true ∧ circState x n.cl = .fault
    let early := k.tsc = true ∧ ¬proven .tsc ∧ spindleView n < p.tscMin
    let dry := ((k.flood = true ∧ ¬proven .flood) ∨ (k.tsc = true ∧ ¬proven .tsc)) ∧
      condIn .tankLow n.cu.own = true
    let starting := ∃ x, inCirc x k = true ∧ ¬proven x
    (broken → v = .refuse .noCircuit) ∧ (¬broken → early → v = .wait .spindleSpeed) ∧
    (¬broken → ¬early → dry → v = .wait .tankLow) ∧
    (¬broken → ¬early → ¬dry → starting → v = .wait .coolantStart) ∧
    (¬broken → ¬early → ¬dry → ¬starting → v = .ready none)) ∧
  (∀ us : List UnitVerdict,
    ((∃ r, UnitVerdict.refuse r ∈ us) → ∃ r, verdictFrom us = .refuse r ∧ .refuse r ∈ us ∧
      ∀ x, UnitVerdict.refuse x ∈ us → refuseCode r ≤ refuseCode x) ∧
    ((∀ r, UnitVerdict.refuse r ∉ us) → (∃ r, UnitVerdict.wait r ∈ us) →
      ∃ r, verdictFrom us = .wait r ∧ .wait r ∈ us ∧
        ∀ x, UnitVerdict.wait x ∈ us → waitCode r ≤ waitCode x) ∧
    ((∀ r, UnitVerdict.refuse r ∉ us) → (∀ r, UnitVerdict.wait r ∉ us) →
      ∃ k, verdictFrom us = .ready k ∧ k ≤ 150 ∧ (k = 150 ∨ .ready (some k) ∈ us) ∧
        ∀ x, UnitVerdict.ready (some x) ∈ us → k ≤ x)) ∧
  (∀ (e : Entry) (n : Node),
    (∀ u, u ∈ unitVerdicts e n ↔
      chanJudge .ax0 e n = some u ∨ chanJudge .ax1 e n = some u ∨
      (fills .spindle e n = true ∧ ∃ p f, n.par.spindle = some p ∧ e.fields = some f ∧
        u = spindleJudge p f n) ∨
      (fills .coolant e n = true ∧ ∃ p f, n.par.coolant = some p ∧ e.fields = some f ∧
        u = coolantJudge p (f.coolant.getD .empty) n))) ∧
  (∀ n : Node,
    let u := verdictTick n
    (∀ e, evaluatedHead n = some e → participates e n = true →
      let v := verdictFrom (unitVerdicts e n)
      let unsent := e.lastAsked ≠ some v ∨ (recordedVerdict (me n) e ≠ some v ∧
        ∀ x ∈ n.lc.queue, isReadyFor e.num x.payload = false)
      (unsent → evaluatedHead u = some { e with lastAsked := some v } ∧
        onlyChanges [.blocks] n u ∧
        (hasRoom n → waiting (.ready e.num (verdictBytes v).1 (verdictBytes v).2) u)) ∧
      (¬unsent → u = n)) ∧
    ((∀ e, evaluatedHead n = some e → participates e n = false) → u = n)) ∧
  (∀ n : Node,
    let u := goTest n
    (∀ e, evaluatedHead n = some e →
      let candidate := participates e n = true ∧
        (∀ i ∈ participants e, ∃ k, recordedVerdict i e = some (.ready k)) ∧ e.orphan = false ∧
        n.nt.mode = .auto ∧ n.cu.held = false ∧ hasHold (machineConds n) = false ∧
        hasStop (machineConds n) = false ∧ n.cu.stopped = false ∧ e.goStamp = none
      (candidate → (∃ x ∈ n.lc.queue, isGoFor e.num x.payload = true) → u = n) ∧
      (candidate → (∀ x ∈ n.lc.queue, isGoFor e.num x.payload = false) →
        onlyChanges [] n u ∧ (hasRoom n → waiting (.go e.num) u)) ∧
      (¬candidate → (∀ x ∈ u.lc.queue, isGoFor e.num x.payload = true → x.inTx = true) ∧
        (∀ x ∈ n.lc.queue, isGoFor e.num x.payload = false → x ∈ u.lc.queue) ∧ onlyChanges [] n u)) ∧
    (evaluatedHead n = none → u = n))

/-! ### Conditions and the stop -/

/-- R45, R181, R182: a raising puts the condition into the own set, whatever its class; its count rises by 1
up to 255, where the overflow flag is set instead; and the fault record takes it where the record is empty
or the class strictly more severe. A STOP-class raising sets the STOPPED latch and leaves a STOPALL owed; the
spindle request becomes "stopped", the coolant demands go off and an ENABLING drive becomes DISABLED where
the latch was clear; the held flag, the block queue, the path, the node table, the pendant unit and the
inputs are left alone (R177, R178). The speed command becomes 0 with the request (R130, R145), at the raising itself and
not at the next motion tick by the model's reading, assumption log 32. -/
def Obligations.RaisingAConditionAndTheLatch : Prop :=
  (∀ (c : Cond) (d : Byte) (tick : Tick) (run : Option BlockNo) (cu : CU), cu.counts.length = 30 →
    let u := raisedCU c d tick run cu
    let k := cu.counts.getD (condNumber c) 0
    condIn c u.own = true ∧ (∀ x, x ≠ c → condIn x u.own = condIn x cu.own) ∧
    (k < 255 → u.counts.getD (condNumber c) 0 = k + 1 ∧ u.overflow = cu.overflow) ∧
    (k = 255 → u.counts.getD (condNumber c) 0 = 255 ∧ condIn c u.overflow = true) ∧
    (∀ i, i ≠ condNumber c → u.counts.getD i 0 = cu.counts.getD i 0) ∧
    (cu.record = none →
      u.record = some { cond := c, tick := tick, running := run, detail := d }) ∧
    (∀ r, cu.record = some r →
      u.record = (if classRank c < classRank r.cond then
          some { cond := c, tick := tick, running := run, detail := d } else some r)) ∧
    u.held = cu.held ∧ u.stopped = cu.stopped) ∧
  (∀ (c : Cond) (d : Byte) (n : Node), condClass c = .stop →
    let m := raiseStop c d n
    condIn c m.cu.own = true ∧ m.cu.stopped = true ∧ m.cu.owed = true ∧
    (n.cu.stopped = false → n.par.spindle.isSome = true → m.sg.request = none ∧ m.sg.command = 0) ∧
    (n.cu.stopped = false → n.par.coolant.isSome = true → m.cl.demand = .empty) ∧
    (n.cu.stopped = false → n.par.axis0.isSome = true → n.ax0.drive = .enabling →
      m.ax0.drive = .disabled) ∧
    (n.cu.stopped = false → n.par.axis1.isSome = true → n.ax1.drive = .enabling →
      m.ax1.drive = .disabled) ∧
    onlyChanges stopParts n m)

/-- R176: an open stop chain input raises STOP_INPUT and sets the latch as the reading becomes open; the
reading becomes closed with STOP_INPUT cleared, and the latch stays set. -/
def Obligations.StopChainOpenAndClosed : Prop :=
  ∀ s : State, loaded s.node = true →
    (s.node.cu.chainOpen = false → completes .stopChainOpen s (fun t =>
      t.cu.chainOpen = true ∧ t.cu.chainRun = 0 ∧ condIn .stopInput t.cu.own = true ∧
      t.cu.stopped = true ∧ t.pins.chainOpen = true ∧ onlyChanges (.pins :: stopParts) s.node t)) ∧
    (s.node.cu.chainOpen = true → completes .stopChainClosed s (fun t =>
      t.cu.chainOpen = false ∧ condIn .stopInput t.cu.own = false ∧
      t.cu.stopped = s.node.cu.stopped ∧ t.pins.chainOpen = false ∧
      onlyChanges [.conds, .stopInfo, .pins] s.node t))

/-- R178, R49, R16, R92, R124, R164: an accepted STOPALL sets the STOPPED latch and the held flag and clears
the owed mark. Its purge leaves no pending class-1 or class-2 frame in the node's transmit queue but the clamp
OVERRIDE of 150 that a TSC leaving DEGRADED as the latch becomes set asks for, which waits because the queue is purged
before the units react (the model's choice, assumption log 56); and one in transmission is marked to leave if its attempt
fails (R16), at a contention loss and a busy refusal too (the model's choice, log 78). A moving path gets the stop deceleration mark and a still one an empty block queue; each
enabled used drive stays so and keeps its running stop timer or gets one of 500 ticks; the detent count is 0. R92, R75: the
end of the stop deceleration empties the block queue, the path and the stop mark; every local channel's
planned end is its commanded position and the records in force, the range among them, are unknown (R62). R124: at
its disable point an enabled used drive with a running stop timer becomes DISABLED, with drive command 0 and no
stop timer; otherwise nothing changes. -/
def Obligations.StopallStopsTheMachine : Prop :=
  (∀ (rx : Rx) (s : State), frameCompletes (.stopall rx) rx s (fun m t =>
    t.cu.stopped = true ∧ t.cu.held = true ∧ t.cu.owed = false ∧ t.pd.detents = 0 ∧
    t.par = m.par ∧
    (∀ e ∈ t.lc.queue, txClass e = 1 ∨ txClass e = 2 →
      (e.inTx = false → e.payload = .override 1 150 ∧ m.cl.tsc = .degraded ∧ m.cu.stopped = false) ∧
      (e.inTx = true → e.doomed = true)) ∧
    (0 < pathVelocity m → t.pg.stopMark = true ∧ t.bq = m.bq) ∧
    (pathVelocity m = 0 → t.bq.entries = [] ∧ t.bq.expected = none) ∧
    (∀ c p, axParams c m = some p → (getAx c m).drive = .enabled →
      (getAx c t).drive = .enabled ∧ (getAx c t).stopTimer = some ((getAx c m).stopTimer.getD 500)))) ∧
  (∀ s : State, loaded s.node = true →
    (s.node.pg.stopMark = true → completes .stopDecelerationEnd s (fun t =>
      t.bq.entries = [] ∧ t.bq.expected = none ∧ t.bq.spindleForce = none ∧
      t.bq.rangeForce = none ∧ t.bq.coolantForce = none ∧ t.pg.stopMark = false ∧
      ((∃ e ∈ s.node.bq.entries, inChain e = true) → t.pg.run = none) ∧
      t.cl.blockSet = .empty ∧ t.ax0.planned = t.ax0.commanded ∧
      t.ax1.planned = t.ax1.commanded)) ∧
    (s.node.pg.stopMark = false →
      completes .stopDecelerationEnd s (fun t => onlyChanges [] s.node t))) ∧
  (∀ (c : Chan) (s : State), loaded s.node = true →
      ((axParams c s.node).isSome = true → (getAx c s.node).drive = .enabled →
        (getAx c s.node).stopTimer.isSome = true → completes (.disablePoint c) s (fun t =>
          (getAx c t).drive = .disabled ∧ (getAx c t).driveCommand = 0 ∧
          (getAx c t).stopTimer = none ∧ (getAx c t).commanded = (getAx c s.node).commanded ∧
          (getAx c t).followRun = 0 ∧ (getAx c t).satRun = 0 ∧
          onlyChanges [chanPart c] s.node t)) ∧
      ((axParams c s.node).isSome = false ∨ (getAx c s.node).drive ≠ .enabled ∨
          (getAx c s.node).stopTimer = none →
        completes (.disablePoint c) s (fun t => onlyChanges [] s.node t)))

/-- R179, R180: an accepted FAULTCLR takes the latched conditions out of the other entries' reported
sets; with no drive FAULTED and no GEAR_FAULT it clears them in the own set too, and where then no STOP-class condition stands in the machine condition set and every expected node
is LIVE the STOPPED latch clears and otherwise stays. It never changes the held flag, the block queue, the
path or the parameters. A NODE_CLASH that the same frame brings is raised before it and so cleared (the model's
choice, assumption log 89). -/
def Obligations.FaultclrClearsLatchedConditions : Prop :=
  ∀ (rx : Rx) (s : State), frameCompletes (.faultclr rx) rx s (fun m t =>
    t.cu.held = m.cu.held ∧ t.pg = m.pg ∧ t.par = m.par ∧ t.bq = m.bq ∧
    (∀ i, i < m.nt.entries.length → ∀ r, (entryAt i t).report = some r →
      r.conds &&& latchedMask = 0) ∧
    (m.ax0.drive ≠ .faulted → m.ax1.drive ≠ .faulted → m.sg.gear ≠ .gearFault →
      t.cu.own &&& latchedMask = 0 ∧
      (hasStop (machineConds t) = false → expectedLive t = true → t.cu.stopped = false) ∧
      (hasStop (machineConds t) = true ∨ expectedLive t = false → t.cu.stopped = m.cu.stopped)))

/-- R180, R25: nothing but an applied FAULTCLR clears the STOPPED latch: no other command does, and neither
does a step with no command waiting. -/
def Obligations.OnlyFaultclrClearsTheStoppedLatch : Prop :=
  (∀ (c : Instr) (s t : State), (∀ rx, c ≠ .faultclr rx) → exec c s = .next t →
    s.node.cu.stopped = true → t.node.cu.stopped = true) ∧
  (∀ s t : State, s.pending = [] → step s = .next t → s.node.cu.stopped = true →
    t.node.cu.stopped = true)

/-! ### The line controller -/

/-- R4, R5, R10, R12, R93: an attempt that can begin takes the stamp capture at the present tick and the given
phase, within the tick's length; the head, the first entry that is eligible and not in transmission, goes into
transmission with its payload, a PACE with the content of this tick, and every other entry stands; the bits
for the line are the start bit, the frame with its stamp where its kind has one, and the two released bits of
the slot; and the quiet count ends. The yield penalty stands only where the class is below 2. With nothing
ready to send nothing changes. The gap is 12 bit times, 16 for each class step, the node number, 16 more under
the yield penalty for a class-2 or class-3 frame and 96 more in QUIET, so that a class-0 or class-1 frame of
any node goes before a less urgent frame of any node whose line controller is in the same state. The row
stands for the quiet count having reached the gap (assumption log 17). -/
def Obligations.AttemptStartSendsTheHead : Prop :=
  (∀ (phase : Phase) (s : State), loaded s.node = true →
    (readyToSend s.node.lc = true → completes (.attemptStart phase) s (fun t =>
      let c : Moment := { tick := s.node.pg.tick, phase := phaseIn s.node.pg.tickLen phase.val }
      (c.phase.val = min phase.val (min 999 (s.node.pg.tickLen - 1))) ∧
      t.lc.capture = some c ∧ t.pg = { s.node.pg with phase := c.phase } ∧
      t.lc.bitError = false ∧ t.lc.slotBusy = false ∧ t.lc.slotError = false ∧ t.lc.quiet = 0 ∧
      (∀ before e after, s.node.lc.queue = before ++ e :: after →
        (∀ x ∈ before, x.eligible = false ∨ x.inTx = true) → e.eligible = true → e.inTx = false →
        let p := match e.payload with | .pace _ _ _ => pacePayload s.node | q => q
        t.lc.yield = (s.node.lc.yield && decide (txClass e < 2)) ∧
        t.lc.txBits = true :: (frameBits s.node.su.node
            (if kindStamped (payloadKind p) = true then
              some { tick := c.tick.setWidth 16, phase := BitVec.ofNat 10 c.phase.val }
            else none) p ++ [false, false]) ∧
        (asksNoState s.node →
          t.lc.queue = before ++ { e with inTx := true, payload := p } :: after)) ∧
      onlyChanges [.line, .path] s.node t)) ∧
    (readyToSend s.node.lc = false →
      completes (.attemptStart phase) s (fun t => onlyChanges [] s.node t))) ∧
  (∀ (node : NodeNo) (lc : LC) (e : TxEntry),
    gapOf node lc e = 12 + 16 * txClass e + node.val +
      (if lc.yield = true ∧ 2 ≤ txClass e then 16 else 0) +
      (if lc.state = .quiet then 96 else 0)) ∧
  (∀ (a b : NodeNo) (x y : LC) (d e : TxEntry), x.state = y.state → txClass d < 2 →
    txClass d < txClass e → gapOf a x d < gapOf b y e)

/-- R6, R10, R11, R13, R14: a contention loss ends the attempt with nothing counted and the entry back to
pending, the node decoding with its capture; a busy refusal makes the entry wait ineligible for the next
tick and discards the capture; in both an entry in transmission that was withdrawn, or is replaced by a newer
one that waits, leaves the queue; every other entry stands in its place, and none is added. -/
def Obligations.ContentionLossAndBusyReturnTheEntry : Prop :=
  ∀ s : State, loaded s.node = true → sending s.node.lc = true →
    completes .contentionLoss s (fun t =>
      t.lc.decoding = true ∧ t.lc.capture = s.node.lc.capture ∧ t.lc.txBits = [] ∧
      t.lc.send = s.node.lc.send ∧ t.lc.recv = s.node.lc.recv ∧ onlyChanges [.line] s.node t ∧
      (asksNoState s.node → t.lc.queue = endSending id s.node.lc.queue)) ∧
    completes .refusedBusy s (fun t =>
      t.lc.capture = none ∧ t.lc.txBits = [] ∧ t.lc.send = s.node.lc.send ∧
      t.lc.recv = s.node.lc.recv ∧ onlyChanges [.line] s.node t ∧
      (asksNoState s.node → t.lc.queue =
        endSending (fun e => { e with eligible := false }) s.node.lc.queue)) ∧
    (∀ back : TxEntry → TxEntry,
      (∀ e, s.node.lc.queue.filter TxEntry.inTx = [e] →
        endSending back s.node.lc.queue =
          if e.doomed = true ∨ (∃ x ∈ s.node.lc.queue, x.inTx = false ∧ replaces x.payload e.payload = true)
          then s.node.lc.queue.filter fun x => !x.inTx
          else s.node.lc.queue.map fun x => if x.inTx then { back x with inTx := false } else x) ∧
      (∀ e ∈ endSending back s.node.lc.queue, e.inTx = false) ∧
      (∀ e ∈ s.node.lc.queue, e.inTx = false → e ∈ endSending back s.node.lc.queue) ∧
      (∀ e ∈ s.node.lc.queue, e.inTx = true → e.doomed = false →
        superseded e s.node.lc.queue = false →
        { back e with inTx := false } ∈ endSending back s.node.lc.queue))

/-- R4, R6, R7, R11, R13, R14, R17 to R19, R21: the first bit error of the node's own attempt ends its bits, counts in the
tally with last error code BIT, and in ACTIVE begins an error run of 10 bit times; the quiet count is the released
bits just sampled, the row's operand (R4); a second one in the attempt does nothing. A failed attempt raises the send count by 4. Past 255 the node goes to OFF with an empty queue,
the last error code LINE_OFF and a recovery timer of 250 ticks. Otherwise the counts decide between ACTIVE and
QUIET, the failed-attempt count of the one entry in transmission rises by 1, and at the limit of its class (16
for class 1, 8 for classes 2 and 3, none for class 0) the entry leaves with last error code ABANDONED; below
it the entry is pending again, or leaves where it was withdrawn or replaced meanwhile, and the last error code
is OBJECTED, or the bit error's before it. The quiet count after a failure without a bit error is 0 (the model's
reading, assumption log 14). The order and number of these notes is assumption log 17. -/
def Obligations.BitErrorsAndFailedAttempts : Prop :=
  (∀ (released : Fin 11) (s : State), loaded s.node = true → sending s.node.lc = true →
    (s.node.lc.bitError = false → completes (.bitError released) s (fun t =>
      t.lc.bitError = true ∧ t.lc.txBits = [] ∧ t.lc.quiet = released.val ∧
      t.lc.errorRun = (if s.node.lc.state = .active then 10 else s.node.lc.errorRun) ∧
      t.lc.state = s.node.lc.state ∧ t.lc.capture = s.node.lc.capture ∧
      onlyChanges [.line] s.node t ∧
      (asksNoState s.node → t.lc.queue = s.node.lc.queue ∧ t.lc.lastErr = .bit ∧
        t.lc.tally = min 65535 (s.node.lc.tally + 1)))) ∧
    (s.node.lc.bitError = true →
      completes (.bitError released) s (fun t => onlyChanges [] s.node t))) ∧
  (∀ s : State, loaded s.node = true → sending s.node.lc = true →
    let lc := s.node.lc
    completes .failure s (fun t =>
      onlyChanges [.line, .conds] s.node t ∧
      (255 < lc.send + 4 →
        t.lc.state = .off ∧ t.lc.queue = [] ∧ t.lc.lastErr = .lineOff ∧
        t.lc.recovery = some 250 ∧ t.lc.send = 255) ∧
      (lc.send + 4 ≤ 255 →
        t.lc.send = lc.send + 4 ∧ t.lc.recv = lc.recv ∧ t.lc.bitError = false ∧
        t.lc.capture = none ∧ t.lc.txBits = [] ∧
        t.lc.quiet = (if lc.bitError then lc.quiet else 0) ∧
        (∀ e ∈ t.lc.queue, e.inTx = false) ∧
        (lc.state = .active →
          t.lc.state = (if 128 ≤ lc.send + 4 ∨ 128 ≤ lc.recv then .quiet else .active)) ∧
        (lc.state = .quiet →
          t.lc.state = (if lc.send + 4 < 96 ∧ lc.recv < 96 then .active else .quiet)) ∧
        (∀ e, lc.queue.filter TxEntry.inTx = [e] → asksNoState s.node →
          lineWarnStands (lc.send + 4) lc.recv s.node →
          let spent := ∃ k, retryLimit (txClass e) = some k ∧ k ≤ e.failed + 1
          let noted := lc.tally + (if lc.bitError then 0 else 1)
          (spent → t.lc.lastErr = .abandoned ∧ t.lc.tally = min 65535 (noted + 1) ∧
            t.lc.queue = lc.queue.filter fun x => !x.inTx) ∧
          (¬spent → t.lc.lastErr = (if lc.bitError then lc.lastErr else .objected) ∧
            t.lc.tally = (if lc.bitError then lc.tally else min 65535 noted) ∧
            t.lc.queue =
              if e.doomed || superseded e lc.queue then lc.queue.filter fun x => !x.inTx
              else lc.queue.map fun x =>
                if x.inTx then { x with failed := x.failed + 1, inTx := false } else x))))) ∧
  retryLimit 0 = none ∧ retryLimit 1 = some 16 ∧ retryLimit 2 = some 8 ∧ retryLimit 3 = some 8

/-- R2, R4, R7 to R11, R17, R18, R19, R21: a receive error of a frame that the line controller has joined
ends the decoding, discards the capture, counts in the tally with its code and, outside OFF, raises the
receive count by 2 up to 255, with the line state that follows from the counts, while in OFF it sets the
recovery timer again. An error found partway through a frame begins an error run in ACTIVE (also where it is
this error that brings QUIET, assumption log 46); one found at the check drives the error bit where the state
that the count leaves is ACTIVE, and the quiet count is then 0, otherwise the released bits just sampled. A
frame that is not accepted leaves nothing at the node but the end of its decoding and of its slot, its quiet
count, and the line joined. A frame of either kind that the line controller has not joined changes nothing
but the quiet count (R30). In each the phase is that of the end of what the row takes in, within its tick. The
quiet count before the start bit, the released bits at the end and that phase are operands of these rows (log
16). R9, R11: nor is a frame accepted that was decoded whole but had a slot bit driven, or of the node's own one with
a bit error, which the row of the frame itself carries, with the quiet count 0, 1, 2 or 3 behind it (the model's
reading, assumption log 14); it leaves the same, and of an attempt of the node's own the outcome, refused busy or a failure. -/
def Obligations.ReceiveErrorsAndFramesNotAccepted : Prop :=
  (∀ (trail : Trail) (s : State), loaded s.node = true → sending s.node.lc = false →
    let lc := s.node.lc
    let released := trail.released.val
    let later := { s.node.pg with phase := phaseIn s.node.pg.tickLen trail.phase.val }
    (∀ (i : Instr) (code : ErrCode) (partway : Bool),
      ((i = .syncError trail ∧ code = .sync ∧ partway = true) ∨
        (i = .formError .lengthField trail ∧ code = .form ∧ partway = true) ∨
        (i = .formError .endOfCheck trail ∧ code = .form ∧ partway = false) ∨
        (i = .checkError trail ∧ code = .check ∧ partway = false)) →
      (joins trail.lead.val s.node = true → completes i s (fun t =>
        t.lc.decoding = false ∧ t.lc.capture = none ∧ t.lc.joined = true ∧ t.lc.slotBusy = false ∧
        (lc.state = .off → t.lc.recovery = some 250 ∧ t.lc.recv = lc.recv) ∧
        (lc.state ≠ .off → t.lc.recv = min 255 (lc.recv + 2)) ∧
        t.lc.state = (match lc.state with
          | .active => if 128 ≤ lc.send ∨ 128 ≤ min 255 (lc.recv + 2) then .quiet else .active
          | .quiet => if lc.send < 96 ∧ min 255 (lc.recv + 2) < 96 then .active else .quiet
          | x => x) ∧
        t.lc.errorRun = (if partway = true ∧ lc.state = .active then 10 else lc.errorRun) ∧
        t.lc.slotError = (!partway && (t.lc.state == .active)) ∧
        t.lc.quiet = (if t.lc.slotError then 0 else released) ∧ t.pg = later ∧
        (lineWarnStands lc.send (lc.recv + 2) s.node → asksNoState s.node →
          t.lc.tally = min 65535 (lc.tally + 1) ∧ t.lc.lastErr = code) ∧
        onlyChanges [.line, .path, .conds] s.node t)) ∧
      (joins trail.lead.val s.node = false → completes i s (fun t =>
        { t.lc with queue := [], tally := 0, lastErr := .none } =
          { lc with quiet := released, queue := [], tally := 0, lastErr := .none } ∧
        t.pg = later ∧ onlyChanges [.line, .path] s.node t))) ∧
    completes (.frameNotAccepted trail) s (fun t =>
      let heard : Bool := joins trail.lead.val s.node
      { t.lc with queue := [], tally := 0, lastErr := .none } =
        { lc with
          quiet := released
          decoding := lc.decoding && !heard, capture := if heard then none else lc.capture,
          slotBusy := lc.slotBusy && !heard, slotError := lc.slotError && !heard,
          joined := lc.joined || heard, queue := [], tally := 0, lastErr := .none } ∧
      t.pg = later ∧ onlyChanges [.line, .path] s.node t)) ∧
  (∀ (i : Instr) (rx : Rx) (s : State), frameRx i = some rx → loaded s.node = true →
    joins rx.lead.val s.node = true →
    rx.busyBit = true ∨ rx.errorBit = true ∨ (rx.own = true ∧ s.node.lc.bitError = true) →
    (∀ b, i = .block rx b → turnsAway rx b.num s.node = false) →
    let lc := s.node.lc
    let failed := rx.errorBit = true ∨ lc.bitError = true
    let attempt := rx.own = true ∧ sending lc = true
    completes i s (fun t =>
      t.pg = { s.node.pg with phase := phaseIn s.node.pg.tickLen rx.phase.val } ∧
      t.lc.decoding = false ∧ t.lc.capture = none ∧ t.lc.joined = true ∧ t.lc.slotBusy = false ∧
      t.lc.slotError = false ∧ t.lc.recv = lc.recv ∧
      t.lc.quiet = (if rx.errorBit then 0 else if rx.busyBit then 1 else if rx.syncDriven then 2 else 3) ∧
      (¬attempt → onlyChanges [.line, .path] s.node t ∧
        { t.lc with queue := [], tally := 0, lastErr := .none } =
          { lc with quiet := t.lc.quiet, decoding := false, capture := none, slotBusy := false,
                    slotError := false, joined := true, queue := [], tally := 0, lastErr := .none }) ∧
      (attempt → ¬failed → onlyChanges [.line, .path] s.node t ∧ t.lc.send = lc.send ∧
        (asksNoState s.node →
          t.lc.queue = endSending (fun e => { e with eligible := false }) lc.queue)) ∧
      (attempt → failed → onlyChanges [.line, .path, .conds] s.node t ∧
        t.lc.send = min 255 (lc.send + 4) ∧ (255 < lc.send + 4 → t.lc.state = .off) ∧
        ∀ e ∈ t.lc.queue, e.inTx = false)))

/-- R20, R31, R12: at a quiet count of 128 a node in JOINING enters ACTIVE, with the recovery mark clear, or
goes on to QUIET where a count stands at 128 or more (assumption log 46). At the first entry after a full
reset and at the one after line-off recovery the joining ANNOUNCE is asked for and, from an empty queue, waits
there; at the first entry a STOPALL waits with it where the own set holds a STOP-class condition. A node not
in JOINING is left alone. R30: a frame whose start bit the line controller has not joined, no quiet count of
12 having come, changes nothing but the quiet count and the phase. That count is 0 behind another's error bit, 1
behind a busy bit, and otherwise 2 or 3 by the last sync bit: this and the row's word for the start bit are the
model's choice (assumption logs 14 and 16). -/
def Obligations.QuietCountLeavesJoining : Prop :=
  (∀ s : State, loaded s.node = true →
    (s.node.lc.state = .joining → completes .quietCountJoin s (fun t =>
      let joining := s.node.su.firstActive = true ∨ s.node.lc.recoveryMark = true
      t.lc.recoveryMark = false ∧ onLine t.lc.state = true ∧ t.lc.joined = true ∧
      (s.node.lc.send < 128 → s.node.lc.recv < 128 → t.lc.state = .active) ∧
      t.su = { s.node.su with firstActive := false, joinPending := t.su.joinPending } ∧
      (joining → t.su.joinPending = true ∧
        (s.node.lc.queue = [] → waiting (.announce (announceBody true s.node)) t)) ∧
      (s.node.su.firstActive = true → hasStop s.node.cu.own = true → s.node.lc.queue = [] →
        waiting .stopall t) ∧
      (¬joining → t.su = s.node.su) ∧
      onlyChanges [.start, .line, .conds] s.node t)) ∧
    (s.node.lc.state ≠ .joining → completes .quietCountJoin s (fun t => onlyChanges [] s.node t))) ∧
  (∀ (i : Instr) (rx : Rx) (s : State), frameRx i = some rx → loaded s.node = true →
    joins rx.lead.val s.node = false →
    completes i s (fun t =>
      t.lc.quiet = (if rx.errorBit then 0 else if rx.busyBit then 1 else if rx.syncDriven then 2 else 3) ∧
      { t.lc with quiet := 0, queue := [], tally := 0, lastErr := .none } =
        { s.node.lc with quiet := 0, queue := [], tally := 0, lastErr := .none } ∧
      t.pg = { s.node.pg with phase := phaseIn s.node.pg.tickLen rx.phase.val } ∧
      onlyChanges [.line, .path] s.node t))

/-- R9, R11, R17, R20, R35, R36, R40, R41: the acceptance of a frame, an ANNOUNCE apart. From a peer it sets
the peer's entry LIVE with its silence timer at 120 and keeps the entry's other fields, and no other entry and
no clashing pair of a LIVE peer changes; the capture is discarded, the receive count falls by 1 outside OFF,
and of a peer already LIVE, outside JOINING, only the line controller, that entry, the phase and LINE_WARN are
touched, no other condition. A peer that was ABSENT or LOST becomes LIVE without PEER_REJOINED, and PEER_LOST
clears where no other expected node is LOST. JOINING is left. A frame that carries the node's own number and
was not sent by it raises NODE_CLASH, which sets the STOPPED latch and leaves a STOPALL owed. The node's own
frame: its entry leaves the queue, the send count falls by 1 outside OFF, a class-2 or class-3 frame brings the
yield penalty (R5). The node's own STATE, with contents taken after the latest TXQ_OVERFLOW, clears that
condition (R46). -/
def Obligations.AcceptanceOfAFrame : Prop :=
  (∀ (rx : Rx) (n : Node), rx.own = false →
    let m := accepted rx n
    let e := entryAt rx.sender.val n
    (rx.sender ≠ n.su.node → n.nt.entries.length = 16 →
      m.nt.entries = n.nt.entries.set rx.sender.val { e with state := .live, silence := 120 } ∧
      m.lc.capture = none ∧
      m.lc.recv = (if n.lc.state = .off then n.lc.recv else n.lc.recv - 1) ∧
      m.pg.phase = phaseIn n.pg.tickLen rx.phase.val ∧
      (e.state = .live → n.lc.state ≠ .joining →
        m.nt.clashes = n.nt.clashes ∧ m.pg = { n.pg with phase := m.pg.phase } ∧
        sameButLineWarn m.cu.own n.cu.own ∧ onlyChanges [.line, .table, .path, .conds] n m) ∧
      (e.state ≠ .live →
        condIn .peerRejoined m.cu.own = condIn .peerRejoined n.cu.own ∧
        ((∀ j : NodeNo, j ≠ rx.sender → expects j.val n = true → (entryAt j.val n).state ≠ .lost) →
          condIn .peerLost m.cu.own = false))) ∧
    (n.lc.state = .joining → onLine m.lc.state = true ∧ m.lc.recoveryMark = false ∧
      m.su.firstActive = false) ∧
    (rx.sender = n.su.node →
      condIn .nodeClash m.cu.own = true ∧ m.cu.stopped = true ∧ m.cu.owed = true)) ∧
  (∀ (rx : Rx) (n : Node) (e : TxEntry), rx.own = true → n.lc.queue.filter TxEntry.inTx = [e] →
    let m := accepted rx n
    m.lc.send = (if n.lc.state = .off then n.lc.send else n.lc.send - 1) ∧ m.lc.recv = n.lc.recv ∧
    m.lc.yield = (n.lc.yield || decide (2 ≤ txClass e)) ∧ m.lc.capture = none ∧ m.lc.txBits = [] ∧
    (lineWarnStands m.lc.send m.lc.recv n → m.lc.queue = n.lc.queue.filter fun x => !x.inTx) ∧
    onlyChanges [.line, .path, .conds] n m) ∧
  (∀ (rx : Rx) (b : StateBody) (s : State) (k : Nat), loaded s.node = true →
    joins rx.lead.val s.node = true → slotClear rx s.node = true → rx.own = true →
    sentStateAt s.node = some k →
    s.node.cu.txqSeq ≤ k → s.node.lc.queue.length ≤ 4 →
    completes (.state rx b) s (fun t => condIn .txqOverflow t.cu.own = false))

/-- R2, R3, R185, R186: what a receiver judges of the bits a sender puts on the line is the frame itself:
for every well-formed payload, every sender and every stamp, present exactly where the kind is stamped, no
bit of header, payload or check is dropped or misread. -/
def Obligations.FramesAreReadAsSent : Prop :=
  ∀ (p : Payload) (sender : NodeNo) (stamp : Option Stamp), p.wf = true →
    (stamp.isSome = kindStamped (payloadKind p)) →
    judgeBits (frameBits sender stamp p) = .whole sender stamp p

/-! ### The node table's frames -/

/-- R37, R31, R43: an ANNOUNCE of another node writes its functions, tag and cause and makes the entry LIVE
with its silence timer at 120; with the joining mark, or from ABSENT, its reported status and panel fields
are absent and otherwise they stand; a tag unlike the own one stops the machine; no other entry changes.
The node's own joining ANNOUNCE ends its repetition and starts the STATE timer at 0. -/
def Obligations.AnnounceWritesTheEntry : Prop :=
  ∀ (rx : Rx) (b : AnnounceBody) (s : State), loaded s.node = true → joins rx.lead.val s.node = true →
    slotClear rx s.node = true →
    s.node.nt.entries.length = 16 →
    (rx.own = false → rx.sender ≠ s.node.su.node → completes (.announce rx b) s (fun t =>
      let e := entryAt rx.sender.val s.node
      let x := entryAt rx.sender.val t
      x.state = .live ∧ x.silence = 120 ∧ x.funcs = some (announceFunctions b) ∧
      x.tag = some b.tag.toNat ∧ x.cause = causeOfCode b.cause ∧
      (announceJoining b = true ∨ e.state = .absent → x.report = none ∧ x.panel = none) ∧
      (announceJoining b = false → e.state ≠ .absent → x.report = e.report ∧ x.panel = e.panel) ∧
      (∀ i, i ≠ rx.sender.val → entryAt i t = entryAt i s.node) ∧
      (b.tag.toNat ≠ s.node.par.ident.tag →
        condIn .machineMismatch t.cu.own = true ∧ t.cu.stopped = true) ∧
      (announceJoining b = true → e.state ≠ .absent → condIn .peerRejoined t.cu.own = true ∧
        t.pg.clamps = s.node.pg.clamps.set rx.sender.val 150))) ∧
    (rx.own = true → announceJoining b = true → completes (.announce rx b) s (fun t =>
      t.su.joinPending = false ∧ t.nt.stateRunning = true ∧ t.nt.stateTimer = 0 ∧
      t.nt.entries = s.node.nt.entries))

/-- R38, R39, R46, R183, R186: a STATE of another node writes its reported status into that entry, and a
STOP-class condition in it sets the latch; a PANEL with listed codes writes its three fields and one with
a code outside its list nothing (R186); the condition unit discards a FAULT; and the node's own STATE, with
contents taken after the latest JOG_OVERRUN, clears that condition. -/
def Obligations.StatePanelAndFaultFrames : Prop :=
  ∀ (rx : Rx) (s : State), loaded s.node = true → joins rx.lead.val s.node = true →
    slotClear rx s.node = true →
    s.node.nt.entries.length = 16 →
    (∀ b : StateBody, rx.own = false → rx.sender ≠ s.node.su.node →
      completes (.state rx b) s (fun t =>
        (entryAt rx.sender.val t).report = some (stateReported b) ∧
        (entryAt rx.sender.val t).state = .live ∧ (entryAt rx.sender.val t).silence = 120 ∧
        (∀ i, i ≠ rx.sender.val → entryAt i t = entryAt i s.node) ∧
        (hasStop (stateReported b).conds = true → t.cu.stopped = true))) ∧
    (∀ (b : PanelBody) (p : Panel), panelFields b = some p → clashing rx s.node = false →
      completes (.panel rx b) s (fun t =>
        (entryAt rx.sender.val t).panel = some p ∧
        (∀ i, i ≠ rx.sender.val → entryAt i t = entryAt i s.node))) ∧
    (∀ b : PanelBody, panelFields b = none →
      completes (.panel rx b) s (fun t => onlyChanges [] (accepted rx s.node) t)) ∧
    (∀ b : FaultBody, completes (.fault rx b) s (fun t => onlyChanges [] (accepted rx s.node) t)) ∧
    (∀ (b : StateBody) (k : Nat), rx.own = true → sentStateAt s.node = some k → s.node.cu.jogSeq ≤ k →
      completes (.state rx b) s (fun t => condIn .jogOverrun t.cu.own = false))

/-- R35, R40, R120: at the end of its silence timer a LIVE peer's entry becomes LOST and keeps its fields,
its clamp value is 150 and no channel keeps its JOG record; the loss of an expected node raises PEER_LOST.
An entry that is not LIVE, and the own one, have no timeout. -/
def Obligations.SilenceTimeoutLosesTheEntry : Prop :=
  ∀ (peer : NodeNo) (s : State), loaded s.node = true → s.node.nt.entries.length = 16 →
    (peer ≠ s.node.su.node → (entryAt peer.val s.node).state = .live →
      completes (.silenceTimeout peer) s (fun t =>
        entryAt peer.val t = { entryAt peer.val s.node with state := .lost, silence := 0 } ∧
        (∀ i, i ≠ peer.val → entryAt i t = entryAt i s.node) ∧
        t.pg.clamps = s.node.pg.clamps.set peer.val 150 ∧
        (∀ c tog, (getAx c t).lastJog ≠ some (peer, tog)) ∧
        (expects peer.val s.node = true → condIn .peerLost t.cu.own = true))) ∧
    (peer = s.node.su.node ∨ (entryAt peer.val s.node).state ≠ .live →
      completes (.silenceTimeout peer) s (fun t => onlyChanges [] s.node t))

/-! ### Axis channels -/

/-- R120, R121: a JOG at its channel. A duplicate changes no channel; any other is recorded; one that the
six conditions do not allow changes nothing else; one they allow makes the motion state JOG, with the
accumulator the jog target less the commanded position, and JOG_OVERRUN where the sum of accumulator and detents
lies outside ±5,000. Of an unreferenced axis the accumulator is that sum clamped to ±5,000. Of a referenced one the
target so reached is clamped to the soft window, and in the direction of travel stops at the last position before
the first invalid segment: no position up to the target lies in an invalid segment behind a valid one, so that the
segments the axis stands in may be left (the model's reading, assumption log 43), and a target short of the window's
has an invalid segment next to it. A code outside its list, or the detent number −128, discards the frame. -/
def Obligations.JogAtItsChannel : Prop :=
  ∀ (rx : Rx) (axis inc det tog : Byte) (s : State),
    frameCompletes (.jog rx axis inc det tog) rx s (fun m t =>
      (incrementOfCode inc = none ∨ boolOfCode tog = none ∨ det.toInt = -128 → onlyChanges [] m t) ∧
      (∀ c p k g, chanOf axis.toNat m = some (c, p) → incrementOfCode inc = some k →
        boolOfCode tog = some g → det.toInt ≠ -128 →
        let a := getAx c m
        let x := getAx c t
        onlyChanges [chanPart c, .pendant, .conds] m t ∧
        (a.lastJog = some (rx.sender, g) → x = a) ∧
        (a.lastJog ≠ some (rx.sender, g) → x.lastJog = some (rx.sender, g) ∧
          (jogAllowed det.toInt c m = false → { x with lastJog := a.lastJog } = a) ∧
          (jogAllowed det.toInt c m = true →
            x.motion = .jog ∧ x.commanded = a.commanded ∧
            x.jogTarget = x.commanded + x.jogAccum ∧ x.moverTarget = x.jogTarget ∧
            (a.referenced = false →
              x.jogAccum = max (-5000) (min 5000 (a.jogAccum + det.toInt * k))) ∧
            (a.referenced = true → (∀ seg, p.seg = some seg → 0 < seg) → p.winLow ≤ p.winHigh →
              let sum := max (-5000) (min 5000 (a.jogAccum + det.toInt * k))
              let goal := max p.winLow (min p.winHigh (a.commanded + sum))
              let valid (q : Int) : Prop := ∀ seg, p.seg = some seg →
                cellValid a (compCell seg a (q - p.compOrigin)) = true
              (p.winLow ≤ a.commanded → a.commanded ≤ p.winHigh →
                p.winLow ≤ x.jogTarget ∧ x.jogTarget ≤ p.winHigh) ∧
              (a.commanded ≤ goal →
                a.commanded ≤ x.jogTarget ∧ x.jogTarget ≤ goal ∧
                (∀ q r, a.commanded ≤ q → q ≤ r → r ≤ x.jogTarget → valid q → valid r) ∧
                (x.jogTarget ≠ goal → valid x.jogTarget ∧ ¬valid (x.jogTarget + 1))) ∧
              (goal < a.commanded →
                goal ≤ x.jogTarget ∧ x.jogTarget ≤ a.commanded ∧
                (∀ q r, x.jogTarget ≤ r → r ≤ q → q ≤ a.commanded → valid q → valid r) ∧
                (x.jogTarget ≠ goal → valid x.jogTarget ∧ ¬valid (x.jogTarget - 1)))) ∧
            (5000 < (a.jogAccum + det.toInt * k).natAbs →
              condIn .jogOverrun t.cu.own = true)))))

/-- R117, R118, R119: the reference sequence. A REFERENCE that finds the five conditions starts one, in
BACK_OFF where the switch is already active, with the axis unreferenced, the commanded position the actual
one, with the clamp output on as well (the model's choice, assumption log 76), and REF_FAILED clear; any other REFERENCE changes nothing. An active switch stops the search; the stop
leads to BACK_OFF and a back-off that leaves the switch to SEEK_MARK; the first mark after the switch loads
the count and stops the mover; at rest the end test, made on the tracking position before the window clamp
(assumption log 10) and formed from the stored actual position, also right after MARK_EDGE with no tick between (the
model's choice, assumption log 77), sets the referenced flag and the commanded position
inside the window and fails outside; and a phase whose mover arrives with the switch as it must not be
fails with REF_FAILED. -/
def Obligations.ReferenceSequence : Prop :=
  (∀ (rx : Rx) (axis : Byte) (s : State), frameCompletes (.reference rx axis) rx s (fun m t =>
    (∀ c p, chanOf axis.toNat m = some (c, p) → refAllowed c m = true →
      (getAx c t).motion = .reference ∧ (getAx c t).referenced = false ∧
      (getAx c t).commanded = (getAx c m).actual ∧ (getAx c t).moverVel = 0 ∧
      (getAx c t).ref = (if (axPins c m.pins).refSwitch then .backOff else .seekSwitch) ∧
      condIn .refFailed t.cu.own = false ∧ onlyChanges [chanPart c, .conds] m t) ∧
    ((∀ c p, chanOf axis.toNat m = some (c, p) → refAllowed c m = false) → onlyChanges [] m t))) ∧
  (∀ (c : Chan) (s : State) (p : AxisParams), loaded s.node = true → axParams c s.node = some p →
    (getAx c s.node).motion = .reference →
    completes (.referenceSwitchActive c) s (fun t =>
      (getAx c t).moverStop =
        ((getAx c s.node).moverStop || (getAx c s.node).ref == .seekSwitch) ∧
      (getAx c t).switchSeen =
        ((getAx c s.node).switchSeen || (getAx c s.node).ref == .seekMark) ∧
      onlyChanges [chanPart c, .pins] s.node t) ∧
    ((getAx c s.node).ref = .seekMark → (getAx c s.node).switchSeen = true →
      (getAx c s.node).markLoaded = false →
      completes (.markEdge c) s (fun t =>
        (getAx c t).count = wrap48 (ceilDiv (p.refPos * p.den) p.num) ∧
        (getAx c t).moverStop = true ∧ (getAx c t).markLoaded = true ∧
        onlyChanges [chanPart c] s.node t)) ∧
    ((getAx c s.node).moverStop = true → (getAx c s.node).ref = .seekSwitch →
      completes (.moverAtRest c) s (fun t =>
        (getAx c t).ref = .backOff ∧ (getAx c t).motion = .reference ∧
        (getAx c t).moverStop = false ∧ (getAx c t).moverVel = 0 ∧
        (getAx c t).moverTarget =
          (getAx c s.node).commanded - (if p.searchMinus then -1 else 1) * p.backOff ∧
        onlyChanges [chanPart c] s.node t)) ∧
    ((getAx c s.node).moverStop = true → (getAx c s.node).ref = .seekMark →
      completes (.moverAtRest c) s (fun t =>
        let x := (trackingRead p (getAx c s.node)).2.1
        (p.winLow ≤ x ∧ x ≤ p.winHigh →
          (getAx c t).ref = .done ∧ (getAx c t).referenced = true ∧ (getAx c t).commanded = x) ∧
        (x < p.winLow ∨ p.winHigh < x →
          (getAx c t).ref = .failed ∧ (getAx c t).commanded = (getAx c s.node).commanded ∧
          condIn .refFailed t.cu.own = true))) ∧
    ((getAx c s.node).moverStop = false → moverFree p (getAx c s.node) = true →
      ((getAx c s.node).ref = .backOff → (axPins c s.node.pins).refSwitch = false →
        completes (.moverArrive c) s (fun t =>
          (getAx c t).ref = .seekMark ∧ (getAx c t).motion = .reference ∧
          (getAx c t).moverVel = 0 ∧ (getAx c t).switchSeen = false ∧
          onlyChanges [chanPart c] s.node t)) ∧
      ((getAx c s.node).ref = .seekSwitch ∨ (getAx c s.node).ref = .seekMark ∨
          ((getAx c s.node).ref = .backOff ∧ (axPins c s.node.pins).refSwitch = true) →
        completes (.moverArrive c) s (fun t =>
          (getAx c t).ref = .failed ∧ condIn .refFailed t.cu.own = true ∧
          (getAx c t).motion = (if chainAtRest s.node then .idle else .chain) ∧
          onlyChanges [chanPart c, .conds] s.node t))))

/-- R116, R122: the end of a jog. Where the mover arrives at the jog target, which the window does not move,
the axis stands there, the accumulator is 0 and the jog is over; and a jog ended early is over where its
stopped mover stands still, with the commanded position as it is. -/
def Obligations.MoverEndsAJog : Prop :=
  ∀ (c : Chan) (s : State) (p : AxisParams), loaded s.node = true → axParams c s.node = some p →
    (getAx c s.node).motion = .jog →
    ((getAx c s.node).moverStop = false → moverFree p (getAx c s.node) = true →
      (getAx c s.node).jogEnding = false →
      (getAx c s.node).moverTarget = (getAx c s.node).jogTarget →
      clampWindow p (getAx c s.node) (position (getAx c s.node).jogTarget) =
        (getAx c s.node).jogTarget →
      completes (.moverArrive c) s (fun t =>
        (getAx c t).commanded = (getAx c s.node).jogTarget ∧ (getAx c t).jogAccum = 0 ∧
        (getAx c t).moverVel = 0 ∧
        (getAx c t).motion = (if chainAtRest s.node then .idle else .chain) ∧
        onlyChanges [chanPart c] s.node t)) ∧
    ((getAx c s.node).moverStop = true → (getAx c s.node).jogEnding = true →
      completes (.moverAtRest c) s (fun t =>
        (getAx c t).commanded = (getAx c s.node).commanded ∧ (getAx c t).jogAccum = 0 ∧
        (getAx c t).moverVel = 0 ∧
        (getAx c t).motion = (if chainAtRest s.node then .idle else .chain) ∧
        onlyChanges [chanPart c] s.node t))

/-- R116: the local mover. A run begins from rest with the position the commanded position × 65,536, the
velocity 0 and the stop mark clear, and the mover is at rest where its velocity is 0 and it is stopped or stands
at its target. Under the stop mark the size of the velocity falls by Am, not below 0, with its sign, and the
position moves by the new velocity; otherwise the new velocity toward the target is that of the first row of the
table that applies, and the mover arrives where that takes it to the target or past it. Nothing else of the
channel changes in a step. A mover that moves away from its target goes on by at most its stopping distance.
While the clamp output is on, or in UNCLAMPING, it makes no step; otherwise a jog's mover makes one with the
jog's limits and a reference phase's with the phase's, and the commanded position is its position / 65,536,
rounded, which the window of a referenced axis bounds. -/
def Obligations.LocalMover : Prop :=
  (∀ (target : Int) (a : Axis),
    beginMover target a =
      { a with moverPos := a.commanded * 65536, moverVel := 0, moverStop := false,
               moverTarget := target }) ∧
  (∀ a : Axis, moverAtRest a = true ↔
    a.moverVel = 0 ∧ (a.moverStop = true ∨ a.moverPos = a.moverTarget * 65536)) ∧
  (∀ (v am : Int) (a : Axis), 0 < v → 0 < am →
    let b := moverStep v am a
    let d (w : Int) : Int := w * w / (2 * am)
    let r := a.moverTarget * 65536 - a.moverPos
    { b with moverPos := 0, moverVel := 0 } = { a with moverPos := 0, moverVel := 0 } ∧
    (a.moverStop = true →
      (b.moverVel.natAbs : Int) = max ((a.moverVel.natAbs : Int) - am) 0 ∧
      0 ≤ b.moverVel * a.moverVel ∧ b.moverPos = a.moverPos + b.moverVel) ∧
    (a.moverStop = false →
      let s : Int := if 0 < r then 1 else if r < 0 then -1 else if 0 < a.moverVel then -1 else 1
      let w := s * a.moverVel
      let k := min (w + am) v
      let size : Int := r.natAbs
      let accelerates := w < v ∧ d k ≤ size - k
      let keeps := 0 < w ∧ d w ≤ size - w
      ∃ w' : Int,
        (w < 0 → w' = min (w + am) 0) ∧
        (0 ≤ w → accelerates → w' = k) ∧
        (0 ≤ w → ¬accelerates → keeps → w' = w) ∧
        (0 ≤ w → ¬accelerates → ¬keeps → w' = max (w - am) (min am v)) ∧
        (0 ≤ w' → size ≤ w' → b.moverPos = a.moverTarget * 65536 ∧ b.moverVel = 0) ∧
        (w' < 0 ∨ w' < size → b.moverVel = s * w' ∧ b.moverPos = a.moverPos + s * w'))) ∧
  (∀ (v am : Int) (a : Axis) (k : Nat), 0 < am → a.moverStop = false →
    let at' (j : Nat) : Axis := (moverStep v am)^[j] a
    let away (x : Axis) : Prop :=
      let r := x.moverTarget * 65536 - x.moverPos
      r * x.moverVel < 0 ∨ (r = 0 ∧ x.moverVel ≠ 0)
    (∀ j, j < k → away (at' j)) →
    (((at' k).moverPos - a.moverPos).natAbs : Int) ≤ a.moverVel * a.moverVel / (2 * am)) ∧
  (∀ (c : Chan) (p : AxisParams) (n : Node),
    let a := getAx c n
    let u := getAx c (commandStep c p n)
    let b := moverStep (if a.motion = .jog then jogVelocity p a else phaseVelocity p a.ref) p.jogAcc a
    let blocked := p.clampFitted = true ∧ a.clamp ≠ .unclamped
    (blocked → a.motion = .jog ∨ (a.motion = .reference ∧ moverAtRest a = false) →
      u.moverPos = a.moverPos ∧ u.moverVel = a.moverVel) ∧
    (¬blocked → a.drive = .enabled →
      a.motion = .jog ∨ (a.motion = .reference ∧ moverAtRest b = false) →
      let x := roundDiv b.moverPos 65536
      u.moverPos = b.moverPos ∧ u.moverVel = b.moverVel ∧
      (-2147483648 ≤ x → x ≤ 2147483647 →
        u.commanded = (if a.referenced = true then clampInt p.winLow p.winHigh x else x)) ∧
      (a.referenced = true → p.winLow ≤ p.winHigh → p.winLow ≤ u.commanded ∧ u.commanded ≤ p.winHigh)))

/-- R109, R110, R111, R125, R144, R179: the drive's events at a used channel. Ready makes an ENABLING drive
ENABLED; an active fault input, ready lost in ENABLED and the drive timer's end in ENABLING make it FAULTED
with DRIVE_FAULT, which stops the machine; a following run of 4 raises FOLLOW_ERROR and a saturation run of 50
DRIVE_SATURATED, once each, and the HOLD that a HOLD-class raising asks for waits (R50). In the other drive
states these events change at most the input. A FAULTCLR makes a FAULTED drive with its fault input inactive
DISABLED, and ENABLING where the latch clears, and raises DRIVE_FAULT again with an active one. It sets a
gearbox in GEAR_FAULT from its pattern, with GEAR_FAULT raised again in a conflict, and leaves any other
gearbox, the request and the retries as they stand where the latch is set. With nothing of this to raise
again, the fault record is empty after it, the fault counts are 0 with their overflow flags clear, and the
FAULT with the record as it was waits. Rows that stand for their event: assumption log 12. -/
def Obligations.DriveEvents : Prop :=
  (∀ (c : Chan) (s : State), loaded s.node = true → (axParams c s.node).isSome = true →
    let a := getAx c s.node
    let faulted (t : Node) : Prop :=
      (getAx c t).drive = .faulted ∧ (getAx c t).driveCommand = 0 ∧
      condIn .driveFault t.cu.own = true ∧ t.cu.stopped = true ∧ t.cu.owed = true ∧
      onlyChanges (.pins :: stopParts) s.node t
    completes (.driveReadyOn c) s (fun t =>
      (axPins c t.pins).ready = true ∧ onlyChanges [chanPart c, .pins] s.node t ∧
      (a.drive = .enabling → (getAx c t).drive = .enabled) ∧
      (a.drive ≠ .enabling → onlyChanges [.pins] s.node t)) ∧
    completes (.driveReadyOff c) s (fun t =>
      (axPins c t.pins).ready = false ∧ (a.drive = .enabled → faulted t) ∧
      (a.drive ≠ .enabled → onlyChanges [.pins] s.node t)) ∧
    completes (.driveFaultInput c) s (fun t =>
      (axPins c t.pins).fault = true ∧ (a.drive ≠ .faulted → faulted t) ∧
      (a.drive = .faulted → onlyChanges [.pins] s.node t)) ∧
    completes (.driveTimerExpiry c) s (fun t =>
      (a.drive = .enabling → faulted t) ∧ (a.drive ≠ .enabling → onlyChanges [] s.node t)) ∧
    completes (.followingRunLimit c) s (fun t =>
      (a.drive = .enabled → a.followRun < 4 →
        (getAx c t).followRun = 4 ∧ (getAx c t).drive = .enabled ∧
        condIn .followError t.cu.own = true ∧ t.cu.stopped = true ∧
        onlyChanges stopParts s.node t) ∧
      (a.drive ≠ .enabled ∨ 4 ≤ a.followRun → onlyChanges [] s.node t)) ∧
    completes (.saturationRunLimit c) s (fun t =>
      (a.drive = .enabled → a.satRun < 50 →
        (getAx c t).satRun = 50 ∧ condIn .driveSaturated t.cu.own = true ∧
        (s.node.cu.held = false → txHas isHold s.node = false → keptHold s.node = false →
          hasRoom s.node → waiting .hold t) ∧
        onlyChanges [chanPart c, .conds] s.node t) ∧
      (a.drive ≠ .enabled ∨ 50 ≤ a.satRun → onlyChanges [] s.node t))) ∧
  (∀ (rx : Rx) (s : State), frameCompletes (.faultclr rx) rx s (fun m t =>
    (∀ c, (axParams c m).isSome = true → (getAx c m).drive = .faulted →
      ((axPins c m.pins).fault = true →
        (getAx c t).drive = .faulted ∧ condIn .driveFault t.cu.own = true ∧
        t.cu.stopped = true ∧ t.cu.owed = true) ∧
      ((axPins c m.pins).fault = false →
        (getAx c t).drive =
          if m.cu.stopped = true ∧ t.cu.stopped = false then .enabling else .disabled)) ∧
    (∀ p, m.par.spindle = some p →
      (m.sg.gear = .gearFault →
        match patternOf p m.sg with
        | .valid r => t.sg.gear = .engaged r
        | .opened => t.sg.gear = .unknown
        | .conflict _ => t.sg.gear = .gearFault ∧ condIn .gearFault t.cu.own = true) ∧
      (m.cu.stopped = true → t.sg.request = m.sg.request ∧ t.sg.retries = m.sg.retries ∧
        (m.sg.gear ≠ .gearFault → t.sg.gear = m.sg.gear))) ∧
    (m.ax0.drive ≠ .faulted → m.ax1.drive ≠ .faulted → m.sg.gear ≠ .gearFault →
      m.pg.run = none → hasRoom m →
      t.cu.record = none ∧ t.cu.counts = List.replicate 30 0 ∧ t.cu.overflow = 0 ∧
      waiting (.fault (faultBody m)) t)))

/-- R113, R115: limits and clamps at a used channel. A limit input that becomes active sets its mark and
raises HARD_LIMIT, which stops the machine, once; one that becomes inactive clears its mark; the other
side's mark stays. A fitted clamp in UNCLAMPING becomes UNCLAMPED as it is confirmed and, at the timeout,
CLAMPING with the abandoned mark and its timer at 2,000; one in CLAMPING becomes CLAMPED at either; in any
other state nothing changes. R114: a channel needs the axis free while a head it takes part in moves the axis, a
block of the chain does, it jogs, references or has jogged of late. At each tick, its sensors not confirming and
its timer not at its end, a clamp CLAMPED or CLAMPING begins UNCLAMPING where the axis is needed free, and one
UNCLAMPING or UNCLAMPED begins CLAMPING where it is not, each with a timer of 2,000; otherwise the timer counts,
and a channel without a clamp makes neither request. -/
def Obligations.LimitAndClampEvents : Prop :=
  let displaces (c : Chan) (e : Entry) : Prop :=
    ∃ f t w, recFor c e = some (.resolved f t w) ∧ f ≠ t
  ∀ (c : Chan) (s : State) (p : AxisParams), loaded s.node = true → axParams c s.node = some p →
    let a := getAx c s.node
    (∀ side other : Side, side ≠ other →
      completes (.limitActive c side) s (fun t =>
        limitMark side (getAx c t) = true ∧ limitMark other (getAx c t) = limitMark other a ∧
        (limitMark side a = false → condIn .hardLimit t.cu.own = true ∧ t.cu.stopped = true ∧
          onlyChanges (.pins :: stopParts) s.node t) ∧
        (limitMark side a = true → onlyChanges [.pins] s.node t)) ∧
      completes (.limitInactive c side) s (fun t =>
        limitMark side (getAx c t) = false ∧ limitMark other (getAx c t) = limitMark other a ∧
        t.cu.stopped = s.node.cu.stopped ∧ onlyChanges [chanPart c, .pins] s.node t)) ∧
    (p.clampFitted = true → a.clamp = .unclamping →
      completes (.unclampConfirmed c) s (fun t =>
        (getAx c t).clamp = .unclamped ∧ (getAx c t).clampTimer = 0 ∧
        onlyChanges [chanPart c, .pins] s.node t) ∧
      completes (.unclampTimeout c) s (fun t =>
        (getAx c t).clamp = .clamping ∧ (getAx c t).clampTimer = 2000 ∧
        (getAx c t).abandoned = true ∧ (a.motion = .jog → (getAx c t).jogAccum = 0) ∧
        onlyChanges [chanPart c] s.node t)) ∧
    (p.clampFitted = true → a.clamp = .clamping →
      completes (.clampConfirmed c) s (fun t =>
        (getAx c t).clamp = .clamped ∧ (getAx c t).clampTimer = 0 ∧
        onlyChanges [chanPart c, .pins] s.node t) ∧
      completes (.clampTimeout c) s (fun t =>
        (getAx c t).clamp = .clamped ∧ onlyChanges [chanPart c] s.node t)) ∧
    (p.clampFitted = false ∨ a.clamp ≠ .unclamping →
      completes (.unclampConfirmed c) s (fun t => onlyChanges [] s.node t) ∧
      completes (.unclampTimeout c) s (fun t => onlyChanges [] s.node t)) ∧
    (p.clampFitted = false ∨ a.clamp ≠ .clamping →
      completes (.clampConfirmed c) s (fun t => onlyChanges [] s.node t) ∧
      completes (.clampTimeout c) s (fun t => onlyChanges [] s.node t)) ∧
    (let free := (s.node.nt.mode = .auto ∧ a.abandoned = false ∧ ∃ e, evaluatedHead s.node = some e ∧
          s.node.su.node.val ∈ participants e ∧ displaces c e) ∨
        (∃ e ∈ s.node.bq.entries, (e.state = .committed ∨ e.state = .running) ∧ displaces c e) ∨
        a.motion = .jog ∨ a.motion = .reference ∨ 0 < a.jogRecent
      let pin := axPins c s.node.pins
      let u := clampTick c p s.node
      let becomes (state : ClampState) (timer : Nat) : Prop :=
        getAx c u = { a with clamp := state, clampTimer := timer } ∧ onlyChanges [chanPart c] s.node u
      let unclamps := pin.unclamped = true ∧ pin.clamped = false
      let clamps := pin.clamped = true ∧ pin.unclamped = false
      (p.clampFitted = false → u = s.node) ∧
      (p.clampFitted = true → a.clamp = .clamped →
        (free → becomes .unclamping 2000) ∧ (¬free → u = s.node)) ∧
      (p.clampFitted = true → a.clamp = .unclamped →
        (¬free → becomes .clamping 2000) ∧ (free → u = s.node)) ∧
      (p.clampFitted = true → a.clamp = .unclamping → ¬unclamps → 1 < a.clampTimer →
        (¬free → becomes .clamping 2000) ∧ (free → becomes .unclamping (a.clampTimer - 1))) ∧
      (p.clampFitted = true → a.clamp = .clamping → ¬clamps → 1 < a.clampTimer →
        (free → becomes .unclamping 2000) ∧ (¬free → becomes .clamping (a.clampTimer - 1))))

/-! ### Spindle, gearbox and coolant -/

/-- R128, R129, R135, R62: SPINDLE frames at a node with the unit. A start form is ignored in AUTO, under
the latch and in a gearbox that takes no request, with no change of the unit or of a condition; otherwise the
settled speed becomes the request, a speed of 0 as a stop form does (R135), and one that settles to 0 as
"stopped" (assumption log 33), speeds above every range included (log 9); a shift to its range begins where
the gearbox is not ENGAGED in it, and SPEED_LIMITED says whether the speed was clamped. A stop form makes the
request "stopped" and the speed command 0 at once (log 32), with SPINDLE_FAULT where a block runs in AUTO
with a command above 0. Every accepted start or stop form makes the request and the range in force unknown, a
start form with a direction outside its list too, which does nothing else (log 57), nor to the pendant's manual speed
record (the model's choice, log 90). An override form sets the
override, within 50 to 120. A form outside its list does nothing. -/
def Obligations.SpindleFrames : Prop :=
  ∀ (rx : Rx) (form : Byte) (speed : BitVec 16) (dir value : Byte) (s : State) (p : SpindleParams),
    s.node.par.spindle = some p →
    frameCompletes (.spindle rx form speed dir value) rx s (fun m t =>
      onlyChanges [.spindle, .conds, .blocks, .pendant] m t ∧
      (form = 0 ∨ form = 1 →
        t.bq = { m.bq with spindleForce := none, rangeForce := none }) ∧
      (∀ ccw, form = 0 → boolOfCode dir = some ccw →
        (m.nt.mode = .auto ∨ m.cu.stopped = true ∨ takesRequest m.sg = false →
          onlyChanges [.blocks, .pendant] m t) ∧
        (m.nt.mode ≠ .auto → m.cu.stopped = false → takesRequest m.sg = true →
          (0 < speed.toNat →
            let q := settle p speed.toNat none
            t.sg.request = keptRequest q.2.1 ccw ∧ condIn .speedLimited t.cu.own = q.2.2 ∧
            t.sg.gear = (if m.sg.gear = .engaged q.1 then m.sg.gear else .stoppingForShift)) ∧
          (speed.toNat = 0 →
            t.sg.request = none ∧ t.sg.command = 0 ∧ t.sg.gear = m.sg.gear ∧
            condIn .speedLimited t.cu.own = false))) ∧
      (form = 1 →
        t.sg.request = none ∧ t.sg.command = 0 ∧
        condIn .speedLimited t.cu.own = false ∧ t.sg.gear = m.sg.gear ∧
        (m.nt.mode = .auto → m.pg.run.isSome = true → 0 < m.sg.command →
          condIn .spindleFault t.cu.own = true)) ∧
      (form = 2 →
        t.sg.override = max 50 (min 120 value.toNat) ∧ t.sg.request = m.sg.request ∧
        t.bq = m.bq) ∧
      (form = 0 → boolOfCode dir = none → onlyChanges [.blocks] m t) ∧
      (2 < form.toNat → onlyChanges [] m t))

/-- R160, R62: a COOLANT frame at a node with the unit. An on part sets its circuit's demand but in AUTO and
under the latch; an off part clears it; "unchanged" leaves it; the coolant set in force is unknown. No circuit
changes its state at the frame: the demands are compared at the motion tick (R148; the model's reading,
assumption log 35). A code outside its list makes the unit discard the frame, and the coolant set in force is
unknown all the same (log 57). -/
def Obligations.CoolantFrames : Prop :=
  ∀ (rx : Rx) (flood tsc air : Byte) (s : State), s.node.par.coolant.isSome = true →
    frameCompletes (.coolant rx flood tsc air) rx s (fun m t =>
      t.bq = { m.bq with coolantForce := none } ∧
      (∀ f x a, partOfCode flood = some f → partOfCode tsc = some x → partOfCode air = some a →
        let takes (part : Option Bool) (old : Bool) : Bool :=
          match part with
          | none => old
          | some true => old || !(m.nt.mode == .auto || m.cu.stopped)
          | some false => false
        t.cl.demand = { flood := takes f m.cl.demand.flood, tsc := takes x m.cl.demand.tsc,
                        air := takes a m.cl.demand.air } ∧
        (m.nt.mode ≠ .auto → t.cl.manualOff = m.cl.manualOff) ∧
        { t.cl with demand := .empty, manualOff := .empty } =
          { m.cl with demand := .empty, manualOff := .empty } ∧
        onlyChanges [.coolant, .blocks] m t) ∧
      (partOfCode flood = none ∨ partOfCode tsc = none ∨ partOfCode air = none →
        onlyChanges [.blocks] m t))

/-- R127, R128, R132, R133, R134, R137, R140 to R142, R145: the spindle's events. A rest run of 100 makes a STOPPING spindle
STOPPED with ramped speed 0 and, in STOPPING_FOR_SHIFT, begins the step of shifter A, with its timer of
4,000 and its nudge, where A does not read its target (R140 to R142); an at-speed run of 100 sets the flag while a command stands; a fault run of 100 raises
SPINDLE_FAULT; the stop timer's end makes a STOPPING spindle STOPPED; and the unit acts on the head with
the settled target as its request, with SPEED_LIMITED as the settling leaves it (R128). R130, R131: at a motion tick
the speed command is formed, 0 where the request is "stopped", the gearbox not ENGAGED or the latch set, and
otherwise the overridden speed within the range's limits with the request's direction; the ramped speed moves toward
it by at most the ramp of the reference range, and the drive command follows R131's table. The at-speed run counts
the ticks within 5 percent, and the flag stands from its hundredth tick until one fails the test. The model's readings:
a row stands for its event whatever its counter or timer shows (assumption log 12), a latch set later in the tick makes
the command 0 at once (log 32), and the stop timer stops where the spindle becomes STOPPED at rest (log 34). -/
def Obligations.SpindleEvents : Prop :=
  ∀ (s : State) (p : SpindleParams), loaded s.node = true → s.node.par.spindle = some p →
    (s.node.sg.ramped = 0 → s.node.sg.restRun < 100 →
      completes .spindleAtRest s (fun t =>
        t.sg.restRun = 100 ∧
        (s.node.sg.gear ≠ .stoppingForShift → s.node.sg.spindle = .stopping →
          t.sg.spindle = .stopped ∧ t.sg.ramped = 0 ∧ t.sg.stopTimer = none) ∧
        (s.node.sg.gear = .stoppingForShift → readsTarget p .a s.node.sg = false →
          t.sg.spindle = .stopped ∧ t.sg.gear = .shiftingA ∧ t.sg.shiftTimer = 4000 ∧
          t.sg.nudging = true) ∧
        (s.node.sg.gear ≠ .stoppingForShift → onlyChanges [.spindle] s.node t))) ∧
    completes .atSpeed s (fun t =>
      onlyChanges [.spindle] s.node t ∧
      (commandStands s.node.sg = true → t.sg.atSpeed = true ∧ t.sg.atRun = 100) ∧
      (commandStands s.node.sg = false → onlyChanges [] s.node t)) ∧
    completes .spindleFaultRun s (fun t =>
      onlyChanges [.spindle, .conds] s.node t ∧
      (s.node.pg.run.isSome = true → commandStands s.node.sg = true →
        s.node.sg.ramped = aimOf s.node.sg → s.node.sg.faultRun < 100 →
        t.sg.faultRun = 100 ∧ condIn .spindleFault t.cu.own = true) ∧
      (s.node.pg.run = none ∨ 100 ≤ s.node.sg.faultRun → onlyChanges [] s.node t)) ∧
    completes .spindleStopTimerExpiry s (fun t =>
      onlyChanges [.spindle] s.node t ∧
      (s.node.sg.stopTimer.isSome = true → t.sg.stopTimer = none ∧
        (s.node.sg.spindle = .stopping → t.sg.spindle = .stopped ∧ t.sg.ramped = 0))) ∧
    (∀ e f, evaluatedHead s.node = some e → e.fields = some f →
      let x := spindleTarget p f s.node.sg
      completes .sgAct s (fun t =>
        onlyChanges [.spindle, .conds] s.node t ∧
        (sgMayAct e x s.node = true → t.sg.request = x.request ∧
          condIn .speedLimited t.cu.own = x.clamped ∧
          (∀ r, x.range = some r → s.node.sg.gear ≠ .engaged r →
            t.sg.gear = .stoppingForShift ∧ t.sg.target = some r)) ∧
        (sgMayAct e x s.node = false → onlyChanges [] s.node t))) ∧
    (∀ inputs : Pins, completes (.motionTick inputs) s (fun t =>
      let u := t.sg
      let ratio := (rangeOf p u.refRange).ratio
      let drive := Int.tdiv (u.ramped * ratio * 32767) (256000 * (p.motorMax : Int))
      let nudge := Int.tdiv ((p.nudge : Int) * 32767) p.motorMax
      let aim : Int := if u.commandCcw then -((u.command : Int) * 256) else u.command * 256
      let step : Int := (rangeOf p s.node.sg.refRange).ramp
      let old := s.node.sg.ramped
      u.override = s.node.sg.override ∧
      (t.cu.stopped = true ∨ u.request = none ∨ ¬isEngaged u → u.command = 0) ∧
      (∀ q r, t.cu.stopped = false → u.request = some q → u.gear = .engaged r →
        u.commandCcw = q.ccw ∧
        u.command =
          let k := q.rpm * u.override / 100
          if k < (rangeOf p r).min then (rangeOf p r).min
          else if (rangeOf p r).max < k then (rangeOf p r).max else k) ∧
      u.driveCmd = (if u.spindle ≠ .stopped then max (-32767) (min 32767 drive)
        else if u.nudging = false then 0 else if u.nudgeMinus then -nudge else nudge) ∧
      (∀ r, s.node.sg.gear = .engaged r → u.gear = .engaged r → t.cu.stopped = false →
        u.spindle ≠ .stopped →
        u.ramped = if old < aim then min (old + step) aim else max (old - step) aim))) ∧
    (∀ n : Node,
      let u := (speedTick p n).sg
      let aim : Int := if u.commandCcw then -((u.command : Int) * 256) else u.command * 256
      let step : Int := (rangeOf p n.sg.refRange).ramp
      let near := 0 < u.command ∧ (∃ r, u.gear = .engaged r) ∧
        ((u.estimate : Int) - u.command).natAbs * 20 ≤ u.command
      u.estimate = min (n.pins.feedback.toNat * 1000 / (rangeOf p n.sg.refRange).ratio) 9999 ∧
      (near → u.atRun = min (n.sg.atRun + 1) 100 ∧ u.atSpeed = decide (99 ≤ n.sg.atRun)) ∧
      (¬near → u.atRun = 0 ∧ u.atSpeed = false) ∧
      (u.spindle ≠ .stopped →
        u.ramped = if n.sg.ramped < aim then min (n.sg.ramped + step) aim
          else max (n.sg.ramped - step) aim))

/-- R138, R139, R141 to R143: the gearbox's events. A sensor's debounced level takes its raw level; a range
that opens makes the gearbox UNKNOWN with the command 0, and GEAR_LOST stops the machine where the spindle
turned; a new conflict makes it GEAR_FAULT; a confirmed step of A passes on to B and one of B, with A in
place, engages the target range with the retries at 0; the return to neutral counts a retry or, after two,
gives GEAR_FAULT. A step's timeout begins the neutral return of 2,000 ticks, the return's own gives
GEAR_FAULT, and the nudge reverses. -/
def Obligations.GearboxEvents : Prop :=
  ∀ (s : State) (p : SpindleParams), loaded s.node = true → s.node.par.spindle = some p →
    (∀ (sh : Shifter) (pos : ForkPos) (level : Bool), (sensorLevel sh pos s.node.sg).level ≠ level →
      let g := setSensor sh pos { level := level, run := 0 } s.node.sg
      completes (.shifterSensorChange sh pos level) s (fun t =>
        (sensorLevel sh pos t.sg).level = level ∧
        (readingOf sh g = .conflict → readingOf sh s.node.sg ≠ .conflict →
          t.sg.gear = .gearFault ∧ t.sg.command = 0 ∧ condIn .gearFault t.cu.own = true) ∧
        (readingOf sh g ≠ .conflict →
          (∀ r, s.node.sg.gear = .engaged r → patternOf p g = .opened →
            t.sg.gear = .unknown ∧ t.sg.command = 0 ∧
            (turning s.node.sg = true → condIn .gearLost t.cu.own = true ∧ t.cu.stopped = true)) ∧
          (∀ r, s.node.sg.gear = .unknown → patternOf p g = .valid r → t.sg.gear = .engaged r) ∧
          (s.node.sg.gear = .shiftingA → s.node.sg.step = .a → readsTarget p .a g = true →
            readsTarget p .b g = false →
            t.sg.gear = .shiftingB ∧ t.sg.step = .b ∧ t.sg.shiftTimer = 4000) ∧
          (∀ r, s.node.sg.gear = .shiftingB → s.node.sg.step = .b → readsTarget p .b g = true →
            readsTarget p .a g = true → s.node.sg.target = some r →
            t.sg.gear = .engaged r ∧ t.sg.retries = 0 ∧ condIn .gearRetry t.cu.own = false) ∧
          (s.node.sg.gear = .toNeutral → readingOf s.node.sg.step g = .neutral →
            (2 ≤ s.node.sg.retries →
              t.sg.gear = .gearFault ∧ condIn .gearFault t.cu.own = true) ∧
            (s.node.sg.retries < 2 →
              t.sg.retries = s.node.sg.retries + 1 ∧ condIn .gearRetry t.cu.own = true ∧
              t.sg.gear = stepState s.node.sg.step ∧ t.sg.shiftTimer = 4000))))) ∧
    completes .shiftTimeout s (fun t =>
      (s.node.sg.gear = .shiftingA ∨ s.node.sg.gear = .shiftingB →
        t.sg.gear = .toNeutral ∧ t.sg.step = s.node.sg.step ∧ t.sg.shiftTimer = 2000 ∧
        t.sg.nudging = true ∧ t.sg.nudgeMinus = false ∧ onlyChanges [.spindle] s.node t) ∧
      (s.node.sg.gear ≠ .shiftingA → s.node.sg.gear ≠ .shiftingB → onlyChanges [] s.node t)) ∧
    completes .neutralTimeout s (fun t =>
      (s.node.sg.gear = .toNeutral → t.sg.gear = .gearFault ∧ t.sg.nudging = false ∧
        condIn .gearFault t.cu.own = true ∧ onlyChanges [.spindle, .conds] s.node t) ∧
      (s.node.sg.gear ≠ .toNeutral → onlyChanges [] s.node t)) ∧
    completes .nudgeReverse s (fun t =>
      (s.node.sg.nudging = true → t.sg.nudgeMinus = (!s.node.sg.nudgeMinus) ∧
        t.sg.nudgeTimer = 200 ∧ onlyChanges [.spindle] s.node t) ∧
      (s.node.sg.nudging = false → onlyChanges [] s.node t))

/-- R149, R150, R153 to R155, R157, R159: the coolant unit's events. FLOOD in STARTING is proven by its flow
switch and fails at its timer, in PROVEN it fails as the switch goes off, and in STOPPING it is OFF at
either; a low tank raises TANK_LOW and stops both pumps. TSC fails at its start timeout with a bleed of
1,000, and degraded it puts the image's clamp in force with COOLANT_DEGRADED; the bleed's end in STOPPING
makes it OFF. A loss run of 500 marks TSC lost with COOLANT_LOST. The unit acts on the head by setting the
demands of its circuits that are not off by hand; the demands are compared at the motion tick, not at this
event (the model's reading, assumption log 35). -/
def Obligations.CoolantEvents : Prop :=
  ∀ (s : State) (p : CoolantParams), loaded s.node = true → s.node.par.coolant = some p →
    let c := s.node.cl
    completes .flowSwitchOn s (fun t =>
      t.cl.flow.level = true ∧ t.cl.flood = (if c.flood = .starting then .proven else c.flood) ∧
      onlyChanges [.coolant, .pins, .conds] s.node t) ∧
    completes .flowSwitchOff s (fun t =>
      t.cl.flow.level = false ∧
      t.cl.flood = (match c.flood with | .proven => .fault | .stopping => .off | x => x) ∧
      onlyChanges [.coolant, .pins, .conds] s.node t) ∧
    completes .floodTimerExpiry s (fun t =>
      t.cl.flood = (match c.flood with | .starting => .fault | .stopping => .off | x => x) ∧
      onlyChanges [.coolant, .conds] s.node t) ∧
    completes .tankLowActive s (fun t =>
      t.cl.tank.level = true ∧ onlyChanges [.coolant, .pins, .conds] s.node t ∧
      (c.tank.level = false → condIn .tankLow t.cu.own = true ∧
        (circOn c.flood = true → t.cl.flood = .stopping ∧ t.cl.floodTimer = 3000) ∧
        (circOn c.tsc = true → t.cl.tsc = .stopping ∧ t.cl.bleed = 1000) ∧
        t.cl.demand = c.demand)) ∧
    completes .tankLowInactive s (fun t =>
      t.cl.tank.level = false ∧ onlyChanges [.coolant, .pins, .conds] s.node t ∧
      (c.tank.level = true → condIn .tankLow t.cu.own = false)) ∧
    completes .tscStartTimeout s (fun t =>
      onlyChanges [.coolant, .conds] s.node t ∧
      (c.tsc = .starting → t.cl.tsc = .fault ∧ t.cl.bleed = 1000) ∧
      (c.tsc ≠ .starting → t.cl = c)) ∧
    completes .tscDegraded s (fun t =>
      onlyChanges [.coolant, .conds] s.node t ∧
      (c.tsc = .proven → t.cl.tsc = .degraded ∧ t.cl.clamp = p.clamp ∧
        condIn .coolantDegraded t.cu.own = true) ∧
      (c.tsc ≠ .proven → t.cl = c)) ∧
    completes .bleedTimerExpiry s (fun t =>
      onlyChanges [.coolant, .conds] s.node t ∧
      (c.tsc = .stopping → t.cl.tsc = .off ∧ t.cl.bleed = 0) ∧
      (c.tsc = .fault → t.cl.tsc = .fault ∧ t.cl.bleed = 0)) ∧
    completes .lossRunLimit s (fun t =>
      onlyChanges [.coolant, .conds] s.node t ∧
      (required .tsc s.node = true → circProven .tsc c = true → c.lossRun < 500 →
        t.cl.lossRun = 500 ∧ t.cl.loss.tsc = true ∧
        (c.loss.tsc = false → condIn .coolantLost t.cu.own = true)) ∧
      (required .tsc s.node = false ∨ 500 ≤ c.lossRun → t.cl = c)) ∧
    (∀ e f, evaluatedHead s.node = some e → e.fields = some f →
      completes .clAct s (fun t =>
        onlyChanges [.coolant] s.node t ∧
        t.cl = (if clMayAct e s.node then
            { c with demand := demandOn (f.coolant.getD .empty) c.manualOff c.demand } else c)))

/-! ### The pendant -/

/-- R163, R164: the handwheel and the controls at a node with the pendant. Four edges one way make a
detent; the detent count stays within ±32,767 and at 0 while the wheel cannot jog; leaving the middle
switches the enabling switch off at once and drops the detents; a debounced reading takes its value, and a
new axis or increment drops the detents. That the wheel is tested at an edge and at the switch as well, not only at the
start of a tick, is the model's choice, assumption log 87. -/
def Obligations.HandwheelAndControls : Prop :=
  ∀ s : State, loaded s.node = true → s.node.par.pendant.isSome = true →
    (∀ up : Bool, completes (.handwheelEdge up) s (fun t =>
      let r := s.node.pd.residue + (if up then 1 else -1)
      onlyChanges [.pendant] s.node t ∧
      t.pd.residue = (if 4 ≤ r ∨ r ≤ -4 then 0 else r) ∧
      (wheelIdle s.node = true → t.pd.detents = 0) ∧
      (wheelIdle s.node = false → t.pd.detents = max (-32767) (min 32767
        (s.node.pd.detents + (if 4 ≤ r then 1 else if r ≤ -4 then -1 else 0)))))) ∧
    (∀ through : Bool, completes (.enablingSwitchRelease through) s (fun t =>
      onlyChanges [.pendant] s.node t ∧
      (s.node.pd.enable.val = .middle → enableOn t = false ∧ t.pd.detents = 0 ∧
        t.pd.enable.val = (if through then .pressedThrough else .released)) ∧
      (s.node.pd.enable.val ≠ .middle → t.pd = s.node.pd))) ∧
    (∀ m, completes (.controlDebounce (.mode m)) s (fun t =>
      onlyChanges [.pendant] s.node t ∧ t.pd.mode.val = m ∧ t.pd.detents = s.node.pd.detents)) ∧
    (∀ x, completes (.controlDebounce (.axisSel x)) s (fun t =>
      onlyChanges [.pendant] s.node t ∧ t.pd.axisSel.val = some x ∧
      (s.node.pd.axisSel.val ≠ some x → t.pd.detents = 0))) ∧
    (∀ i, completes (.controlDebounce (.increment i)) s (fun t =>
      onlyChanges [.pendant] s.node t ∧ t.pd.increment.val = i ∧
      (s.node.pd.increment.val ≠ i → t.pd.detents = 0))) ∧
    (∀ e, completes (.controlDebounce (.enable e)) s (fun t =>
      onlyChanges [.pendant] s.node t ∧ t.pd.enable.val = e)) ∧
    (∀ b d, completes (.controlDebounce (.button b d)) s (fun t =>
      onlyChanges [.pendant] s.node t ∧ buttonReading b t.pd = d))

/-- R171 to R175: the presses of the buttons, from up, at a node with the pendant. Each asks for its frame
under its conditions, and with room in the transmit queue the frame waits there: RESUME, HOLD, FAULTCLR,
REFERENCE with the selected axis, SPINDLE start with the manual speed record, SPINDLE stop, and COOLANT
with FLOOD off where it is reported on. In the other cases nothing is asked for: a button that is down
already, one whose conditions fail, SPINDLE START with no manual speed record, COOLANT with no reported FLOOD
state it acts on, which for a FLOOD reported DEGRADED is the model's choice (assumption log 91), and FEED HOLD while held or with a HOLD of the node's own waiting or one kept, where the
press only withdraws a pending RESUME and leaves one in transmission unmarked, to be pending again if its attempt fails
(the model's choice, assumption log 83). A FEED HOLD down through the reset asks for nothing (R175). -/
def Obligations.ButtonPresses : Prop :=
  ∀ s : State, loaded s.node = true → s.node.par.pendant.isSome = true →
    let n := s.node
    let silent (i : Instr) (b : Button) : Prop :=
      completes i s (fun t =>
        onlyChanges [.pendant] n t ∧ buttonReading b t.pd = true ∧ (asksNoState n → t.lc = n.lc))
    let pressing (i : Instr) (b : Button) (wants : Bool) (p : Payload) : Prop :=
      completes i s (fun t =>
        onlyChanges [.pendant] n t ∧ buttonReading b t.pd = true ∧
        (buttonReading b n.pd = false → wants = true → hasRoom n → waiting p t)) ∧
      (buttonReading b n.pd = true ∨ wants = false → silent i b)
    pressing .cycleStart .cycleStart (cycleAllowed n) .resume ∧
    pressing .resetButton .reset (!txHas isFaultclr n) .faultclr ∧
    pressing .refButton .ref (n.nt.mode == .setup && (selectedAxis n).isSome)
      (.reference (BitVec.ofNat 8 ((selectedAxis n).getD 0))) ∧
    (∀ q : SpeedDir, n.pd.manual = some q →
      pressing .spindleStart .spindleStart (n.nt.mode != .auto)
        (.spindle 0 (BitVec.ofNat 16 q.rpm) (boolCode q.ccw) 0)) ∧
    (n.pd.manual = none → silent .spindleStart .spindleStart) ∧
    pressing .spindleStop .spindleStop true (.spindle 1 0 0 0) ∧
    (reportedFlood n = some .starting ∨ reportedFlood n = some .proven →
      pressing .coolantButton .coolant true (.coolant 2 0 0)) ∧
    (reportedFlood n = some .off ∨ reportedFlood n = some .stopping ∨
        reportedFlood n = some .fault →
      pressing .coolantButton .coolant (n.nt.mode != .auto) (.coolant 1 0 0)) ∧
    (reportedFlood n = none ∨ reportedFlood n = some .degraded →
      silent .coolantButton .coolant) ∧
    completes .feedHold s (fun t =>
      let quiet := n.cu.held = true ∨ txHas isHold n = true ∨ keptHold n = true ∨
        (n.pd.btnHold.val = true ∧ n.pd.holdPressed = false)
      onlyChanges [.pendant] n t ∧ t.pd.btnHold.val = true ∧
      (n.pd.btnHold.val = false → ∀ e ∈ t.lc.queue, isResume e.payload = true → e.inTx = true) ∧
      (¬quiet → hasRoom n → waiting .hold t) ∧
      (quiet → asksNoState n →
        { t.lc with queue := [] } = { n.lc with queue := [] } ∧
        t.lc.queue = if n.pd.btnHold.val then n.lc.queue
          else n.lc.queue.filter fun e => e.inTx || !isResume e.payload))

/-- R165 to R170, R166's acceptance included: the requests of the pendant unit at the start of a motion tick,
after its readings, its knobs, its timers and the handwheel. A lost JOG's toggle flips and its detents are
discarded. With detents counted, the JOG timer at 10 and none outstanding a JOG carries the selected axis, the
increment, the toggle and the count clamped to ±127, and the excess stays counted; the node's own JOG accepted
with the outstanding toggle ends it. The feed knob's value is asked for where it differs from the knob value or
the resend mark is set, its timer at 20 and no own knob OVERRIDE on its way; the spindle knob's where it differs
from the last one accepted. Readings unlike the own panel fields ask for a PANEL unless one with them is pending
or one is in transmission, and a pending one with others is withdrawn. The order within the tick, lost JOG, JOG, feed
knob, spindle knob, PANEL and then the presses, is the model's reading, assumption log 36. A knob's index moves only beyond a third
of a step past the midpoint, as in R167's example. A node without the pendant does nothing. -/
def Obligations.PendantRequestsAtTheTick : Prop :=
  (∀ n : Node, n.par.pendant = none → pendantTick n = n) ∧
  (∀ n : Node, n.par.pendant.isSome = true →
    let pins := n.pins.pendant
    let pd := timersTick (knobsTick pins (buttonsTick pins.buttons (selectorsTick pins n.pd)))
    let read := wheelGate (selectorGate n.pd { n with pd := pd })
    pendantTick n =
      pressesTick n.pd
        (panelRequest (spindleKnobRequest (knobRequest (jogRequest (jogLostTest read)))))) ∧
  (∀ pd : PD, timersTick pd =
    { pd with jogTimer := min (pd.jogTimer + 1) 10, ovrTimer := min (pd.ovrTimer + 1) 20,
              spTimer := min (pd.spTimer + 1) 20 }) ∧
  (∀ (last k i : Nat), k ≤ 4095 → i ≤ last →
    let u := k * 6 * last / 4095
    knobIndex last k i ≤ last ∧
    (6 * i + 5 ≤ u → knobIndex last k i = min ((u + 3) / 6) last) ∧
    (u + 5 ≤ 6 * i → knobIndex last k i = (u + 3) / 6) ∧
    (u < 6 * i + 5 → 6 * i < u + 5 → knobIndex last k i = i)) ∧
  (knobIndex 15 2957 10 = 10 ∧ knobIndex 15 2958 10 = 11 ∧ knobIndex 15 2548 10 = 10 ∧
    knobIndex 15 2547 10 = 9) ∧
  (∀ n : Node,
    let lost := n.pd.outstanding.isSome = true ∧ ∀ x ∈ n.lc.queue, isJog x.payload = false
    (lost → jogLostTest n =
      { n with pd := { n.pd with toggle := !n.pd.toggle, outstanding := none } }) ∧
    (¬lost → jogLostTest n = n)) ∧
  (∀ n : Node,
    let u := jogRequest n
    let due := n.pd.detents ≠ 0 ∧ 10 ≤ n.pd.jogTimer ∧ n.pd.outstanding = none
    let k := max (-127) (min 127 n.pd.detents)
    (due → u.pd = { n.pd with detents := n.pd.detents - k, jogTimer := 0,
                              outstanding := some (k, n.pd.toggle) } ∧
      onlyChanges [.pendant] n u ∧
      (hasRoom n → waiting (.jog (axisByte (selectedAxis n)) (incrementCode n.pd.increment.val)
        (BitVec.ofInt 8 k) (if n.pd.toggle then 1 else 0)) u)) ∧
    (¬due → u = n)) ∧
  (∀ (rx : Rx) (axis inc det tog : Byte) (g : Bool) (k : Int) (s : State), rx.own = true →
    incrementOfCode inc ≠ none → boolOfCode tog = some g → det.toInt ≠ -128 →
    frameCompletes (.jog rx axis inc det tog) rx s (fun m t =>
      (m.pd.outstanding = some (k, g) → t.pd.outstanding = none ∧ t.pd.toggle = !m.pd.toggle) ∧
      (m.pd.outstanding = some (k, !g) ∨ m.pd.outstanding = none → t.pd = m.pd))) ∧
  (∀ n : Node,
    let u := knobRequest n
    let due := (10 * n.pd.feedIdx ≠ n.pg.knob ∨ n.pd.resend = true) ∧ 20 ≤ n.pd.ovrTimer ∧
      (∀ x ∈ n.lc.queue, isKnobOverride x.payload = false) ∧
      (∀ x ∈ n.kept, x.own = true → isKnobOverride x.payload = false)
    (due → u.pd = { n.pd with ovrTimer := 0 } ∧ onlyChanges [.pendant] n u ∧
      (hasRoom n → waiting (.override 0 (BitVec.ofNat 8 (10 * n.pd.feedIdx))) u)) ∧
    (¬due → u = n)) ∧
  (∀ n : Node,
    let u := spindleKnobRequest n
    let due := n.pd.lastSp ≠ some (50 + 10 * n.pd.spindleIdx) ∧ 20 ≤ n.pd.spTimer ∧
      (∀ x ∈ n.lc.queue, isSpindleOverride x.payload = false)
    (due → u.pd = { n.pd with spTimer := 0 } ∧ onlyChanges [.pendant] n u ∧
      (hasRoom n → waiting (.spindle 2 0 0 (BitVec.ofNat 8 (50 + 10 * n.pd.spindleIdx))) u)) ∧
    (¬due → u = n)) ∧
  (∀ (n : Node) (r : Panel), panelReadings n = some r →
    let u := panelRequest n
    let own := (entryAt n.su.node.val n).panel
    let busy := ∃ x ∈ n.lc.queue, isPanel x.payload = true ∧
      (x.inTx = true ∨ x.payload = .panel (panelBody r))
    (own = some r ∨ busy → u = n) ∧
    (own ≠ some r → ¬busy → onlyChanges [] n u ∧
      (∀ x ∈ u.lc.queue, isPanel x.payload = true → x.payload = .panel (panelBody r)) ∧
      (hasRoom n → waiting (.panel (panelBody r)) u)))

/-! ### What every step keeps -/

/-- R12, R17, R21, R182, R56, R88, R96, R105: every step keeps the bounds of the line controller, of the
fault counts, of the block queue, of the override inputs and of the slew, and frame record 0 as it is. R22, R24,
R49, R184: and it keeps JOINING, an empty transmit queue, held and STOPPED before the end of LOADING. -/
def Obligations.EveryStepKeepsTheBounds : Prop :=
  ∀ s t : State, step s = .next t →
    (lineBounded s.node → lineBounded t.node) ∧ (countsBounded s.node → countsBounded t.node) ∧
    (blocksBounded s.node → blocksBounded t.node) ∧
    (overridesBounded s.node → overridesBounded t.node) ∧
    (slewBounded s.node → slewBounded t.node) ∧ (frameZeroFixed s.node → frameZeroFixed t.node) ∧
    (loadingWaits s.node → loadingWaits t.node)

/-- R130, R139, R145: every step keeps the spindle speed command at 0 unless a request stands, the gearbox is
ENGAGED and the STOPPED latch is clear. That the command falls to 0 at the event that ends one of these, and
not at the next motion tick, is the model's choice (assumption log 32). -/
def Obligations.EveryStepKeepsTheCommandAllowed : Prop :=
  ∀ s t : State, step s = .next t → commandAllowed s.node → commandAllowed t.node

/-- The bounds and the spindle rule that every step keeps hold of the machine after reset (R22, R76, R99,
R126, R147, R184). -/
def Obligations.TheInvariantsHoldAtReset : Prop :=
  lineBounded State.reset.node ∧ countsBounded State.reset.node ∧ blocksBounded State.reset.node ∧
  overridesBounded State.reset.node ∧ slewBounded State.reset.node ∧ frameZeroFixed State.reset.node ∧
  loadingWaits State.reset.node ∧ commandAllowed State.reset.node
end

