-- ==== Sys2Proof/Laws/State.lean ====
section
/-! SUPPORT. The fields of a node after each named update: one lemma per field per update. -/

namespace Sys2Proof.Machine

/-! ### Channels -/

@[simp] theorem getAx_setAx (c : Chan) (a : Axis) (n : Node) : getAx c (setAx c a n) = a := by
  cases c <;> rfl
@[simp] theorem getAx_onAx (c : Chan) (f : Axis → Axis) (n : Node) : getAx c (onAx c f n) = f (getAx c n) := by
  cases c <;> rfl
@[simp] theorem setAx_su (c : Chan) (a : Axis) (n : Node) : (setAx c a n).su = n.su := by
  cases c <;> rfl
@[simp] theorem onAx_su (c : Chan) (g : Axis → Axis) (n : Node) : (onAx c g n).su = n.su := by
  cases c <;> rfl
@[simp] theorem setAx_par (c : Chan) (a : Axis) (n : Node) : (setAx c a n).par = n.par := by
  cases c <;> rfl
@[simp] theorem onAx_par (c : Chan) (g : Axis → Axis) (n : Node) : (onAx c g n).par = n.par := by
  cases c <;> rfl
@[simp] theorem setAx_lc (c : Chan) (a : Axis) (n : Node) : (setAx c a n).lc = n.lc := by
  cases c <;> rfl
@[simp] theorem onAx_lc (c : Chan) (g : Axis → Axis) (n : Node) : (onAx c g n).lc = n.lc := by
  cases c <;> rfl
@[simp] theorem setAx_nt (c : Chan) (a : Axis) (n : Node) : (setAx c a n).nt = n.nt := by
  cases c <;> rfl
@[simp] theorem onAx_nt (c : Chan) (g : Axis → Axis) (n : Node) : (onAx c g n).nt = n.nt := by
  cases c <;> rfl
@[simp] theorem setAx_cu (c : Chan) (a : Axis) (n : Node) : (setAx c a n).cu = n.cu := by
  cases c <;> rfl
@[simp] theorem onAx_cu (c : Chan) (g : Axis → Axis) (n : Node) : (onAx c g n).cu = n.cu := by
  cases c <;> rfl
@[simp] theorem setAx_kept (c : Chan) (a : Axis) (n : Node) : (setAx c a n).kept = n.kept := by
  cases c <;> rfl
@[simp] theorem onAx_kept (c : Chan) (g : Axis → Axis) (n : Node) : (onAx c g n).kept = n.kept := by
  cases c <;> rfl
@[simp] theorem setAx_bq (c : Chan) (a : Axis) (n : Node) : (setAx c a n).bq = n.bq := by
  cases c <;> rfl
@[simp] theorem onAx_bq (c : Chan) (g : Axis → Axis) (n : Node) : (onAx c g n).bq = n.bq := by
  cases c <;> rfl
@[simp] theorem setAx_pg (c : Chan) (a : Axis) (n : Node) : (setAx c a n).pg = n.pg := by
  cases c <;> rfl
@[simp] theorem onAx_pg (c : Chan) (g : Axis → Axis) (n : Node) : (onAx c g n).pg = n.pg := by
  cases c <;> rfl
@[simp] theorem setAx_sg (c : Chan) (a : Axis) (n : Node) : (setAx c a n).sg = n.sg := by
  cases c <;> rfl
@[simp] theorem onAx_sg (c : Chan) (g : Axis → Axis) (n : Node) : (onAx c g n).sg = n.sg := by
  cases c <;> rfl
@[simp] theorem setAx_cl (c : Chan) (a : Axis) (n : Node) : (setAx c a n).cl = n.cl := by
  cases c <;> rfl
@[simp] theorem onAx_cl (c : Chan) (g : Axis → Axis) (n : Node) : (onAx c g n).cl = n.cl := by
  cases c <;> rfl
@[simp] theorem setAx_pd (c : Chan) (a : Axis) (n : Node) : (setAx c a n).pd = n.pd := by
  cases c <;> rfl
@[simp] theorem onAx_pd (c : Chan) (g : Axis → Axis) (n : Node) : (onAx c g n).pd = n.pd := by
  cases c <;> rfl
@[simp] theorem setAx_pins (c : Chan) (a : Axis) (n : Node) : (setAx c a n).pins = n.pins := by
  cases c <;> rfl
@[simp] theorem onAx_pins (c : Chan) (g : Axis → Axis) (n : Node) : (onAx c g n).pins = n.pins := by
  cases c <;> rfl

/-! ### `setEntry` -/

@[simp] theorem setEntry_su (i : Nat) (e : NodeEntry) (n : Node) : (setEntry i e n).su = n.su := rfl
@[simp] theorem setEntry_par (i : Nat) (e : NodeEntry) (n : Node) : (setEntry i e n).par = n.par := rfl
@[simp] theorem setEntry_lc (i : Nat) (e : NodeEntry) (n : Node) : (setEntry i e n).lc = n.lc := rfl
@[simp] theorem setEntry_cu (i : Nat) (e : NodeEntry) (n : Node) : (setEntry i e n).cu = n.cu := rfl
@[simp] theorem setEntry_kept (i : Nat) (e : NodeEntry) (n : Node) : (setEntry i e n).kept = n.kept := rfl
@[simp] theorem setEntry_bq (i : Nat) (e : NodeEntry) (n : Node) : (setEntry i e n).bq = n.bq := rfl
@[simp] theorem setEntry_pg (i : Nat) (e : NodeEntry) (n : Node) : (setEntry i e n).pg = n.pg := rfl
@[simp] theorem setEntry_ax0 (i : Nat) (e : NodeEntry) (n : Node) : (setEntry i e n).ax0 = n.ax0 := rfl
@[simp] theorem setEntry_ax1 (i : Nat) (e : NodeEntry) (n : Node) : (setEntry i e n).ax1 = n.ax1 := rfl
@[simp] theorem setEntry_sg (i : Nat) (e : NodeEntry) (n : Node) : (setEntry i e n).sg = n.sg := rfl
@[simp] theorem setEntry_cl (i : Nat) (e : NodeEntry) (n : Node) : (setEntry i e n).cl = n.cl := rfl
@[simp] theorem setEntry_pd (i : Nat) (e : NodeEntry) (n : Node) : (setEntry i e n).pd = n.pd := rfl
@[simp] theorem setEntry_pins (i : Nat) (e : NodeEntry) (n : Node) : (setEntry i e n).pins = n.pins := rfl
@[simp] theorem setEntry_nt_mode (i : Nat) (e : NodeEntry) (n : Node) : (setEntry i e n).nt.mode = n.nt.mode := rfl
@[simp] theorem setEntry_nt_modeSource (i : Nat) (e : NodeEntry) (n : Node) : (setEntry i e n).nt.modeSource = n.nt.modeSource := rfl
@[simp] theorem setEntry_nt_sourceMode (i : Nat) (e : NodeEntry) (n : Node) : (setEntry i e n).nt.sourceMode = n.nt.sourceMode := rfl
@[simp] theorem setEntry_nt_enabling (i : Nat) (e : NodeEntry) (n : Node) : (setEntry i e n).nt.enabling = n.nt.enabling := rfl
@[simp] theorem setEntry_nt_machineSet (i : Nat) (e : NodeEntry) (n : Node) : (setEntry i e n).nt.machineSet = n.nt.machineSet := rfl
@[simp] theorem setEntry_nt_clashes (i : Nat) (e : NodeEntry) (n : Node) : (setEntry i e n).nt.clashes = n.nt.clashes := rfl
@[simp] theorem setEntry_nt_stateTimer (i : Nat) (e : NodeEntry) (n : Node) : (setEntry i e n).nt.stateTimer = n.nt.stateTimer := rfl
@[simp] theorem setEntry_nt_stateRunning (i : Nat) (e : NodeEntry) (n : Node) : (setEntry i e n).nt.stateRunning = n.nt.stateRunning := rfl
@[simp] theorem setEntry_nt_changeNoted (i : Nat) (e : NodeEntry) (n : Node) : (setEntry i e n).nt.changeNoted = n.nt.changeNoted := rfl
@[simp] theorem setEntry_nt_lastKey (i : Nat) (e : NodeEntry) (n : Node) : (setEntry i e n).nt.lastKey = n.nt.lastKey := rfl

/-! ### `setClamp` -/

@[simp] theorem setClamp_su (i v : Nat) (n : Node) : (setClamp i v n).su = n.su := rfl
@[simp] theorem setClamp_par (i v : Nat) (n : Node) : (setClamp i v n).par = n.par := rfl
@[simp] theorem setClamp_lc (i v : Nat) (n : Node) : (setClamp i v n).lc = n.lc := rfl
@[simp] theorem setClamp_nt (i v : Nat) (n : Node) : (setClamp i v n).nt = n.nt := rfl
@[simp] theorem setClamp_cu (i v : Nat) (n : Node) : (setClamp i v n).cu = n.cu := rfl
@[simp] theorem setClamp_kept (i v : Nat) (n : Node) : (setClamp i v n).kept = n.kept := rfl
@[simp] theorem setClamp_bq (i v : Nat) (n : Node) : (setClamp i v n).bq = n.bq := rfl
@[simp] theorem setClamp_ax0 (i v : Nat) (n : Node) : (setClamp i v n).ax0 = n.ax0 := rfl
@[simp] theorem setClamp_ax1 (i v : Nat) (n : Node) : (setClamp i v n).ax1 = n.ax1 := rfl
@[simp] theorem setClamp_sg (i v : Nat) (n : Node) : (setClamp i v n).sg = n.sg := rfl
@[simp] theorem setClamp_cl (i v : Nat) (n : Node) : (setClamp i v n).cl = n.cl := rfl
@[simp] theorem setClamp_pd (i v : Nat) (n : Node) : (setClamp i v n).pd = n.pd := rfl
@[simp] theorem setClamp_pins (i v : Nat) (n : Node) : (setClamp i v n).pins = n.pins := rfl

/-! ### `setDetents` -/

@[simp] theorem setDetents_su (d : Int) (n : Node) : (setDetents d n).su = n.su := rfl
@[simp] theorem setDetents_par (d : Int) (n : Node) : (setDetents d n).par = n.par := rfl
@[simp] theorem setDetents_lc (d : Int) (n : Node) : (setDetents d n).lc = n.lc := rfl
@[simp] theorem setDetents_nt (d : Int) (n : Node) : (setDetents d n).nt = n.nt := rfl
@[simp] theorem setDetents_cu (d : Int) (n : Node) : (setDetents d n).cu = n.cu := rfl
@[simp] theorem setDetents_kept (d : Int) (n : Node) : (setDetents d n).kept = n.kept := rfl
@[simp] theorem setDetents_bq (d : Int) (n : Node) : (setDetents d n).bq = n.bq := rfl
@[simp] theorem setDetents_pg (d : Int) (n : Node) : (setDetents d n).pg = n.pg := rfl
@[simp] theorem setDetents_ax0 (d : Int) (n : Node) : (setDetents d n).ax0 = n.ax0 := rfl
@[simp] theorem setDetents_ax1 (d : Int) (n : Node) : (setDetents d n).ax1 = n.ax1 := rfl
@[simp] theorem setDetents_sg (d : Int) (n : Node) : (setDetents d n).sg = n.sg := rfl
@[simp] theorem setDetents_cl (d : Int) (n : Node) : (setDetents d n).cl = n.cl := rfl
@[simp] theorem setDetents_pins (d : Int) (n : Node) : (setDetents d n).pins = n.pins := rfl

/-! ### `setDemand` -/

@[simp] theorem setDemand_su (c : Circ) (b : Bool) (n : Node) : (setDemand c b n).su = n.su := rfl
@[simp] theorem setDemand_par (c : Circ) (b : Bool) (n : Node) : (setDemand c b n).par = n.par := rfl
@[simp] theorem setDemand_lc (c : Circ) (b : Bool) (n : Node) : (setDemand c b n).lc = n.lc := rfl
@[simp] theorem setDemand_nt (c : Circ) (b : Bool) (n : Node) : (setDemand c b n).nt = n.nt := rfl
@[simp] theorem setDemand_cu (c : Circ) (b : Bool) (n : Node) : (setDemand c b n).cu = n.cu := rfl
@[simp] theorem setDemand_kept (c : Circ) (b : Bool) (n : Node) : (setDemand c b n).kept = n.kept := rfl
@[simp] theorem setDemand_bq (c : Circ) (b : Bool) (n : Node) : (setDemand c b n).bq = n.bq := rfl
@[simp] theorem setDemand_pg (c : Circ) (b : Bool) (n : Node) : (setDemand c b n).pg = n.pg := rfl
@[simp] theorem setDemand_ax0 (c : Circ) (b : Bool) (n : Node) : (setDemand c b n).ax0 = n.ax0 := rfl
@[simp] theorem setDemand_ax1 (c : Circ) (b : Bool) (n : Node) : (setDemand c b n).ax1 = n.ax1 := rfl
@[simp] theorem setDemand_sg (c : Circ) (b : Bool) (n : Node) : (setDemand c b n).sg = n.sg := rfl
@[simp] theorem setDemand_pd (c : Circ) (b : Bool) (n : Node) : (setDemand c b n).pd = n.pd := rfl
@[simp] theorem setDemand_pins (c : Circ) (b : Bool) (n : Node) : (setDemand c b n).pins = n.pins := rfl

/-! ### `withdrawPending` -/

@[simp] theorem withdrawPending_su (test : TxEntry → Bool) (n : Node) : (withdrawPending test n).su = n.su := rfl
@[simp] theorem withdrawPending_par (test : TxEntry → Bool) (n : Node) : (withdrawPending test n).par = n.par := rfl
@[simp] theorem withdrawPending_nt (test : TxEntry → Bool) (n : Node) : (withdrawPending test n).nt = n.nt := rfl
@[simp] theorem withdrawPending_cu (test : TxEntry → Bool) (n : Node) : (withdrawPending test n).cu = n.cu := rfl
@[simp] theorem withdrawPending_kept (test : TxEntry → Bool) (n : Node) : (withdrawPending test n).kept = n.kept := rfl
@[simp] theorem withdrawPending_bq (test : TxEntry → Bool) (n : Node) : (withdrawPending test n).bq = n.bq := rfl
@[simp] theorem withdrawPending_pg (test : TxEntry → Bool) (n : Node) : (withdrawPending test n).pg = n.pg := rfl
@[simp] theorem withdrawPending_ax0 (test : TxEntry → Bool) (n : Node) : (withdrawPending test n).ax0 = n.ax0 := rfl
@[simp] theorem withdrawPending_ax1 (test : TxEntry → Bool) (n : Node) : (withdrawPending test n).ax1 = n.ax1 := rfl
@[simp] theorem withdrawPending_sg (test : TxEntry → Bool) (n : Node) : (withdrawPending test n).sg = n.sg := rfl
@[simp] theorem withdrawPending_cl (test : TxEntry → Bool) (n : Node) : (withdrawPending test n).cl = n.cl := rfl
@[simp] theorem withdrawPending_pd (test : TxEntry → Bool) (n : Node) : (withdrawPending test n).pd = n.pd := rfl
@[simp] theorem withdrawPending_pins (test : TxEntry → Bool) (n : Node) : (withdrawPending test n).pins = n.pins := rfl

/-! ### `withdrawNamed` -/

@[simp] theorem withdrawNamed_su (test : Payload → Bool) (n : Node) : (withdrawNamed test n).su = n.su := rfl
@[simp] theorem withdrawNamed_par (test : Payload → Bool) (n : Node) : (withdrawNamed test n).par = n.par := rfl
@[simp] theorem withdrawNamed_nt (test : Payload → Bool) (n : Node) : (withdrawNamed test n).nt = n.nt := rfl
@[simp] theorem withdrawNamed_cu (test : Payload → Bool) (n : Node) : (withdrawNamed test n).cu = n.cu := rfl
@[simp] theorem withdrawNamed_kept (test : Payload → Bool) (n : Node) : (withdrawNamed test n).kept = n.kept := rfl
@[simp] theorem withdrawNamed_bq (test : Payload → Bool) (n : Node) : (withdrawNamed test n).bq = n.bq := rfl
@[simp] theorem withdrawNamed_pg (test : Payload → Bool) (n : Node) : (withdrawNamed test n).pg = n.pg := rfl
@[simp] theorem withdrawNamed_ax0 (test : Payload → Bool) (n : Node) : (withdrawNamed test n).ax0 = n.ax0 := rfl
@[simp] theorem withdrawNamed_ax1 (test : Payload → Bool) (n : Node) : (withdrawNamed test n).ax1 = n.ax1 := rfl
@[simp] theorem withdrawNamed_sg (test : Payload → Bool) (n : Node) : (withdrawNamed test n).sg = n.sg := rfl
@[simp] theorem withdrawNamed_cl (test : Payload → Bool) (n : Node) : (withdrawNamed test n).cl = n.cl := rfl
@[simp] theorem withdrawNamed_pd (test : Payload → Bool) (n : Node) : (withdrawNamed test n).pd = n.pd := rfl
@[simp] theorem withdrawNamed_pins (test : Payload → Bool) (n : Node) : (withdrawNamed test n).pins = n.pins := rfl

/-! ### `purgeTx` -/

@[simp] theorem purgeTx_su  (n : Node) : (purgeTx  n).su = n.su := rfl
@[simp] theorem purgeTx_par  (n : Node) : (purgeTx  n).par = n.par := rfl
@[simp] theorem purgeTx_nt  (n : Node) : (purgeTx  n).nt = n.nt := rfl
@[simp] theorem purgeTx_cu  (n : Node) : (purgeTx  n).cu = n.cu := rfl
@[simp] theorem purgeTx_kept  (n : Node) : (purgeTx  n).kept = n.kept := rfl
@[simp] theorem purgeTx_bq  (n : Node) : (purgeTx  n).bq = n.bq := rfl
@[simp] theorem purgeTx_pg  (n : Node) : (purgeTx  n).pg = n.pg := rfl
@[simp] theorem purgeTx_ax0  (n : Node) : (purgeTx  n).ax0 = n.ax0 := rfl
@[simp] theorem purgeTx_ax1  (n : Node) : (purgeTx  n).ax1 = n.ax1 := rfl
@[simp] theorem purgeTx_sg  (n : Node) : (purgeTx  n).sg = n.sg := rfl
@[simp] theorem purgeTx_cl  (n : Node) : (purgeTx  n).cl = n.cl := rfl
@[simp] theorem purgeTx_pd  (n : Node) : (purgeTx  n).pd = n.pd := rfl
@[simp] theorem purgeTx_pins  (n : Node) : (purgeTx  n).pins = n.pins := rfl

/-! ### `noteRaise` -/

@[simp] theorem noteRaise_su (c : Cond) (d : Byte) (n : Node) : (noteRaise c d n).su = n.su := rfl
@[simp] theorem noteRaise_par (c : Cond) (d : Byte) (n : Node) : (noteRaise c d n).par = n.par := rfl
@[simp] theorem noteRaise_lc (c : Cond) (d : Byte) (n : Node) : (noteRaise c d n).lc = n.lc := rfl
@[simp] theorem noteRaise_kept (c : Cond) (d : Byte) (n : Node) : (noteRaise c d n).kept = n.kept := rfl
@[simp] theorem noteRaise_bq (c : Cond) (d : Byte) (n : Node) : (noteRaise c d n).bq = n.bq := rfl
@[simp] theorem noteRaise_pg (c : Cond) (d : Byte) (n : Node) : (noteRaise c d n).pg = n.pg := rfl
@[simp] theorem noteRaise_ax0 (c : Cond) (d : Byte) (n : Node) : (noteRaise c d n).ax0 = n.ax0 := rfl
@[simp] theorem noteRaise_ax1 (c : Cond) (d : Byte) (n : Node) : (noteRaise c d n).ax1 = n.ax1 := rfl
@[simp] theorem noteRaise_sg (c : Cond) (d : Byte) (n : Node) : (noteRaise c d n).sg = n.sg := rfl
@[simp] theorem noteRaise_cl (c : Cond) (d : Byte) (n : Node) : (noteRaise c d n).cl = n.cl := rfl
@[simp] theorem noteRaise_pd (c : Cond) (d : Byte) (n : Node) : (noteRaise c d n).pd = n.pd := rfl
@[simp] theorem noteRaise_pins (c : Cond) (d : Byte) (n : Node) : (noteRaise c d n).pins = n.pins := rfl

/-! ### `onEntry` -/

@[simp] theorem onEntry_su (num : BlockNo) (f : Entry → Entry) (n : Node) : (onEntry num f n).su = n.su := rfl
@[simp] theorem onEntry_par (num : BlockNo) (f : Entry → Entry) (n : Node) : (onEntry num f n).par = n.par := rfl
@[simp] theorem onEntry_lc (num : BlockNo) (f : Entry → Entry) (n : Node) : (onEntry num f n).lc = n.lc := rfl
@[simp] theorem onEntry_nt (num : BlockNo) (f : Entry → Entry) (n : Node) : (onEntry num f n).nt = n.nt := rfl
@[simp] theorem onEntry_cu (num : BlockNo) (f : Entry → Entry) (n : Node) : (onEntry num f n).cu = n.cu := rfl
@[simp] theorem onEntry_kept (num : BlockNo) (f : Entry → Entry) (n : Node) : (onEntry num f n).kept = n.kept := rfl
@[simp] theorem onEntry_pg (num : BlockNo) (f : Entry → Entry) (n : Node) : (onEntry num f n).pg = n.pg := rfl
@[simp] theorem onEntry_ax0 (num : BlockNo) (f : Entry → Entry) (n : Node) : (onEntry num f n).ax0 = n.ax0 := rfl
@[simp] theorem onEntry_ax1 (num : BlockNo) (f : Entry → Entry) (n : Node) : (onEntry num f n).ax1 = n.ax1 := rfl
@[simp] theorem onEntry_sg (num : BlockNo) (f : Entry → Entry) (n : Node) : (onEntry num f n).sg = n.sg := rfl
@[simp] theorem onEntry_cl (num : BlockNo) (f : Entry → Entry) (n : Node) : (onEntry num f n).cl = n.cl := rfl
@[simp] theorem onEntry_pd (num : BlockNo) (f : Entry → Entry) (n : Node) : (onEntry num f n).pd = n.pd := rfl
@[simp] theorem onEntry_pins (num : BlockNo) (f : Entry → Entry) (n : Node) : (onEntry num f n).pins = n.pins := rfl

/-! ### `presetHead` -/

@[simp] theorem presetHead_su  (n : Node) : (presetHead  n).su = n.su := rfl
@[simp] theorem presetHead_par  (n : Node) : (presetHead  n).par = n.par := rfl
@[simp] theorem presetHead_lc  (n : Node) : (presetHead  n).lc = n.lc := rfl
@[simp] theorem presetHead_nt  (n : Node) : (presetHead  n).nt = n.nt := rfl
@[simp] theorem presetHead_cu  (n : Node) : (presetHead  n).cu = n.cu := rfl
@[simp] theorem presetHead_kept  (n : Node) : (presetHead  n).kept = n.kept := rfl
@[simp] theorem presetHead_pg  (n : Node) : (presetHead  n).pg = n.pg := rfl
@[simp] theorem presetHead_ax0  (n : Node) : (presetHead  n).ax0 = n.ax0 := rfl
@[simp] theorem presetHead_ax1  (n : Node) : (presetHead  n).ax1 = n.ax1 := rfl
@[simp] theorem presetHead_sg  (n : Node) : (presetHead  n).sg = n.sg := rfl
@[simp] theorem presetHead_cl  (n : Node) : (presetHead  n).cl = n.cl := rfl
@[simp] theorem presetHead_pd  (n : Node) : (presetHead  n).pd = n.pd := rfl
@[simp] theorem presetHead_pins  (n : Node) : (presetHead  n).pins = n.pins := rfl

/-! ### `emptyBlockSet` -/

@[simp] theorem emptyBlockSet_su  (n : Node) : (emptyBlockSet  n).su = n.su := rfl
@[simp] theorem emptyBlockSet_par  (n : Node) : (emptyBlockSet  n).par = n.par := rfl
@[simp] theorem emptyBlockSet_lc  (n : Node) : (emptyBlockSet  n).lc = n.lc := rfl
@[simp] theorem emptyBlockSet_nt  (n : Node) : (emptyBlockSet  n).nt = n.nt := rfl
@[simp] theorem emptyBlockSet_cu  (n : Node) : (emptyBlockSet  n).cu = n.cu := rfl
@[simp] theorem emptyBlockSet_kept  (n : Node) : (emptyBlockSet  n).kept = n.kept := rfl
@[simp] theorem emptyBlockSet_bq  (n : Node) : (emptyBlockSet  n).bq = n.bq := rfl
@[simp] theorem emptyBlockSet_pg  (n : Node) : (emptyBlockSet  n).pg = n.pg := rfl
@[simp] theorem emptyBlockSet_ax0  (n : Node) : (emptyBlockSet  n).ax0 = n.ax0 := rfl
@[simp] theorem emptyBlockSet_ax1  (n : Node) : (emptyBlockSet  n).ax1 = n.ax1 := rfl
@[simp] theorem emptyBlockSet_sg  (n : Node) : (emptyBlockSet  n).sg = n.sg := rfl
@[simp] theorem emptyBlockSet_pd  (n : Node) : (emptyBlockSet  n).pd = n.pd := rfl
@[simp] theorem emptyBlockSet_pins  (n : Node) : (emptyBlockSet  n).pins = n.pins := rfl

/-! ### `refresh` -/

@[simp] theorem refresh_su  (n : Node) : (refresh  n).su = n.su := rfl
@[simp] theorem refresh_par  (n : Node) : (refresh  n).par = n.par := rfl
@[simp] theorem refresh_lc  (n : Node) : (refresh  n).lc = n.lc := rfl
@[simp] theorem refresh_cu  (n : Node) : (refresh  n).cu = n.cu := rfl
@[simp] theorem refresh_kept  (n : Node) : (refresh  n).kept = n.kept := rfl
@[simp] theorem refresh_bq  (n : Node) : (refresh  n).bq = n.bq := rfl
@[simp] theorem refresh_pg  (n : Node) : (refresh  n).pg = n.pg := rfl
@[simp] theorem refresh_ax0  (n : Node) : (refresh  n).ax0 = n.ax0 := rfl
@[simp] theorem refresh_ax1  (n : Node) : (refresh  n).ax1 = n.ax1 := rfl
@[simp] theorem refresh_cl  (n : Node) : (refresh  n).cl = n.cl := rfl
@[simp] theorem refresh_pd  (n : Node) : (refresh  n).pd = n.pd := rfl
@[simp] theorem refresh_pins  (n : Node) : (refresh  n).pins = n.pins := rfl

/-! ### `leaveFrame` -/

@[simp] theorem leaveFrame_su (q : Nat) (n : Node) : (leaveFrame q n).su = n.su := rfl
@[simp] theorem leaveFrame_par (q : Nat) (n : Node) : (leaveFrame q n).par = n.par := rfl
@[simp] theorem leaveFrame_nt (q : Nat) (n : Node) : (leaveFrame q n).nt = n.nt := rfl
@[simp] theorem leaveFrame_cu (q : Nat) (n : Node) : (leaveFrame q n).cu = n.cu := rfl
@[simp] theorem leaveFrame_kept (q : Nat) (n : Node) : (leaveFrame q n).kept = n.kept := rfl
@[simp] theorem leaveFrame_bq (q : Nat) (n : Node) : (leaveFrame q n).bq = n.bq := rfl
@[simp] theorem leaveFrame_pg (q : Nat) (n : Node) : (leaveFrame q n).pg = n.pg := rfl
@[simp] theorem leaveFrame_ax0 (q : Nat) (n : Node) : (leaveFrame q n).ax0 = n.ax0 := rfl
@[simp] theorem leaveFrame_ax1 (q : Nat) (n : Node) : (leaveFrame q n).ax1 = n.ax1 := rfl
@[simp] theorem leaveFrame_sg (q : Nat) (n : Node) : (leaveFrame q n).sg = n.sg := rfl
@[simp] theorem leaveFrame_cl (q : Nat) (n : Node) : (leaveFrame q n).cl = n.cl := rfl
@[simp] theorem leaveFrame_pd (q : Nat) (n : Node) : (leaveFrame q n).pd = n.pd := rfl
@[simp] theorem leaveFrame_pins (q : Nat) (n : Node) : (leaveFrame q n).pins = n.pins := rfl
@[simp] theorem leaveFrame_lc_state (q : Nat) (n : Node) : (leaveFrame q n).lc.state = n.lc.state := rfl
@[simp] theorem leaveFrame_lc_recoveryMark (q : Nat) (n : Node) : (leaveFrame q n).lc.recoveryMark = n.lc.recoveryMark := rfl
@[simp] theorem leaveFrame_lc_send (q : Nat) (n : Node) : (leaveFrame q n).lc.send = n.lc.send := rfl
@[simp] theorem leaveFrame_lc_recv (q : Nat) (n : Node) : (leaveFrame q n).lc.recv = n.lc.recv := rfl
@[simp] theorem leaveFrame_lc_tally (q : Nat) (n : Node) : (leaveFrame q n).lc.tally = n.lc.tally := rfl
@[simp] theorem leaveFrame_lc_lastErr (q : Nat) (n : Node) : (leaveFrame q n).lc.lastErr = n.lc.lastErr := rfl
@[simp] theorem leaveFrame_lc_queue (q : Nat) (n : Node) : (leaveFrame q n).lc.queue = n.lc.queue := rfl
@[simp] theorem leaveFrame_lc_yield (q : Nat) (n : Node) : (leaveFrame q n).lc.yield = n.lc.yield := rfl
@[simp] theorem leaveFrame_lc_recovery (q : Nat) (n : Node) : (leaveFrame q n).lc.recovery = n.lc.recovery := rfl
@[simp] theorem leaveFrame_lc_bitError (q : Nat) (n : Node) : (leaveFrame q n).lc.bitError = n.lc.bitError := rfl
@[simp] theorem leaveFrame_lc_txBits (q : Nat) (n : Node) : (leaveFrame q n).lc.txBits = n.lc.txBits := rfl
@[simp] theorem leaveFrame_lc_errorRun (q : Nat) (n : Node) : (leaveFrame q n).lc.errorRun = n.lc.errorRun := rfl
@[simp] theorem leaveFrame_lc_decoding (q : Nat) (n : Node) : (leaveFrame q n).lc.decoding = false := rfl
@[simp] theorem leaveFrame_lc_capture (q : Nat) (n : Node) : (leaveFrame q n).lc.capture = none := rfl
@[simp] theorem leaveFrame_lc_quiet (q : Nat) (n : Node) : (leaveFrame q n).lc.quiet = q := rfl
@[simp] theorem leaveFrame_lc_slotBusy (q : Nat) (n : Node) : (leaveFrame q n).lc.slotBusy = false := rfl
@[simp] theorem leaveFrame_lc_slotError (q : Nat) (n : Node) : (leaveFrame q n).lc.slotError = false := rfl
@[simp] theorem leaveFrame_lc_joined (q : Nat) (n : Node) : (leaveFrame q n).lc.joined = true := rfl

/-! ### `passedOver` -/

@[simp] theorem passedOver_su (q : Nat) (n : Node) : (passedOver q n).su = n.su := rfl
@[simp] theorem passedOver_par (q : Nat) (n : Node) : (passedOver q n).par = n.par := rfl
@[simp] theorem passedOver_nt (q : Nat) (n : Node) : (passedOver q n).nt = n.nt := rfl
@[simp] theorem passedOver_cu (q : Nat) (n : Node) : (passedOver q n).cu = n.cu := rfl
@[simp] theorem passedOver_kept (q : Nat) (n : Node) : (passedOver q n).kept = n.kept := rfl
@[simp] theorem passedOver_bq (q : Nat) (n : Node) : (passedOver q n).bq = n.bq := rfl
@[simp] theorem passedOver_pg (q : Nat) (n : Node) : (passedOver q n).pg = n.pg := rfl
@[simp] theorem passedOver_ax0 (q : Nat) (n : Node) : (passedOver q n).ax0 = n.ax0 := rfl
@[simp] theorem passedOver_ax1 (q : Nat) (n : Node) : (passedOver q n).ax1 = n.ax1 := rfl
@[simp] theorem passedOver_sg (q : Nat) (n : Node) : (passedOver q n).sg = n.sg := rfl
@[simp] theorem passedOver_cl (q : Nat) (n : Node) : (passedOver q n).cl = n.cl := rfl
@[simp] theorem passedOver_pd (q : Nat) (n : Node) : (passedOver q n).pd = n.pd := rfl
@[simp] theorem passedOver_pins (q : Nat) (n : Node) : (passedOver q n).pins = n.pins := rfl
@[simp] theorem passedOver_lc (q : Nat) (n : Node) : (passedOver q n).lc = { n.lc with quiet := q } := rfl

/-! ### `atPhase` -/

@[simp] theorem atPhase_su (k : Phase) (n : Node) : (atPhase k n).su = n.su := rfl
@[simp] theorem atPhase_par (k : Phase) (n : Node) : (atPhase k n).par = n.par := rfl
@[simp] theorem atPhase_lc (k : Phase) (n : Node) : (atPhase k n).lc = n.lc := rfl
@[simp] theorem atPhase_nt (k : Phase) (n : Node) : (atPhase k n).nt = n.nt := rfl
@[simp] theorem atPhase_cu (k : Phase) (n : Node) : (atPhase k n).cu = n.cu := rfl
@[simp] theorem atPhase_kept (k : Phase) (n : Node) : (atPhase k n).kept = n.kept := rfl
@[simp] theorem atPhase_bq (k : Phase) (n : Node) : (atPhase k n).bq = n.bq := rfl
@[simp] theorem atPhase_ax0 (k : Phase) (n : Node) : (atPhase k n).ax0 = n.ax0 := rfl
@[simp] theorem atPhase_ax1 (k : Phase) (n : Node) : (atPhase k n).ax1 = n.ax1 := rfl
@[simp] theorem atPhase_sg (k : Phase) (n : Node) : (atPhase k n).sg = n.sg := rfl
@[simp] theorem atPhase_cl (k : Phase) (n : Node) : (atPhase k n).cl = n.cl := rfl
@[simp] theorem atPhase_pd (k : Phase) (n : Node) : (atPhase k n).pd = n.pd := rfl
@[simp] theorem atPhase_pins (k : Phase) (n : Node) : (atPhase k n).pins = n.pins := rfl
@[simp] theorem atPhase_pg (k : Phase) (n : Node) :
    (atPhase k n).pg = { n.pg with phase := phaseIn n.pg.tickLen k.val } := rfl

/-! ### `atSlotEnd` -/

@[simp] theorem atSlotEnd_su (rx : Rx) (n : Node) : (atSlotEnd rx n).su = n.su := rfl
@[simp] theorem atSlotEnd_par (rx : Rx) (n : Node) : (atSlotEnd rx n).par = n.par := rfl
@[simp] theorem atSlotEnd_lc (rx : Rx) (n : Node) : (atSlotEnd rx n).lc = n.lc := rfl
@[simp] theorem atSlotEnd_nt (rx : Rx) (n : Node) : (atSlotEnd rx n).nt = n.nt := rfl
@[simp] theorem atSlotEnd_cu (rx : Rx) (n : Node) : (atSlotEnd rx n).cu = n.cu := rfl
@[simp] theorem atSlotEnd_kept (rx : Rx) (n : Node) : (atSlotEnd rx n).kept = n.kept := rfl
@[simp] theorem atSlotEnd_bq (rx : Rx) (n : Node) : (atSlotEnd rx n).bq = n.bq := rfl
@[simp] theorem atSlotEnd_ax0 (rx : Rx) (n : Node) : (atSlotEnd rx n).ax0 = n.ax0 := rfl
@[simp] theorem atSlotEnd_ax1 (rx : Rx) (n : Node) : (atSlotEnd rx n).ax1 = n.ax1 := rfl
@[simp] theorem atSlotEnd_sg (rx : Rx) (n : Node) : (atSlotEnd rx n).sg = n.sg := rfl
@[simp] theorem atSlotEnd_cl (rx : Rx) (n : Node) : (atSlotEnd rx n).cl = n.cl := rfl
@[simp] theorem atSlotEnd_pd (rx : Rx) (n : Node) : (atSlotEnd rx n).pd = n.pd := rfl
@[simp] theorem atSlotEnd_pins (rx : Rx) (n : Node) : (atSlotEnd rx n).pins = n.pins := rfl
@[simp] theorem atSlotEnd_pg (rx : Rx) (n : Node) :
    (atSlotEnd rx n).pg = { n.pg with phase := phaseIn n.pg.tickLen rx.phase.val } := rfl

/-! ### `ownCause` -/

@[simp] theorem ownCause_su  (n : Node) : (ownCause  n).su = n.su := rfl
@[simp] theorem ownCause_par  (n : Node) : (ownCause  n).par = n.par := rfl
@[simp] theorem ownCause_lc  (n : Node) : (ownCause  n).lc = n.lc := rfl
@[simp] theorem ownCause_cu  (n : Node) : (ownCause  n).cu = n.cu := rfl
@[simp] theorem ownCause_kept  (n : Node) : (ownCause  n).kept = n.kept := rfl
@[simp] theorem ownCause_bq  (n : Node) : (ownCause  n).bq = n.bq := rfl
@[simp] theorem ownCause_pg  (n : Node) : (ownCause  n).pg = n.pg := rfl
@[simp] theorem ownCause_ax0  (n : Node) : (ownCause  n).ax0 = n.ax0 := rfl
@[simp] theorem ownCause_ax1  (n : Node) : (ownCause  n).ax1 = n.ax1 := rfl
@[simp] theorem ownCause_sg  (n : Node) : (ownCause  n).sg = n.sg := rfl
@[simp] theorem ownCause_cl  (n : Node) : (ownCause  n).cl = n.cl := rfl
@[simp] theorem ownCause_pd  (n : Node) : (ownCause  n).pd = n.pd := rfl
@[simp] theorem ownCause_pins  (n : Node) : (ownCause  n).pins = n.pins := rfl

end Sys2Proof.Machine
end

