-- ==== Sys2Proof/Laws/Frames.lean ====
section
/-! SUPPORT. What each shared operation leaves alone: for every operation one lemma that says which parts
of the node it may change. -/

namespace Sys2Proof.Machine

/-! ### Frames compose -/

theorem keeps_refl (p : Part) (n : Node) : keeps p n n := by cases p <;> simp [keeps]

theorem keeps_trans {p : Part} {n m k : Node} (h : keeps p n m) (g : keeps p m k) : keeps p n k := by
  cases p <;> simp_all [keeps]

theorem onlyChanges_refl (ps : List Part) (n : Node) : onlyChanges ps n n := fun p _ _ => keeps_refl p n

theorem onlyChanges_trans {ps : List Part} {n m k : Node} (h : onlyChanges ps n m)
    (g : onlyChanges ps m k) : onlyChanges ps n k :=
  fun p hp hr => keeps_trans (h p hp hr) (g p hp hr)

/-- A frame with fewer parts is a frame with more. -/
theorem onlyChanges_mono {ps qs : List Part} {n m : Node} (hs : ∀ p ∈ ps, p ∈ qs)
    (h : onlyChanges ps n m) : onlyChanges qs n m :=
  fun p hp hr => h p (fun hx => hp (hs p hx)) hr

/-- One step of a frame proof: a shared operation applied last. -/
theorem onlyChanges_step {ps : List Part} {n m k : Node} (h : onlyChanges ps n m)
    (g : ∀ p, p ∉ ps → p ∉ reporting → keeps p m k) : onlyChanges ps n k := onlyChanges_trans h g

/-! ### The transmit queue -/

theorem lessOverflow_or (s : CondSet) : lessOverflow (s ||| condBit .txqOverflow) = lessOverflow s := by
  apply BitVec.eq_of_getLsbD_eq
  intro i hi
  simp only [lessOverflow, BitVec.getLsbD_and, BitVec.getLsbD_or, BitVec.getLsbD_not]
  cases s.getLsbD i <;> cases (condBit Cond.txqOverflow).getLsbD i <;> simp

/-- A request to send changes the transmit queue, the error tally and the last error code of the line
controller, and no other field of it (R12, R13, R15). -/
theorem enqueue_line (p : Payload) (b : Bool) (k : Nat) (lc : LC) :
    ∃ q t e, (enqueue p b k lc).1 = { lc with queue := q, tally := t, lastErr := e } := by
  unfold enqueue
  split_ifs <;> first
    | exact ⟨lc.queue, lc.tally, lc.lastErr, rfl⟩
    | exact ⟨_, lc.tally, lc.lastErr, rfl⟩
    | exact ⟨_, _, _, rfl⟩

theorem enqueueAt_only (p : Payload) (b : Bool) (n : Node) : onlyChanges [] n (enqueueAt p b n).1 := by
  intro q _ hr
  obtain ⟨x, y, z, h⟩ := enqueue_line p b n.cu.reportSeq n.lc
  cases q <;> simp_all [keeps, enqueueAt, reporting]

theorem withdrawPending_only (test : TxEntry → Bool) (n : Node) : onlyChanges [] n (withdrawPending test n) := by
  intro q _ hr
  cases q <;> simp_all [keeps, withdrawPending, reporting]

theorem withdrawNamed_only (test : Payload → Bool) (n : Node) : onlyChanges [] n (withdrawNamed test n) := by
  intro q _ hr
  cases q <;> simp_all [keeps, withdrawNamed, reporting]

theorem purgeTx_only (n : Node) : onlyChanges [] n (purgeTx n) := by
  intro q _ hr
  cases q <;> simp_all [keeps, purgeTx, reporting]

/-! ### Raising, clearing and asking -/

theorem noteRaise_only (c : Cond) (d : Byte) (n : Node) : onlyChanges [.conds] n (noteRaise c d n) := by
  intro q hp hr
  cases q <;> simp_all [keeps, noteRaise, raisedCU, reporting]

theorem noteOverflow_only (d : Byte) (n : Node) : onlyChanges [] n (noteRaise .txqOverflow d n) := by
  intro q hp hr
  cases q <;> simp_all [keeps, noteRaise, raisedCU, reporting, lessOverflow_or]

theorem requestFault_only (n : Node) : onlyChanges [] n (requestFault n).1 :=
  onlyChanges_trans (withdrawPending_only _ n) (enqueueAt_only _ _ _)

theorem raiseOverflow_only (n : Node) : onlyChanges [] n (raiseOverflow n) := by
  unfold raiseOverflow
  simp only
  split_ifs
  · exact onlyChanges_trans (noteOverflow_only 0 n)
      (onlyChanges_trans (requestFault_only _) (noteOverflow_only 0 _))
  · exact onlyChanges_trans (noteOverflow_only 0 n) (requestFault_only _)
  · exact noteOverflow_only 0 n

/-- A request to send changes nothing but what reporting changes (R12, R15). -/
theorem askWith_only (p : Payload) (b : Bool) (n : Node) : onlyChanges [] n (askWith p b n) := by
  unfold askWith
  simp only
  split_ifs
  · exact onlyChanges_trans (enqueueAt_only p b n) (raiseOverflow_only _)
  · exact enqueueAt_only p b n

theorem ask_only (p : Payload) (n : Node) : onlyChanges [] n (ask p n) := askWith_only p false n

theorem askFault_only (n : Node) : onlyChanges [] n (askFault n) := by
  unfold askFault
  simp only
  split_ifs
  · exact onlyChanges_trans (requestFault_only n) (raiseOverflow_only _)
  · exact requestFault_only n

/-- A frame of no parts serves every list. -/
theorem onlyChanges_nil {ps : List Part} {n m : Node} (h : onlyChanges [] n m) : onlyChanges ps n m :=
  onlyChanges_mono (by simp) h

theorem raiseCommon_only (c : Cond) (d : Byte) (n : Node) : onlyChanges [.conds] n (raiseCommon c d n) := by
  unfold raiseCommon
  simp only
  split_ifs
  · exact onlyChanges_trans (noteRaise_only c d n) (onlyChanges_nil (askFault_only _))
  · exact noteRaise_only c d n

/-- A WARN-class raising changes the own condition set and what reporting changes (R45). -/
theorem raiseWarn_only (c : Cond) (d : Byte) (n : Node) : onlyChanges [.conds] n (raiseWarn c d n) :=
  raiseCommon_only c d n

theorem heldTest_only (n : Node) : onlyChanges [] n (heldTest n) := by
  unfold heldTest
  split_ifs
  · exact ask_only _ n
  · exact onlyChanges_refl _ n

/-- A HOLD-class raising changes the own condition set and what reporting changes: held itself waits for
the HOLD frame (R45, R50). -/
theorem raiseHold_only (c : Cond) (d : Byte) (n : Node) : onlyChanges [.conds] n (raiseHold c d n) :=
  onlyChanges_trans (raiseCommon_only c d n) (onlyChanges_nil (heldTest_only _))

theorem clearCond_only (c : Cond) (n : Node) : onlyChanges [.conds] n (clearCond c n) := by
  unfold clearCond
  split_ifs
  · intro q hp hr
    cases q <;> simp_all [keeps, reporting]
  · exact onlyChanges_refl _ n

theorem askStopall_only (n : Node) : onlyChanges [] n (askStopall n) := by
  unfold askStopall
  split_ifs
  · exact ask_only _ n
  · exact onlyChanges_refl _ n

theorem askState_only (n : Node) : onlyChanges [] n (askState n) := by
  unfold askState
  refine onlyChanges_trans (m := { n with nt := _ }) ?_ (ask_only _ _)
  intro q hp hr
  cases q <;> simp_all [keeps, reporting]

/-! ### What follows every command -/

theorem noteChange_only (n : Node) : onlyChanges [] n (noteChange n) := by
  unfold noteChange
  split_ifs
  · exact onlyChanges_refl _ n
  · intro q hp hr
    cases q <;> simp_all [keeps, reporting]

theorem changeState_only (n : Node) : onlyChanges [] n (changeState n) := by
  unfold changeState
  split_ifs
  · exact askState_only n
  · exact onlyChanges_refl _ n

theorem refresh_only (n : Node) : onlyChanges [] n (refresh n) := by
  intro q hp hr
  unfold refresh driveOut
  cases hs : n.par.spindle <;> cases q <;> simp_all [keeps, reporting]

/-- What follows every command leaves every part alone but those that report (R47, R53, R131). -/
theorem finish_only (n : Node) : onlyChanges [] n (finish n) :=
  onlyChanges_trans (noteChange_only n) (onlyChanges_trans (changeState_only _) (refresh_only _))

/-! ### The end of a frame at the line controller -/

theorem leaveFrame_only (q : Nat) (n : Node) : onlyChanges [.line] n (leaveFrame q n) := by
  intro p hp hr
  cases p <;> simp_all [keeps, leaveFrame, reporting]

theorem passedOver_only (q : Nat) (n : Node) : onlyChanges [.line] n (passedOver q n) := by
  intro p hp hr
  cases p <;> simp_all [keeps, passedOver, reporting]

theorem atPhase_only (k : Phase) (n : Node) : onlyChanges [.path] n (atPhase k n) := by
  intro p hp hr
  cases p <;> simp_all [keeps, atPhase, reporting]

/-- What a frame broken off or not accepted does: nothing at a node that does not receive, and otherwise the
phase moves on and the frame is taken or passed over (R4, R10, R30). -/
theorem brokenOff_cases (t : Trail) (f : Nat → Node → Node) (n : Node) :
    (receives n = false ∧ brokenOff t f n = n) ∨
      (receives n = true ∧ joins t.lead.val n = true ∧ brokenOff t f n = f t.released.val (atPhase t.phase n)) ∨
      (receives n = true ∧ joins t.lead.val n = false ∧
        brokenOff t f n = passedOver t.released.val (atPhase t.phase n)) := by
  unfold brokenOff
  cases receives n <;> cases joins t.lead.val n <;> simp

/-- What a frame decoded whole does: it is taken where the line controller has joined it and R9 accepts it, and
otherwise is not accepted or is passed over (R9, R30). -/
theorem heardFrame_cases (rx : Rx) (f : Node → Node) (n : Node) :
    (joins rx.lead.val n = true ∧ slotClear rx n = true ∧ heardFrame rx f n = f n) ∨
      (joins rx.lead.val n = true ∧ slotClear rx n = false ∧ heardFrame rx f n = notAccepted rx n) ∨
      (joins rx.lead.val n = false ∧
        heardFrame rx f n = atSlotEnd rx (passedOver (slotQuiet false rx) n)) := by
  unfold heardFrame joinedFrame takeFrame
  cases joins rx.lead.val n <;> cases slotClear rx n <;> simp

/-- A step that leaves the kept frames alone leaves them so beneath an accepted frame too (R50). -/
theorem beneath_kept (k : Kept) (f : Node → Node) (n : Node) (h : ∀ m, (f m).kept = m.kept) :
    (beneath k f n).kept = n.kept := by
  simp [beneath, h]

theorem atSlotEnd_only (rx : Rx) (n : Node) : onlyChanges [.path] n (atSlotEnd rx n) := by
  intro p hp hr
  cases p <;> simp_all [keeps, atSlotEnd, atPhase, reporting]

/-- A phase stands within its tick (R77). -/
theorem phaseIn_le (tickLen k : Nat) : (phaseIn tickLen k).val ≤ 999 ∧ (phaseIn tickLen k).val ≤ tickLen - 1 := by
  simp only [phaseIn]; omega

/-- The memory answers the loader's read command with its contents from address 0 on (R187). -/
theorem memoryAnswers_read (bytes : List Byte) : memoryAnswers readCommand bytes = bytes := by
  simp [memoryAnswers, readCommand]

end Sys2Proof.Machine
end

