-- ==== Sys2Proof/Laws/Stop.lean ====
section
/-! SUPPORT. What the setting of the STOPPED latch and the raising of a STOP-class condition may change. -/

namespace Sys2Proof.Machine

/-! ### Updates of one part -/

theorem setAx_only (c : Chan) (a : Axis) (n : Node) : onlyChanges [chanPart c] n (setAx c a n) := by
  intro q hp _
  cases c <;> cases q <;> simp_all [keeps, setAx, chanPart]

theorem onAx_only (c : Chan) (f : Axis → Axis) (n : Node) : onlyChanges [chanPart c] n (onAx c f n) :=
  setAx_only c _ n

/-- A change of the spindle unit. -/
theorem withSg_only (sg : SG) (n : Node) : onlyChanges [.spindle] n { n with sg := sg } := by
  intro q hp _
  cases q <;> simp_all [keeps]

/-- A change of the coolant unit. -/
theorem withCl_only (cl : CL) (n : Node) : onlyChanges [.coolant] n { n with cl := cl } := by
  intro q hp _
  cases q <;> simp_all [keeps]

/-- A change of the pendant unit. -/
theorem withPd_only (pd : PD) (n : Node) : onlyChanges [.pendant] n { n with pd := pd } := by
  intro q hp _
  cases q <;> simp_all [keeps]

/-- A change of the sampled inputs. -/
theorem withPins_only (p : Pins) (n : Node) : onlyChanges [.pins] n { n with pins := p } := by
  intro q hp _
  cases q <;> simp_all [keeps]

/-- A change of the path profile generator. -/
theorem withPg_only (pg : PG) (n : Node) : onlyChanges [.path] n { n with pg := pg } := by
  intro q hp _
  cases q <;> simp_all [keeps]

/-- An entry written into the pace history at the end of a tick (R93). -/
theorem historyEnd_only (n : Node) : onlyChanges [.path] n (historyEnd n) := by
  unfold historyEnd
  split_ifs
  · exact onlyChanges_refl _ n
  · exact withPg_only _ n

/-- A change of the block queue. -/
theorem withBq_only (bq : BQ) (n : Node) : onlyChanges [.blocks] n { n with bq := bq } := by
  intro q hp _
  cases q <;> simp_all [keeps]

/-- A change of the kept frames. -/
theorem withKept_only (k : List Kept) (n : Node) : onlyChanges [.kept] n { n with kept := k } := by
  intro q hp _
  cases q <;> simp_all [keeps]

/-- Frames of two steps whose parts both lie in a list. -/
theorem onlyChanges_both {as bs ps : List Part} {n m k : Node} (h : onlyChanges as n m)
    (g : onlyChanges bs m k) (ha : ∀ p ∈ as, p ∈ ps) (hb : ∀ p ∈ bs, p ∈ ps) : onlyChanges ps n k :=
  onlyChanges_trans (onlyChanges_mono ha h) (onlyChanges_mono hb g)

/-! ### The spindle unit -/

theorem dropCommand_only (p : SpindleParams) (n : Node) : onlyChanges [.spindle] n (dropCommand p n) := by
  unfold dropCommand
  split_ifs
  · exact withSg_only _ n
  · exact onlyChanges_refl _ n

theorem formCommand_only (p : SpindleParams) (n : Node) : onlyChanges [.spindle] n (formCommand p n) :=
  withSg_only _ n

theorem gearFromPattern_only (p : SpindleParams) (n : Node) :
    onlyChanges [.spindle, .conds] n (gearFromPattern p n) := by
  unfold gearFromPattern
  split
  · exact onlyChanges_mono (by simp) (withSg_only _ n)
  · exact onlyChanges_mono (by simp) (withSg_only _ n)
  · exact onlyChanges_both (withSg_only _ n) (raiseHold_only _ _ _) (by simp) (by simp)

theorem abortShift_only (p : SpindleParams) (n : Node) : onlyChanges [.spindle, .conds] n (abortShift p n) := by
  unfold abortShift
  split_ifs
  · exact onlyChanges_both (withSg_only _ n) (gearFromPattern_only p _) (by simp) (by simp)
  · exact onlyChanges_refl _ n

/-- The spindle unit's reaction to the latch changes that unit, and may raise GEAR_FAULT (R145). -/
theorem sgStopReaction_only (n : Node) : onlyChanges [.spindle, .conds] n (sgStopReaction n) := by
  unfold sgStopReaction
  split
  · exact onlyChanges_refl _ n
  · rename_i p _
    simp only
    refine onlyChanges_both ?_ (dropCommand_only p _) (fun _ h => h) (by simp)
    have h : onlyChanges [.spindle, .conds] n
        (abortShift p { n with sg := { n.sg with request := none, manualStop := false } }) :=
      onlyChanges_both (withSg_only _ n) (abortShift_only p _) (by simp) (by simp)
    split_ifs
    · exact h
    · exact onlyChanges_both h (withSg_only _ _) (fun _ h => h) (by simp)

/-! ### The coolant unit -/

theorem lossTest_only (c : Circ) (n : Node) : onlyChanges [.coolant, .conds] n (lossTest c n) := by
  unfold lossTest
  split_ifs
  · exact onlyChanges_mono (by simp) (withCl_only _ n)
  · exact onlyChanges_both (withCl_only _ n) (raiseHold_only _ _ _) (by simp) (by simp)
  · exact onlyChanges_refl _ n

/-- The test for a lost circuit changes the coolant unit and COOLANT_LOST (R159). -/
theorem clLoss_only (n : Node) : onlyChanges [.coolant, .conds] n (clLoss n) := by
  unfold clLoss
  have h := onlyChanges_trans (lossTest_only .flood n)
    (onlyChanges_trans (lossTest_only .tsc _) (lossTest_only .air _))
  simp only
  split_ifs
  · exact onlyChanges_both h (clearCond_only _ _) (fun _ h => h) (by simp)
  · exact h
  · exact onlyChanges_refl _ n

/-- A change of the coolant unit followed by the test for a lost circuit. -/
theorem withCl_loss_only (cl : CL) (n : Node) :
    onlyChanges [.coolant, .conds] n (clLoss { n with cl := cl }) :=
  onlyChanges_both (withCl_only cl n) (clLoss_only _) (by simp) (fun _ h => h)

theorem askClamp_only (n : Node) : onlyChanges [] n (askClamp n) :=
  onlyChanges_trans (withdrawPending_only _ n) (ask_only _ _)

theorem leaveDegraded_only (n : Node) : onlyChanges [.coolant, .conds] n (leaveDegraded n) := by
  unfold leaveDegraded
  have h : onlyChanges [.coolant, .conds] n { clearCond .coolantDegraded n with cl := { n.cl with clamp := 150 } } :=
    onlyChanges_both (clearCond_only _ n) (withCl_only _ _) (by simp) (by simp)
  exact onlyChanges_trans h (onlyChanges_nil (askClamp_only _))

theorem setTsc_only (s : CircuitState) (t b : Nat) (n : Node) :
    onlyChanges [.coolant, .conds] n (setTsc s t b n) := by
  unfold setTsc
  generalize hx : ({ enterState .tsc s n.cl with tscTimer := t, bleed := b, lowRun := _ } : CL) = x
  have h : onlyChanges [.coolant, .conds] n { n with cl := x } :=
    onlyChanges_mono (by simp) (withCl_only x n)
  simp only
  refine onlyChanges_trans ?_ (clLoss_only _)
  by_cases hd : n.cl.tsc = .degraded ∧ s ≠ .degraded
  · rw [if_pos hd]
    exact onlyChanges_trans h (leaveDegraded_only _)
  · rw [if_neg hd]
    exact h

theorem tscStop_only (n : Node) : onlyChanges [.coolant, .conds] n (tscStop n) := by
  unfold tscStop
  split_ifs
  · exact setTsc_only _ _ _ n
  · exact onlyChanges_refl _ n

theorem floodStop_only (n : Node) : onlyChanges [.coolant, .conds] n (floodStop n) := by
  unfold floodStop
  split_ifs
  · exact withCl_loss_only _ n
  · exact onlyChanges_refl _ n

theorem airOff_only (n : Node) : onlyChanges [.coolant, .conds] n (airOff n) := by
  unfold airOff
  split_ifs
  · exact withCl_loss_only _ n
  · exact onlyChanges_refl _ n

/-- The coolant unit's reaction to the latch changes that unit, its conditions, and what it asks for
(R161). -/
theorem clStopReaction_only (n : Node) : onlyChanges [.coolant, .conds] n (clStopReaction n) := by
  unfold clStopReaction
  split_ifs
  · refine onlyChanges_trans ?_ (airOff_only _)
    refine onlyChanges_trans ?_ (tscStop_only _)
    exact onlyChanges_both (withCl_only _ n) (floodStop_only _) (by simp) (fun _ h => h)
  · exact onlyChanges_refl _ n

/-! ### The latch -/

/-- A function applied for each used channel, where each application is framed alike. -/
theorem forAxes_only {ps : List Part} {f : Chan → AxisParams → Node → Node}
    (h : ∀ c p m, onlyChanges ps m (f c p m)) (n : Node) : onlyChanges ps n (forAxes f n) := by
  unfold forAxes
  simp only
  have one : ∀ c m, onlyChanges ps m (match axParams c m with | some p => f c p m | none => m) := by
    intro c m
    split
    · exact h c _ m
    · exact onlyChanges_refl ps m
  exact onlyChanges_trans (one .ax0 n) (one .ax1 _)

theorem chanPart_mem (c : Chan) : chanPart c ∈ [Part.channel0, .channel1] := by cases c <;> simp [chanPart]

theorem latchDrive_only (c : Chan) (p : AxisParams) (n : Node) :
    onlyChanges [.channel0, .channel1] n (latchDrive c p n) := by
  unfold latchDrive
  split_ifs
  · exact onlyChanges_mono (by simpa using chanPart_mem c) (onAx_only c _ n)
  · exact onlyChanges_refl _ n

/-- The latch set changes the latch, the channels, the spindle and coolant units and their conditions
(R178, R111, R145, R161). -/
theorem setLatch_only (n : Node) : onlyChanges stopParts n (setLatch n) := by
  unfold setLatch
  split_ifs
  · exact onlyChanges_refl _ n
  · refine onlyChanges_both (as := stopParts) (bs := [.coolant, .conds]) ?_ (clStopReaction_only _)
      (fun _ h => h) (by simp [stopParts])
    refine onlyChanges_both (as := stopParts) (bs := [.spindle, .conds]) ?_ (sgStopReaction_only _)
      (fun _ h => h) (by simp [stopParts])
    refine onlyChanges_both (as := [.latch]) (bs := [.channel0, .channel1]) ?_
      (forAxes_only latchDrive_only _) (by simp [stopParts]) (by simp [stopParts])
    intro q hp _
    cases q <;> simp_all [keeps]

/-- A STOP-class raising changes what the latch changes, the own condition set and the owed mark (R45,
R177). -/
theorem raiseStop_only (c : Cond) (d : Byte) (n : Node) : onlyChanges stopParts n (raiseStop c d n) := by
  unfold raiseStop
  simp only
  refine onlyChanges_trans ?_ (setLatch_only _)
  refine onlyChanges_trans ?_ (onlyChanges_nil (askStopall_only _))
  refine onlyChanges_both (raiseCommon_only c d n) (bs := [.stopInfo]) ?_ (by simp [stopParts])
    (by simp [stopParts])
  intro q hp _
  cases q <;> simp_all [keeps]

end Sys2Proof.Machine
end

