-- ==== Sys2Proof/Laws/Conds.lean ====
section
/-! SUPPORT. The own condition set after each shared operation: a request to send can add only
TXQ_OVERFLOW, a raising adds its condition, a clearing takes its condition out. -/

namespace Sys2Proof.Machine

/-- Every condition number lies in the set's thirty bits. -/
theorem condNumber_lt (c : Cond) : condNumber c < 30 := by cases c <;> decide

/-- No two conditions have one number. -/
theorem condNumber_inj {c x : Cond} (h : condNumber c = condNumber x) : c = x := by
  cases c <;> cases x <;> simp_all [condNumber]

/-- The set holding one condition alone holds no other. -/
@[simp] theorem condIn_condBit (x c : Cond) : condIn x (condBit c) = decide (x = c) := by
  cases c <;> cases x <;> rfl

/-- Membership in a set with a condition added. -/
@[simp] theorem condIn_or_condBit (x c : Cond) (s : CondSet) :
    condIn x (s ||| condBit c) = (condIn x s || decide (x = c)) := by
  rw [← condIn_condBit x c]; simp [condIn]

/-- Membership in a set with a condition taken out. -/
@[simp] theorem condIn_and_not_condBit (x c : Cond) (s : CondSet) :
    condIn x (s &&& ~~~condBit c) = (condIn x s && !decide (x = c)) := by
  rw [← condIn_condBit x c]; simp [condIn, condNumber_lt]

/-- A set that is kept but for TXQ_OVERFLOW keeps every other condition. -/
theorem condIn_of_lessOverflow {s u : CondSet} (h : lessOverflow s = lessOverflow u) {x : Cond}
    (hx : x ≠ .txqOverflow) : condIn x s = condIn x u := by
  have g := congrArg (condIn x) h
  simpa [lessOverflow, hx] using g

/-- A part of the frame: an operation that changes no condition but TXQ_OVERFLOW keeps the others. -/
theorem condIn_of_onlyChanges {ps : List Part} {n m : Node} (h : onlyChanges ps n m)
    (hp : Part.conds ∉ ps) {x : Cond} (hx : x ≠ .txqOverflow) :
    condIn x m.cu.own = condIn x n.cu.own :=
  condIn_of_lessOverflow (h .conds hp (by decide)) hx

/-- A request to send adds no condition but TXQ_OVERFLOW. -/
theorem ask_condIn (p : Payload) (n : Node) {x : Cond} (hx : x ≠ .txqOverflow) :
    condIn x (ask p n).cu.own = condIn x n.cu.own :=
  condIn_of_onlyChanges (ask_only p n) (by simp) hx

/-- A raising's first steps add its condition and no other. -/
@[simp] theorem noteRaise_condIn (c : Cond) (d : Byte) (n : Node) (x : Cond) :
    condIn x (noteRaise c d n).cu.own = (condIn x n.cu.own || decide (x = c)) := by
  simp [noteRaise, raisedCU]

/-- A raising up to its FAULT adds its condition and, but for TXQ_OVERFLOW, no other. -/
theorem raiseCommon_condIn (c : Cond) (d : Byte) (n : Node) {x : Cond} (hx : x ≠ .txqOverflow) :
    condIn x (raiseCommon c d n).cu.own = (condIn x n.cu.own || decide (x = c)) := by
  unfold raiseCommon
  by_cases h : writesRecord c n.cu = true
  · simp only [h, if_true]
    rw [condIn_of_onlyChanges (askFault_only _) (by simp) hx, noteRaise_condIn]
  · simp only [h]
    exact noteRaise_condIn c d n x

/-- A WARN-class raising adds its condition. -/
theorem raiseWarn_condIn (c : Cond) (d : Byte) (n : Node) {x : Cond} (hx : x ≠ .txqOverflow) :
    condIn x (raiseWarn c d n).cu.own = (condIn x n.cu.own || decide (x = c)) :=
  raiseCommon_condIn c d n hx

/-- A HOLD-class raising adds its condition. -/
theorem raiseHold_condIn (c : Cond) (d : Byte) (n : Node) {x : Cond} (hx : x ≠ .txqOverflow) :
    condIn x (raiseHold c d n).cu.own = (condIn x n.cu.own || decide (x = c)) := by
  unfold raiseHold
  rw [condIn_of_onlyChanges (heldTest_only _) (by simp) hx, raiseCommon_condIn c d n hx]

/-- A clearing takes its condition out and leaves every other. -/
@[simp] theorem clearCond_condIn (c : Cond) (n : Node) (x : Cond) :
    condIn x (clearCond c n).cu.own = (condIn x n.cu.own && !decide (x = c)) := by
  unfold clearCond
  by_cases h : condIn c n.cu.own = true
  · simp [h]
  · by_cases hx : x = c
    · subst hx; simp [h]
    · simp [h, hx]

/-- A clearing leaves the STOPPED latch, the held flag and the owed mark. -/
@[simp] theorem clearCond_marks (c : Cond) (n : Node) :
    (clearCond c n).cu.stopped = n.cu.stopped ∧ (clearCond c n).cu.held = n.cu.held ∧
      (clearCond c n).cu.owed = n.cu.owed := by
  unfold clearCond; split <;> simp

end Sys2Proof.Machine
end

