-- ==== Sys2Proof/Laws/PerInstr.lean ====
section
/-! SUPPORT. One lemma per command: what well-formedness asks of its operands. Only the two frames with
lists in their payloads and the image reading ask for anything (R186, R187). -/

namespace Sys2Proof.Laws

open Machine

/-- What the lists among a command's operands satisfy in a well-formed command: a BLOCK has at most four
components, a FAULT thirty counts, and an image at most 4,096 bytes. -/
def listsFit : Instr → Prop
  | .block _ b => b.comps.length ≤ 4
  | .fault _ b => b.counts.length = 30
  | .imageReadDone bytes _ => bytes.length ≤ 4096
  | _ => True

theorem length_flatMap_compBytes (l : List RawComp) : (l.flatMap compBytes).length = 5 * l.length := by
  induction l with
  | nil => rfl
  | cons c l ih => simp [compBytes, bytes32, ih]; omega

theorem block_wf (b : BlockBody) : (Payload.block b).wf = true ↔ b.comps.length ≤ 4 := by
  simp only [Payload.wf, payloadKind, kindLengths, payloadBytes, blockBytes, bytes32, List.length_append,
    length_flatMap_compBytes, List.length_cons, List.length_nil, List.contains_iff_mem, List.mem_cons,
    List.not_mem_nil, or_false]
  omega

theorem fault_wf (b : FaultBody) : (Payload.fault b).wf = true ↔ b.counts.length = 30 := by
  simp only [Payload.wf, payloadKind, kindLengths, payloadBytes, faultBytes, bytes32, List.length_append,
    List.length_cons, List.length_nil, List.contains_iff_mem, List.mem_cons, List.not_mem_nil, or_false]
  omega

theorem state_wf (b : StateBody) : (Payload.state b).wf = true := by
  simp only [Payload.wf, payloadKind, kindLengths, payloadBytes, stateBytes, bytes32]
  cases b.panel <;> rfl

end Sys2Proof.Laws

namespace Sys2Proof.Laws.WfField

open Machine

/-- A command is well formed exactly when the lists among its operands fit. -/
def Statement (i : Instr) : Prop := i.wf = true ↔ listsFit i

theorem powerOn : Statement .powerOn :=
  ⟨fun _ => trivial, fun _ => rfl⟩

theorem resetPin : Statement .resetPin :=
  ⟨fun _ => trivial, fun _ => rfl⟩

theorem resetRelease (nodeStraps : BitVec 4) (rateStrap : Bool) : Statement (.resetRelease nodeStraps rateStrap) :=
  ⟨fun _ => trivial, fun _ => rfl⟩

theorem imageReadDone (bytes : List Byte) (inputs : Pins) : Statement (.imageReadDone bytes inputs) :=
  by simp [Statement, Instr.wf, Instr.framePayload, imageWf, listsFit]

theorem motionTick (inputs : Pins) : Statement (.motionTick inputs) :=
  ⟨fun _ => trivial, fun _ => rfl⟩

theorem blockStart : Statement .blockStart :=
  ⟨fun _ => trivial, fun _ => rfl⟩

theorem dwellEnd : Statement .dwellEnd :=
  ⟨fun _ => trivial, fun _ => rfl⟩

theorem statePeriod : Statement .statePeriod :=
  ⟨fun _ => trivial, fun _ => rfl⟩

theorem attemptStart (phase : Phase) : Statement (.attemptStart phase) :=
  ⟨fun _ => trivial, fun _ => rfl⟩

theorem contentionLoss : Statement .contentionLoss :=
  ⟨fun _ => trivial, fun _ => rfl⟩

theorem bitError (released : Fin 11) : Statement (.bitError released) :=
  ⟨fun _ => trivial, fun _ => rfl⟩

theorem syncError (trail : Trail) : Statement (.syncError trail) :=
  ⟨fun _ => trivial, fun _ => rfl⟩

theorem formError (place : FormPlace) (trail : Trail) : Statement (.formError place trail) :=
  ⟨fun _ => trivial, fun _ => rfl⟩

theorem checkError (trail : Trail) : Statement (.checkError trail) :=
  ⟨fun _ => trivial, fun _ => rfl⟩

theorem refusedBusy : Statement .refusedBusy :=
  ⟨fun _ => trivial, fun _ => rfl⟩

theorem failure : Statement .failure :=
  ⟨fun _ => trivial, fun _ => rfl⟩

theorem recoveryTimerExpiry : Statement .recoveryTimerExpiry :=
  ⟨fun _ => trivial, fun _ => rfl⟩

theorem quietCountJoin : Statement .quietCountJoin :=
  ⟨fun _ => trivial, fun _ => rfl⟩

theorem stopall (rx : Rx) : Statement (.stopall rx) :=
  ⟨fun _ => trivial, fun _ => rfl⟩

theorem stopDecelerationEnd : Statement .stopDecelerationEnd :=
  ⟨fun _ => trivial, fun _ => rfl⟩

theorem disablePoint (c : Chan) : Statement (.disablePoint c) :=
  ⟨fun _ => trivial, fun _ => rfl⟩

theorem hold (rx : Rx) (stamp : Stamp) : Statement (.hold rx stamp) :=
  ⟨fun _ => trivial, fun _ => rfl⟩

theorem holdApply : Statement .holdApply :=
  ⟨fun _ => trivial, fun _ => rfl⟩

theorem resume (rx : Rx) (stamp : Stamp) : Statement (.resume rx stamp) :=
  ⟨fun _ => trivial, fun _ => rfl⟩

theorem resumeApply : Statement .resumeApply :=
  ⟨fun _ => trivial, fun _ => rfl⟩

theorem go (rx : Rx) (stamp : Stamp) (num : BlockNo) : Statement (.go rx stamp num) :=
  ⟨fun _ => trivial, fun _ => rfl⟩

theorem goApply : Statement .goApply :=
  ⟨fun _ => trivial, fun _ => rfl⟩

theorem ready (rx : Rx) (num : BlockNo) (verdict arg : Byte) : Statement (.ready rx num verdict arg) :=
  ⟨fun _ => trivial, fun _ => rfl⟩

theorem headWaitExpiry : Statement .headWaitExpiry :=
  ⟨fun _ => trivial, fun _ => rfl⟩

theorem block (rx : Rx) (b : BlockBody) : Statement (.block rx b) :=
  block_wf b

theorem flush (rx : Rx) (flags : Byte) (expected : BlockNo) : Statement (.flush rx flags expected) :=
  ⟨fun _ => trivial, fun _ => rfl⟩

theorem override (rx : Rx) (stamp : Stamp) (form value : Byte) : Statement (.override rx stamp form value) :=
  ⟨fun _ => trivial, fun _ => rfl⟩

theorem overrideApply : Statement .overrideApply :=
  ⟨fun _ => trivial, fun _ => rfl⟩

theorem pace (rx : Rx) (stamp : Stamp) (flags : Byte) (running : BlockNo) (elapsed : BitVec 16) : Statement (.pace rx stamp flags running elapsed) :=
  ⟨fun _ => trivial, fun _ => rfl⟩

theorem paceApply : Statement .paceApply :=
  ⟨fun _ => trivial, fun _ => rfl⟩

theorem offset (rx : Rx) (b : OffsetBody) : Statement (.offset rx b) :=
  ⟨fun _ => trivial, fun _ => rfl⟩

theorem jog (rx : Rx) (axis increment detents toggle : Byte) : Statement (.jog rx axis increment detents toggle) :=
  ⟨fun _ => trivial, fun _ => rfl⟩

theorem panel (rx : Rx) (b : PanelBody) : Statement (.panel rx b) :=
  ⟨fun _ => trivial, fun _ => rfl⟩

theorem modeAdoptionAtRest : Statement .modeAdoptionAtRest :=
  ⟨fun _ => trivial, fun _ => rfl⟩

theorem spindle (rx : Rx) (form : Byte) (speed : BitVec 16) (dir value : Byte) : Statement (.spindle rx form speed dir value) :=
  ⟨fun _ => trivial, fun _ => rfl⟩

theorem coolant (rx : Rx) (flood tsc air : Byte) : Statement (.coolant rx flood tsc air) :=
  ⟨fun _ => trivial, fun _ => rfl⟩

theorem reference (rx : Rx) (axis : Byte) : Statement (.reference rx axis) :=
  ⟨fun _ => trivial, fun _ => rfl⟩

theorem faultclr (rx : Rx) : Statement (.faultclr rx) :=
  ⟨fun _ => trivial, fun _ => rfl⟩

theorem restart (rx : Rx) (target serial : Byte) : Statement (.restart rx target serial) :=
  ⟨fun _ => trivial, fun _ => rfl⟩

theorem announce (rx : Rx) (b : AnnounceBody) : Statement (.announce rx b) :=
  ⟨fun _ => trivial, fun _ => rfl⟩

theorem state (rx : Rx) (b : StateBody) : Statement (.state rx b) :=
  ⟨fun _ => trivial, fun _ => state_wf b⟩

theorem fault (rx : Rx) (b : FaultBody) : Statement (.fault rx b) :=
  fault_wf b

theorem silenceTimeout (peer : NodeNo) : Statement (.silenceTimeout peer) :=
  ⟨fun _ => trivial, fun _ => rfl⟩

theorem moverArrive (c : Chan) : Statement (.moverArrive c) :=
  ⟨fun _ => trivial, fun _ => rfl⟩

theorem moverAtRest (c : Chan) : Statement (.moverAtRest c) :=
  ⟨fun _ => trivial, fun _ => rfl⟩

theorem followingRunLimit (c : Chan) : Statement (.followingRunLimit c) :=
  ⟨fun _ => trivial, fun _ => rfl⟩

theorem saturationRunLimit (c : Chan) : Statement (.saturationRunLimit c) :=
  ⟨fun _ => trivial, fun _ => rfl⟩

theorem driveFaultInput (c : Chan) : Statement (.driveFaultInput c) :=
  ⟨fun _ => trivial, fun _ => rfl⟩

theorem driveReadyOn (c : Chan) : Statement (.driveReadyOn c) :=
  ⟨fun _ => trivial, fun _ => rfl⟩

theorem driveReadyOff (c : Chan) : Statement (.driveReadyOff c) :=
  ⟨fun _ => trivial, fun _ => rfl⟩

theorem driveTimerExpiry (c : Chan) : Statement (.driveTimerExpiry c) :=
  ⟨fun _ => trivial, fun _ => rfl⟩

theorem limitActive (c : Chan) (side : Side) : Statement (.limitActive c side) :=
  ⟨fun _ => trivial, fun _ => rfl⟩

theorem limitInactive (c : Chan) (side : Side) : Statement (.limitInactive c side) :=
  ⟨fun _ => trivial, fun _ => rfl⟩

theorem unclampConfirmed (c : Chan) : Statement (.unclampConfirmed c) :=
  ⟨fun _ => trivial, fun _ => rfl⟩

theorem clampConfirmed (c : Chan) : Statement (.clampConfirmed c) :=
  ⟨fun _ => trivial, fun _ => rfl⟩

theorem unclampTimeout (c : Chan) : Statement (.unclampTimeout c) :=
  ⟨fun _ => trivial, fun _ => rfl⟩

theorem clampTimeout (c : Chan) : Statement (.clampTimeout c) :=
  ⟨fun _ => trivial, fun _ => rfl⟩

theorem referenceSwitchActive (c : Chan) : Statement (.referenceSwitchActive c) :=
  ⟨fun _ => trivial, fun _ => rfl⟩

theorem markEdge (c : Chan) : Statement (.markEdge c) :=
  ⟨fun _ => trivial, fun _ => rfl⟩

theorem encoderEdge (c : Chan) (up : Bool) : Statement (.encoderEdge c up) :=
  ⟨fun _ => trivial, fun _ => rfl⟩

theorem spindleAtRest : Statement .spindleAtRest :=
  ⟨fun _ => trivial, fun _ => rfl⟩

theorem atSpeed : Statement .atSpeed :=
  ⟨fun _ => trivial, fun _ => rfl⟩

theorem spindleFaultRun : Statement .spindleFaultRun :=
  ⟨fun _ => trivial, fun _ => rfl⟩

theorem spindleStopTimerExpiry : Statement .spindleStopTimerExpiry :=
  ⟨fun _ => trivial, fun _ => rfl⟩

theorem sgAct : Statement .sgAct :=
  ⟨fun _ => trivial, fun _ => rfl⟩

theorem shifterSensorChange (sh : Shifter) (pos : ForkPos) (level : Bool) : Statement (.shifterSensorChange sh pos level) :=
  ⟨fun _ => trivial, fun _ => rfl⟩

theorem shiftTimeout : Statement .shiftTimeout :=
  ⟨fun _ => trivial, fun _ => rfl⟩

theorem neutralTimeout : Statement .neutralTimeout :=
  ⟨fun _ => trivial, fun _ => rfl⟩

theorem nudgeReverse : Statement .nudgeReverse :=
  ⟨fun _ => trivial, fun _ => rfl⟩

theorem clAct : Statement .clAct :=
  ⟨fun _ => trivial, fun _ => rfl⟩

theorem flowSwitchOn : Statement .flowSwitchOn :=
  ⟨fun _ => trivial, fun _ => rfl⟩

theorem flowSwitchOff : Statement .flowSwitchOff :=
  ⟨fun _ => trivial, fun _ => rfl⟩

theorem floodTimerExpiry : Statement .floodTimerExpiry :=
  ⟨fun _ => trivial, fun _ => rfl⟩

theorem tankLowActive : Statement .tankLowActive :=
  ⟨fun _ => trivial, fun _ => rfl⟩

theorem tankLowInactive : Statement .tankLowInactive :=
  ⟨fun _ => trivial, fun _ => rfl⟩

theorem tscStartTimeout : Statement .tscStartTimeout :=
  ⟨fun _ => trivial, fun _ => rfl⟩

theorem tscDegraded : Statement .tscDegraded :=
  ⟨fun _ => trivial, fun _ => rfl⟩

theorem bleedTimerExpiry : Statement .bleedTimerExpiry :=
  ⟨fun _ => trivial, fun _ => rfl⟩

theorem lossRunLimit : Statement .lossRunLimit :=
  ⟨fun _ => trivial, fun _ => rfl⟩

theorem stopChainOpen : Statement .stopChainOpen :=
  ⟨fun _ => trivial, fun _ => rfl⟩

theorem stopChainClosed : Statement .stopChainClosed :=
  ⟨fun _ => trivial, fun _ => rfl⟩

theorem handwheelEdge (up : Bool) : Statement (.handwheelEdge up) :=
  ⟨fun _ => trivial, fun _ => rfl⟩

theorem enablingSwitchRelease (pressedThrough : Bool) : Statement (.enablingSwitchRelease pressedThrough) :=
  ⟨fun _ => trivial, fun _ => rfl⟩

theorem controlDebounce (r : ControlReading) : Statement (.controlDebounce r) :=
  ⟨fun _ => trivial, fun _ => rfl⟩

theorem cycleStart : Statement .cycleStart :=
  ⟨fun _ => trivial, fun _ => rfl⟩

theorem feedHold : Statement .feedHold :=
  ⟨fun _ => trivial, fun _ => rfl⟩

theorem resetButton : Statement .resetButton :=
  ⟨fun _ => trivial, fun _ => rfl⟩

theorem refButton : Statement .refButton :=
  ⟨fun _ => trivial, fun _ => rfl⟩

theorem spindleStart : Statement .spindleStart :=
  ⟨fun _ => trivial, fun _ => rfl⟩

theorem spindleStop : Statement .spindleStop :=
  ⟨fun _ => trivial, fun _ => rfl⟩

theorem coolantButton : Statement .coolantButton :=
  ⟨fun _ => trivial, fun _ => rfl⟩

theorem supplyBelowThreshold : Statement .supplyBelowThreshold :=
  ⟨fun _ => trivial, fun _ => rfl⟩

theorem frameNotAccepted (trail : Trail) : Statement (.frameNotAccepted trail) :=
  ⟨fun _ => trivial, fun _ => rfl⟩

end Sys2Proof.Laws.WfField
end

