-- ==== Sys2Proof/Tests/Slice0.lean ====
section
/-! SUPPORT. Tests: ill-formed commands refused, the manual's worked examples, and for each obligation with
hypotheses a state and operands that meet them. Every expected value is the manual's own. -/

namespace Sys2Proof.Tests

open Machine

-- One test after the other: the kernel evaluations would otherwise wait on one another in a thread each.
set_option Elab.async false

/-! ### A small machine: node 3 of two nodes, with both channels, spindle, coolant and pendant -/

/-- The gear ranges of 8.12. -/
def spindleP : SpindleParams :=
  { motorMax := 2500, nudge := 30,
    r1 := { ratio := 8000, min := 5, max := 250, ramp := 512, posA := .p1, posB := .p1 },
    r2 := { ratio := 4000, min := 10, max := 500, ramp := 1024, posA := .p2, posB := .p1 },
    r3 := { ratio := 2000, min := 20, max := 1000, ramp := 2048, posA := .p1, posB := .p2 },
    r4 := { ratio := 1000, min := 40, max := 2000, ramp := 4096, posA := .p2, posB := .p2 } }

/-- The coolant parameters of 9.11. -/
def coolantP : CoolantParams :=
  { fullScale := 16380, pOk := 6000, pLow := 3000, hyst := 400, tscMin := 100, clamp := 50 }

/-- An axis section with the compensation mode of 7.16. -/
def axisP : AxisParams :=
  { num := 1, den := 4, kp := 1024, kf := 256, followLimit := 500, vmax := 1000000, amax := 10000,
    winLow := -200000, winHigh := 200000, jogVel := 500000, jogAcc := 5000, searchMinus := false,
    clampFitted := true, searchDist := 100000, searchVel := 100000, backOff := 500, refPos := 1000,
    seg := some 16000, compOrigin := 0 }

/-- The map of 7.16: eight entries, entry 3 invalid, e5 = +12, e6 = +20, e7 = +14, each with the odd
parity of R108. -/
def mapOf716 : List CompEntry :=
  [0x4000, 0x4000, 0x4000, 0x0000, 0x4000, 0x400C, 0x4014, 0xC00E].map fun w => { word := w, failed := false }

def liveEntry (f : Functions) : NodeEntry :=
  { NodeEntry.reset with state := .live, silence := 100, funcs := some f, tag := some 7 }

def ownF : Functions := { ax0 := some 0, ax1 := some 1, spindle := true, coolant := true, pendant := true }
def peerF : Functions := { ax0 := some 2, ax1 := none, spindle := false, coolant := false, pendant := false }

def axis0 : Axis :=
  { Axis.reset mapOf716 with drive := .enabled, referenced := true, clamp := .clamped }

/-- Node 3, ACTIVE, in MANUAL at rest with STOPPED and held clear, node 1 its one peer. -/
def node : Node :=
  { Node.reset { StartUp.inFullReset 3 .us1 true false .powerOn none with
                 start := .configured, firstActive := false } inactivePins with
    par := { ident := { tag := 7, expected := 0x000a, ax0 := some 0, ax1 := some 1, spindle := true,
                        coolant := true, pendant := true },
             headWait := 10000, axis0 := some axisP, axis1 := some axisP, spindle := some spindleP,
             coolant := some coolantP, pendant := some { axes := [some 0, some 1, none, none, none, none, none, none] } }
    lc := { LC.reset with state := .active, joined := true }
    nt := { NT.reset with
            entries := ((List.replicate 16 NodeEntry.reset).set 1 (liveEntry peerF)).set 3 (liveEntry ownF) }
    cu := { CU.reset with held := false, stopped := false }
    pg := { PG.reset with tick := 100, phase := 500 }
    ax0 := axis0
    ax1 := axis0
    sg := { SG.reset with gear := .engaged .g2, a2 := ⟨true, 0⟩, b1 := ⟨true, 0⟩, refRange := .g2 } }

def at' (n : Node) : State := { node := n, pending := [] }
def here : State := at' node

/-- A frame of node 1 and a frame of the node's own. -/
def rx1 : Rx :=
  { sender := 1, own := false, lead := 40, capture := ⟨100, 490⟩, phase := 510, syncDriven := true,
    busyBit := false, errorBit := false }
def rxOwn : Rx := { rx1 with sender := 3, own := true }
def stampNow : Stamp := { tick := 100, phase := 490 }

/-- The node with its line controller in another state. -/
def lineNode (st : LineState) : Node := { node with lc := { node.lc with state := st } }

/-- What a command leaves of a node, or the node itself where it answers no next state. -/
def after (i : Instr) (n : Node) : Node :=
  match exec i (at' n) with
  | .next t => t.node
  | _ => n

/-- A block of length 2 as in 6.12, and the BLOCK payload that carries it. -/
def fields612 : BlockFields :=
  { frameSel := 0, cont := false, len := 2, feed := 65536, acc := 16384, junction := 0, dwell := 0,
    gear := 0, spindle := none, coolant := none, comps := [{ axis := 0, target := 1002 }] }

def body612 (num : BlockNo) : BlockBody :=
  { num := num, frameSel := 0, flags := 0x0a, len := 2, feed := 65536, acc := 16384, junction := 0,
    dwell := 0, gear := 0, speed := 0, count := 1, comps := [{ axis := 0, target := 1002 }] }

def run612 : Run :=
  { num := 30, len := 2, feed := 65536, acc := 16384, junction := 0, cont := false, ceiling := 150,
    p := 0, v := 0, elapsed := 0, dwell := 0, fresh := true, final := false, carry := 0 }

def entryOf (num : BlockNo) (st : EntryState) : Entry :=
  { num := num, state := st, fields := some fields612, rec0 := none, rec1 := none,
    roles := [{ role := .axis 0, node := some 3 }], orphan := false, verdicts := [(3, .ready 150)],
    lastAsked := some (.ready 150), goStamp := none, ceiling := 150, start := .unset }

/-- The node with block entries, and with one of them running. -/
def withBlocks (es : List Entry) (n : Node) : Node :=
  { n with bq := { n.bq with entries := es, expected := some 33 } }

def runningNode : Node :=
  { withBlocks [entryOf 30 .running, entryOf 31 .evaluated] node with
    pg := { node.pg with run := some { run612 with p := 16384, v := 16384, fresh := false } } }

/-! ### Well-formed commands -/

theorem test_wf_block_of_five_components :
    (Instr.block rx1 { body612 1 with comps := List.replicate 5 { axis := 0, target := 0 } }).wf = false := by
  decide +kernel

theorem test_wf_fault_of_29_counts :
    (Instr.fault rx1 { cond := 0, cls := 0, tick := 0, flags := 0, running := 0, detail := 0,
                       counts := List.replicate 29 0, overflow := 0 }).wf = false := by
  decide +kernel

theorem test_wf_image_of_4097_bytes :
    (Instr.imageReadDone (List.replicate 4097 0) inactivePins).wf = false := by decide +kernel

theorem test_wf_block_of_one_component : (Instr.block rx1 (body612 1)).wf = true := by decide +kernel

/-! ### Bits on the line (R2, R185) and the image (R187) -/

/-- 12.1: a GO holds the line for 102 bit times, the objection slot among them. -/
theorem test_go_frame_is_102_bit_times :
    (attemptBits 1 (some stampNow) (.go 17)).length = 102 := by decide +kernel

/-- R185: the header fields of an unstamped frame of class 3 from node 5, kind 18, length 24. -/
theorem test_header_bits :
    headerBits { cls := 3, sender := 5, code := 18, stamp := none, len := 24 } =
      [true, true, false, true, false, true, false, true, false, false, true, false, false,
       false, false, true, true, false, false, false, false, false, false, false] := by decide +kernel

/-- R3: a frame with a bit changed has another check. -/
theorem test_changed_bit_is_found :
    judgeBits ((frameBits 1 none (.reference 2)).set 30 true) = .checkError := by decide +kernel

/-- An image of node 3 with identity, empty chain and coolant sections; its check was computed by hand
from R185's register. -/
def image3 : List Byte :=
  [0x5a, 0x24, 0x01, 0x00, 0x00, 0x23, 0x9e, 0xca, 0x01, 0x00, 0x08, 0x03, 0xff, 0xff, 0x02, 0x00, 0x07,
   0x00, 0x08, 0x02, 0x00, 0x02, 0x00, 0x05, 0x06, 0x00, 0x08, 0x3f, 0xfc, 0x17, 0x70, 0x0b, 0xb8, 0x01, 0x90]

/-- R27, R28, R187: the image passes, with the defaults of the parameters it omits. -/
theorem test_good_image :
    judgeImage 3 image3 = .good
      { par := { ident := { tag := 7, expected := 8, ax0 := none, ax1 := none, spindle := false,
                            coolant := true, pendant := false },
                 headWait := 500, axis0 := none, axis1 := none, spindle := none,
                 coolant := some coolantP, pendant := none },
        comp0 := [], comp1 := [] } := by decide +kernel

/-- R27: the reason codes of the first check that fails. -/
theorem test_image_reasons :
    judgeImage 3 (image3.set 0 0) = .bad 1 ∧ judgeImage 3 (image3.set 5 8) = .bad 2 ∧
      judgeImage 3 (image3.set 30 1) = .bad 3 ∧ judgeImage 4 image3 = .bad 4 := by decide +kernel

/-- 12.3: an entry read as C00Dh is +13 and has five ones, an odd count. The example's count for +12 is
wrong (assumption log 5): by the rule 400Ch, with three ones, passes and C00Ch, with four, fails. -/
theorem test_compensation_entries :
    compParityOk { word := 0xC00D, failed := false } = true ∧
      compCorrection { word := 0xC00D, failed := false } = 13 ∧
      compParityOk { word := 0x400C, failed := false } = true ∧
      compParityOk { word := 0xC00C, failed := false } = false ∧
      compCorrection { word := 0x400C, failed := false } = 12 := by decide +kernel

/-! ### Gaps (R5, 2.9) -/

theorem test_gaps_of_2_9 :
    gapOf 2 { LC.reset with state := .active } (newTx (.go 17) false 0) = 30 ∧
      gapOf 4 { LC.reset with state := .active } (newTx (.go 17) false 0) = 32 ∧
      gapOf 2 { LC.reset with state := .active } (newTx (.state (stateBody node)) false 0) = 62 := by
  decide +kernel

/-! ### Path profile (6.12, 6.13) -/

/-- The node of 6.12, with the held flag set from a tick on. -/
def step612 (held : Bool) (r : Run) : Run :=
  runStep { node with cu := { node.cu with held := held } } r

/-- Positions and velocities of a number of unheld steps. -/
def stepsOf (n : Node) : Nat → Run → List (Nat × Nat)
  | 0, _ => []
  | k + 1, r => ((runStep n r).v, (runStep n r).p) :: stepsOf n k (runStep n r)

theorem test_block_30_unheld :
    stepsOf node 6 run612 = [(16384, 16384), (32768, 49152), (32768, 81920), (16384, 98304),
      (16384, 114688), (16384, 131072)] := by decide +kernel

theorem test_block_30_held :
    stepsOf { node with cu := { node.cu with held := true } } 3
        { run612 with v := 32768, p := 49152, fresh := false } =
      [(16384, 65536), (0, 65536), (0, 65536)] := by decide +kernel

theorem test_block_30_resumed :
    stepsOf node 4 { run612 with v := 0, p := 65536, fresh := false } =
      [(16384, 81920), (16384, 98304), (16384, 114688), (16384, 131072)] := by decide +kernel

/-- 6.13: held inside the stopping distance, block 60 carries 32,768 into its continuing successor. -/
theorem test_block_60_carries :
    (runStep { withBlocks [entryOf 60 .running, entryOf 61 .committed] node with
                cu := { node.cu with held := true } }
      { run612 with num := 60, cont := true, junction := 65536, v := 49152, p := 98304,
                    fresh := false }).carry = 32768 := by decide +kernel

/-- R10: the capture is taken at the start bit's leading edge. A bit of 1 µs in which the quiet count
reaches the gap of 30 begins the attempt at the phase the bit before it ended at. -/
theorem test_capture_at_the_leading_edge :
    let n := { node with lc := { node.lc with queue := [newTx (.go 17) false 0], quiet := 30 },
                         su := { node.su with node := 2 }, pg := { node.pg with phase := 128 } }
    (bitTime n).lc.capture = some ⟨100, 128⟩ ∧ (bitTime n).pg.phase = 129 := by decide +kernel

/-- R53, R31: the bit time in which JOINING ends after line-off recovery changes the line state, so with the STATE
timer at 5 it asks for a STATE, and with the timer at 4 for none. -/
theorem test_joining_ends_with_a_state :
    let n (k : Nat) : Node :=
      { node with lc := { node.lc with state := .joining, recoveryMark := true, quiet := 127, queue := [] }
                  nt := { node.nt with stateRunning := true, stateTimer := k, lastKey := none } }
    (bitTime (n 5)).lc.state = .active ∧ (bitTime (n 5)).nt.stateTimer = 0 ∧
      (bitTime (n 5)).lc.queue.length = 2 ∧ (bitTime (n 4)).nt.stateTimer = 4 ∧
      (bitTime (n 4)).lc.queue.length = 1 := by decide +kernel

/-- R77: a tick shortened by 2 µs ends after phase 997, and one lengthened holds at 999. -/
theorem test_phases_of_a_tick :
    (phaseAfter 998 2 996).val = 997 ∧ (phaseAfter 1002 2 998).val = 999 := by decide +kernel

/-- R4: behind an error bit the quiet count is 0 and behind a busy bit 1; a check error in ACTIVE drives the
error bit itself, and one in JOINING, with two released slot bits, leaves 2. -/
theorem test_quiet_counts_after_frames :
    slotQuiet true rx1 = 1 ∧ slotQuiet true { rx1 with errorBit := true } = 0 ∧ slotQuiet false rx1 = 2 ∧
      (after (.checkError ⟨40, 2, 600⟩) node).lc.quiet = 0 ∧
      (after (.checkError ⟨40, 2, 600⟩) (lineNode .joining)).lc.quiet = 2 := by decide +kernel

/-- R10: the node's time runs on through a frame that is broken off, so a later capture stands behind it. -/
theorem test_phase_after_a_broken_frame :
    (after (.syncError ⟨40, 1, 700⟩) node).pg.phase = 700 ∧
      (after (.frameNotAccepted ⟨40, 1, 710⟩) node).pg.phase = 710 := by decide +kernel

/-- R18: the check error that takes the receive count to 128 drives no error bit, QUIET being in force. -/
theorem test_check_error_into_quiet :
    let n := { node with lc := { node.lc with recv := 126 } }
    (after .checkError n).lc.state = .quiet ∧
      (after .checkError n).lc.slotError = false := by decide +kernel

/-- 12.2: the read command and its three address bytes, with 4,096 bytes behind them, take 32,800 clocks. -/
theorem test_read_command_of_R187 :
    readClocks 4096 = 32800 ∧ memoryAnswers readCommand image3 = image3 := by decide +kernel

/-- R93: a tick without a running block gets its entry at its end, so one that a snap left keeps none. -/
theorem test_history_of_a_tick_without_a_block :
    (historyTick node).pg.history = [] ∧
      (historyEnd node).pg.history = [{ tick := 100, running := none, elapsed := 0 }] := by decide +kernel

/-- 6.14: a skew of +120 µs makes q −30, and the next tick 1002 µs with q −28. -/
theorem test_slew_of_6_14 : slewAfter 0 120 = -30 ∧ slewTick (-30) = (1002, -28) := by decide +kernel

/-! ### Axis channels (R101, 7.15, 7.16) -/

theorem test_actual_position_of_R101 : actualOf axisP 400003 = 100000 ∧ actualOf axisP (-5) = -2 := by
  decide +kernel

theorem test_commanded_x_of_7_15 :
    [16384, 49152, 81920, 98304, 114688, 131072].map (fun p => pathCommand 1000 1002 p 131072) =
      [1000, 1001, 1001, 1002, 1002, 1002] := by decide +kernel

theorem test_corrections_of_7_16 :
    [90000, 95000, 100000, 120000].map (fun c => (correctionRead axisP axis0 c).2.1) = [17, 19, 19, 14] := by
  decide +kernel

theorem test_gap_of_7_16 :
    crossesGap axisP axis0 100000 50000 = true ∧ clampToGap axisP axis0 66000 61000 = 64000 := by
  decide +kernel

/-- R118: a move that a mark's load still owes survives a REFERENCE accepted before the next tick work. -/
theorem test_mark_shift_survives_a_reference :
    (refStart axisP false { axis0 with markShift := 40 }).markShift = 40 := by decide +kernel

/-! ### Spindle (R131, 8.12), coolant (9.11), pendant (R167) -/

/-- A node in AUTO at 400 rpm and at speed, with a head that asks 450 in the same range. -/
def newSpeedNode : Node :=
  let f := { fields612 with spindle := some { rpm := 450, ccw := false } }
  let e := { entryOf 31 .evaluated with fields := some f, roles := [{ role := .spindle, node := some 3 }] }
  { withBlocks [e] node with
    nt := { node.nt with mode := .auto }
    sg := { node.sg with request := some { rpm := 400, ccw := false }, command := 400, spindle := .running,
                         ramped := 102400, estimate := 400, atSpeed := true, atRun := 100 } }

/-- R136, R137, R133: the tick at which the unit acts judges the head WAIT SPINDLE_SPEED, and its at-speed test against
450 fails. -/
theorem test_act_on_a_new_speed_waits :
    let n := tickHead newSpeedNode
    n.sg.request = some { rpm := 450, ccw := false } ∧
      (evaluatedHead n).bind Entry.lastAsked = some (.wait .spindleSpeed) ∧
      (speedTick spindleP { n with pins := { n.pins with feedback := 1600 } }).sg.atSpeed = false := by
  decide +kernel

/-- R133: a start form leaves the at-speed flag to the test of the next tick. -/
theorem test_start_form_leaves_the_flag :
    let n := obeyStart spindleP 420 false { newSpeedNode with sg := { newSpeedNode.sg with estimate := 398 } }
    n.sg.atSpeed = true ∧ n.sg.atRun = 100 ∧ n.sg.command = 400 := by decide +kernel

/-- R93, R94: as a tick begins the history holds the three ticks before it. -/
theorem test_history_of_the_last_four_ticks :
    let h (k : Nat) : PaceEntry := { tick := BitVec.ofNat 32 k, running := none, elapsed := 0 }
    let n := countTick { node with pg := { node.pg with history := [h 100, h 99, h 98, h 97] } }
    n.pg.tick = 101 ∧ n.pg.history.map PaceEntry.tick = [100, 99, 98] := by decide +kernel

/-- R109: dcc is 0 at the first ENABLED tick, also with a path command that moves by 500 meanwhile: with Kp = 1,024 the
command is 1,024 × (500 − 0) / 256. -/
theorem test_first_enabled_tick_has_no_command_change :
    let e := { entryOf 30 .running with rec0 := some (.resolved 0 1000 true) }
    let n := { withBlocks [e] node with
      pg := { node.pg with run := some { run612 with p := 65536, v := 0, fresh := false } }
      ax0 := { axis0 with drive := .enabling, driveTimer := 400, referenced := false, clamp := .unclamped,
                          motion := .chain, count := 0 }
      pins := { inactivePins with ax0 := { inactivePins.ax0 with ready := true, unclamped := true } } }
    let a := getAx .ax0 (axisTick .ax0 axisP n)
    a.drive = .enabled ∧ a.corrected = 500 ∧ a.prevCorrected = 500 ∧ a.driveChanged = false ∧
      a.driveCommand = 2000 := by decide +kernel

theorem test_drive_command_of_R131 :
    spindleDrive spindleP { SG.reset with refRange := .g2, spindle := .running, ramped := 102400 } = 20970 ∧
      nudgeCommand spindleP false = 393 := by decide +kernel

theorem test_automatic_range_of_8_12 :
    settle spindleP 800 none = (.g3, 800, false) ∧ settle spindleP 9999 none = (.g4, 2000, true) := by
  decide +kernel

theorem test_averages_of_9_11 :
    average { CL.reset with window := [7000, 7000, 7000, 7000, 7000, 7000, 7000, 5600] } = 6825 ∧
      average { CL.reset with window := [7000, 7000, 5600, 5600, 5600, 5600, 5600, 5600] } = 5950 := by
  decide +kernel

theorem test_feed_knob_of_R167 :
    knobIndex 15 2958 10 = 11 ∧ knobIndex 15 2957 10 = 10 ∧ knobIndex 15 2548 10 = 10 ∧
      knobIndex 15 2547 10 = 9 := by decide +kernel

/-! ### Commands -/

/-- 10.7: twelve detents at ×10 give accumulator and jog target, the repeated frame is a duplicate. -/
theorem test_jog_of_10_7 :
    let n := { node with ax0 := { node.ax0 with commanded := 100000, clamp := .unclamped }
                         nt := { node.nt with enabling := true, mode := .manual } }
    let m := after (.jog rx1 0 1 12 0) n
    m.ax0.jogAccum = 120 ∧ m.ax0.jogTarget = 100120 ∧
      (after (.jog rx1 0 1 12 0) m).ax0.jogTarget = 100120 := by decide +kernel

/-- R49, R178: an accepted STOPALL sets the STOPPED latch and the held flag. -/
theorem test_stopall_latches :
    (after (.stopall rx1) node).cu.stopped = true ∧ (after (.stopall rx1) node).cu.held = true := by
  decide +kernel

/-- R25: RESTART with the latch clear is not taken, with it set it is. -/
theorem test_restart_needs_the_latch :
    (after (.restart rx1 3 9) node).su.start = .configured ∧
      (after (.restart rx1 3 9) { node with cu := { node.cu with stopped := true } }).su.start = .inReset := by
  decide +kernel

/-- 11.10: DRIVE_FAULT at tick 52,300 with block 400 running. -/
theorem test_drive_fault_of_11_10 :
    let n := { runningNode with pg := { runningNode.pg with
                 tick := 52300, run := some { run612 with num := 400 } } }
    let m := after (.driveFaultInput .ax0) n
    m.cu.record = some { cond := .driveFault, tick := 52300, running := some 400, detail := 0 } ∧
      m.cu.owed = true ∧ m.cu.counts.getD 3 0 = 1 ∧
      (m.lc.queue.map txClass = [0, 3] ∨ m.lc.queue.map txClass = [0, 3, 3]) := by decide +kernel

/-! ### Witnesses: states and operands that meet the hypotheses of the obligations -/

def stoppedNode : Node := { node with cu := { node.cu with stopped := true } }
def loadingNode (attempt : Nat) : Node :=
  { State.reset.node with su := { State.reset.node.su with start := .loading, node := 3, attempt := attempt } }
def unjoinedNode : Node := { node with lc := { node.lc with joined := false } }
def holdTx (inTx : Bool) : TxEntry := { newTx .hold false 0 with inTx := inTx }
def sendingNode (send : Nat) : Node :=
  { node with lc := { node.lc with queue := [holdTx true], send := send } }
def slewNode (q : Int) : Node := { node with pg := { node.pg with slew := q } }
def keptNode (p : Payload) : Node :=
  { node with kept := [{ apply := 100, stamp := 98, sender := 1, own := false, payload := p }] }

/-- A node that runs, with an attempt due and without one, one in JOINING, one in LOADING and one in reset. -/
theorem witness_EmptyQueueStepIsOneBitTime :
    here.pending = [] ∧ here.node.su.start ≠ .inReset ∧ node.lc.state ≠ .joining ∧
      State.reset.pending = [] ∧ State.reset.node.su.start = .inReset ∧
      (loadingNode 1).su.start = .loading ∧ loaded node = true ∧ attemptDue node = false ∧
      attemptDue { node with lc := { node.lc with queue := [holdTx false], quiet := 200 } } = true ∧
      (lineNode .joining).lc.state = .joining := by decide +kernel

theorem witness_CommandsBeforeEndOfLoadingDoNothing :
    loaded State.reset.node = false ∧ actsBeforeLoaded (.stopall rx1) = false := by decide +kernel

theorem witness_LineControllerAfterResetAndRecovery :
    isHardReset .powerOn = true ∧ isHardReset .resetPin = true ∧ isHardReset .supplyBelowThreshold = true ∧
      (State.reset.node.su.start = .inReset ∧ State.reset.node.su.supplyOk = true) ∧
      (loaded (lineNode .off) = true ∧ (lineNode .off).lc.state = .off) := by decide +kernel

/-- Also for UnitsAfterReset and ResetCauses. -/
theorem witness_restart_taken :
    loaded stoppedNode = true ∧ joins rx1.lead.val stoppedNode = true ∧ slotClear rx1 stoppedNode = true ∧
      restartTaken 3 9 (accepted rx1 stoppedNode) = true := by decide +kernel

theorem witness_ResetCauses_not_taken :
    loaded node = true ∧ joins rx1.lead.val node = true ∧ slotClear rx1 node = true ∧ (4#8).toNat ≠ (accepted rx1 node).su.node.val ∧ (accepted rx1 node).cu.stopped = false ∧
      (let n := { stoppedNode with su := { node.su with serial := some 9 } }
       loaded n = true ∧ (accepted rx1 n).su.serial = some 9) := by decide +kernel

theorem witness_ReleaseBeginsLoading :
    (State.reset.node.su.start = .inReset ∧ State.reset.node.su.supplyOk = true) ∧
      ∃ t, exec .supplyBelowThreshold here = .next t :=
  ⟨by decide +kernel, _, rfl⟩

/-- A reading that passes, a first one and a second one that fail. -/
theorem witness_ImageReadingDecidesTheStartState :
    (loadingNode 1).lc.state = .joining ∧ (loadingNode 1).cu.stopped = true ∧
      (let t := after (.imageReadDone image3 { inactivePins with tankLow := true, chainOpen := true }) (loadingNode 2)
       t.par.coolant.isSome = true ∧ condIn .tankLow t.cu.own = true ∧ t.cu.owed = true) ∧
      (loadingNode 1).su.start = .loading ∧ (loadingNode 1).nt.entries.length = 16 ∧
      (loadingNode 1).cu.record = none ∧ (loadingNode 1).su.attempt = 1 ∧ (loadingNode 2).su.attempt ≠ 1 ∧
      judgeImage 3 [] = .bad 1 ∧
      (after (.imageReadDone image3 inactivePins) (loadingNode 2)).su.start = .configured ∧
      (after (.imageReadDone [] inactivePins) (loadingNode 2)).su.start = .limited := by decide +kernel

theorem witness_MotionTickCountsAndSlews :
    State.reset.node.su.start = .inReset ∧ node.su.start ≠ .inReset ∧ (slewNode (-5)).pg.slew < 0 ∧
      (slewNode 0).pg.slew = 0 ∧ 0 < (slewNode 5).pg.slew := by decide +kernel

theorem witness_PressureWindowTakesOneSamplePerTick :
    node.su.start = .configured ∧ node.par.coolant = some coolantP ∧
      ({ CL.reset with window := [7000, 7000, 7000, 7000, 7000, 7000, 5600, 5600] } : CL).window =
        [7000, 7000, 7000, 7000, 7000, 7000, 5600, 5600] := by decide +kernel

theorem witness_EncoderCountAndActualPosition :
    loaded node = true ∧ (axParams .ax0 node).isSome = true ∧ node.su.start = .configured ∧
      axParams .ax0 node = some axisP ∧ axisP.num = 1 ∧ axisP.den = 4 ∧
      (getAx .ax0 node).motion ≠ .reference := by decide +kernel

theorem witness_ProfileStepStaysWithinTheBlock :
    run612.p ≤ lq run612 ∧ run612.final = false ∧ node.pg.knob ≤ 150 := by decide +kernel

theorem witness_HeldAndStoppedPathsSlowDown :
    ({ node with cu := { node.cu with held := true } } : Node).cu.held = true ∧
      ({ node with pg := { node.pg with stopMark := true } } : Node).pg.stopMark = true ∧
      run612.final = false ∧ 0 < run612.len := by decide +kernel

/-- A RUNNING block with a HOLD due two ticks on, moving and at its stop deceleration's last and first steps. -/
theorem witness_HeldAndStoppedPathsSlowDown_tick :
    let k : Kept := { apply := 102, stamp := 100, sender := 1, own := false, payload := .hold }
    let n := { runningNode with kept := [k] }
    n.su.start = .configured ∧ (∃ r, n.pg.run = some r ∧ r.final = false) ∧
      condIn .modeSwitch n.cu.own = false ∧ (∀ x ∈ n.kept, later x.apply (n.pg.tick + 1) = true) ∧
      (∀ e ∈ n.nt.entries, e.state = .live → e.silence ≠ 1) ∧ n.pg.stopMark = false ∧
      (∀ v ∈ [16384, 65536],
        let r := { run612 with p := 16384, v := v }
        let m := { n with pg := { n.pg with stopMark := true, run := some r } }
        (∃ e ∈ m.bq.entries, inChain e = true) ∧ (runStep m r).final = false ∧
          ((runStep m r).v = 0 ↔ v = 16384)) := by
  refine ⟨by decide +kernel, ⟨_, rfl, by decide +kernel⟩, by decide +kernel, by decide +kernel, by decide +kernel,
    by decide +kernel, by decide +kernel⟩

def dwellRun : Run := { run612 with len := 0, dwell := 3 }

theorem witness_DwellBlocksCountTheirTicks :
    ({ fields612 with len := 0 } : BlockFields).len = 0 ∧ dwellRun.final = false ∧ dwellRun.len = 0 ∧
      0 < dwellRun.dwell ∧ loaded runningNode = true ∧
      (∃ r, runningNode.pg.run = some r ∧ r.len ≠ 0) ∧
      ({ runningNode with pg := { node.pg with run := some dwellRun } } : Node).pg.run = some dwellRun :=
  ⟨rfl, by decide +kernel, by decide +kernel, by decide +kernel, by decide +kernel, ⟨_, rfl, by decide⟩,
    rfl⟩

/-- A COMMITTED head to start, with and without a carried velocity, and one of a dwell block. -/
def startEntry (f : BlockFields) : Entry := { entryOf 31 .committed with start := .at 100, fields := some f }
def startNode (f : BlockFields) (carry : Option (Tick × Nat)) : Node :=
  { withBlocks [startEntry f] node with pg := { node.pg with carry := carry } }

theorem witness_BlockStartTakesTheCommittedEntry :
    (∀ f ∈ [fields612, { fields612 with len := 0 }], ∀ c ∈ [none, some (99#32, 5), some (98#32, 5)],
      loaded (startNode f c) = true ∧ (startNode f c).bq.entries.head? = some (startEntry f) ∧
        (startNode f c).pg.run = none ∧ (startEntry f).state = .committed ∧
        (startEntry f).start = .at 100 ∧ (startEntry f).fields = some f ∧ (startNode f c).pg.carry = c) ∧
      node.pg.tick - 1 = 99 := by decide +kernel

/-- Channel 0 read in a segment, below and beyond the map, and where entry 2 fails its parity test; with a
following run of 3 and a saturation run of 49; and a motion tick that leaves its drive ENABLED. -/
theorem witness_CorrectionAndServoOutput :
    axis0.referenced = true ∧ axisP.seg = some 16000 ∧
      (∀ x ∈ [(-5 : Int), 90000, 200000], parityFailures axis0 (cellEntries axis0 (compCell 16000 axis0 x)) = []) ∧
      (-5 : Int) < 0 ∧ ((7 * 16000 : Nat) : Int) ≤ 200000 ∧ axis0.comp.length - 1 = 7 ∧
      (((5 * 16000 : Nat) : Int) ≤ 90000 ∧ (90000 : Int) < ((6 * 16000 : Nat) : Int)) ∧
      (let a := { axis0 with comp := axis0.comp.set 2 { word := 0xC00C, failed := false }, commanded := 40000 }
       parityFailures a (cellEntries a (compCell 16000 a (a.commanded - axisP.compOrigin))) ≠ []) ∧
      (let a := { axis0 with corrected := 501, followRun := 3 }
       a.drive = .enabled ∧ axisP.followLimit < (a.corrected - a.actual).natAbs) ∧
      (let a := { axis0 with corrected := 9000, satRun := 49 }
       32767 < Int.tdiv (axisP.kp * (a.corrected - a.actual) + axisP.kf * (a.corrected - a.prevCorrected)) 256) ∧
      node.cu.counts.length = 30 ∧ node.cu.record = none ∧ (axPins .ax0 node.pins).limPlus = false ∧
      (axPins .ax0 node.pins).limMinus = false ∧ node.su.start = .configured ∧
      axParams .ax0 node = some axisP ∧ DriveState.disabled ≠ .enabled := by decide +kernel

/-- A drive that stays ENABLED at a motion tick, and one that becomes so. -/
theorem witness_CorrectionAndServoOutput_at_a_tick :
    let pins := { inactivePins with ax0 := { inactivePins.ax0 with ready := true, clamped := true }
                                    ax1 := { inactivePins.ax1 with ready := true, clamped := true } }
    let first := { node with ax0 := { axis0 with drive := .enabling, driveTimer := 400 } }
    axis0.driveChanged = false ∧ (getAx .ax0 (after (.motionTick pins) node)).drive = .enabled ∧
      (getAx .ax0 (after (.motionTick pins) first)).drive = .enabled := by decide +kernel

/-- The capture 5 µs and 300 µs behind the stamp, at rest and on an engaged path; and a frame of the node's
own, which gives no skew. -/
theorem witness_StampTicksAndSkew :
    givesSkew rxOwn.sender rxOwn.own node = false ∧ givesSkew rx1.sender rx1.own node = true ∧
      snaps rx1.sender (skewOf ⟨100, 495⟩ stampNow) node = false ∧
      (skewOf ⟨100, 495⟩ stampNow).natAbs ≤ 200 ∧
      snaps rx1.sender (skewOf ⟨100, 790⟩ stampNow) node = true ∧
      givesSkew rx1.sender rx1.own runningNode = true ∧
      snaps rx1.sender (skewOf ⟨100, 790⟩ stampNow) runningNode = false ∧
      200 < (skewOf ⟨100, 790⟩ stampNow).natAbs ∧ engaged runningNode = true := by decide +kernel

/-- What the skew of a HOLD of node 1, and of another stamped frame of it, leaves of a node. -/
def alignedHold (st : Stamp) (n : Node) : Node × Moment :=
  alignTimeBy (beneath (keptOf rx1 (captureOf rx1 n) st .hold)) rx1 (captureOf rx1 n) st
    (holdWithdraw rx1 (accepted rx1 n))
def alignedOther (st : Stamp) (n : Node) : Node × Moment := alignTime rx1 (captureOf rx1 n) st (accepted rx1 n)
def windowAt (st : Stamp) (x : Node × Moment) : Window :=
  windowOf (fullStampTick st.tick x.2.tick + 2) x.2.tick x.1.pg.tick

/-- A HOLD, and a RESUME, an OVERRIDE of either form or a PACE, in its window; and a late HOLD and RESUME at an
engaged path. -/
theorem witness_StampedFramesAreKeptOrAppliedAtOnce :
    (loaded node = true ∧ joins rx1.lead.val node = true ∧ slotClear rx1 node = true ∧ windowAt stampNow (alignedHold stampNow node) = .inTime ∧
      windowAt stampNow (alignedOther stampNow node) = .inTime ∧ rx1.own = false) ∧
    ((after (.hold rx1 stampNow) node).kept.map Kept.payload = [.hold] ∧
      (after (.resume rx1 stampNow) node).kept.map Kept.payload = [.resume] ∧
      (after (.override rx1 stampNow 0 80) node).kept.map Kept.payload = [.override 0 80] ∧
      (after (.override rx1 stampNow 1 80) node).kept.map Kept.payload = [.override 1 80] ∧
      (after (.pace rx1 stampNow 1 30 7) node).kept.map Kept.payload = [.pace 1 30 7]) ∧
    (loaded runningNode = true ∧
      (let st : Stamp := { tick := 90, phase := 490 }
       windowAt st (alignedHold st runningNode) ≠ .inTime ∧ engaged (alignedHold st runningNode).1 = true ∧
         windowAt st (alignedOther st runningNode) ≠ .inTime ∧
         engaged (alignedOther st runningNode).1 = true)) := by decide +kernel

/-- A kept HOLD, a kept RESUME, and neither. -/
theorem witness_StampedFramesAreKeptOrAppliedAtOnce_apply :
    loaded (keptNode .hold) = true ∧ (∃ k ∈ (keptNode .hold).kept, k.payload = .hold) ∧
      (∀ k ∈ (keptNode .hold).kept, k.payload ≠ .resume) ∧ loaded (keptNode .resume) = true ∧
      (∃ k ∈ (keptNode .resume).kept, k.payload = .resume) ∧
      (∀ k ∈ (keptNode .resume).kept, k.payload ≠ .hold) := by decide +kernel

/-- Both forms of OVERRIDE, and a PACE of node 1 that agrees and one that does not, on an engaged path, with
an entry of its tick and without one, and a PACE of the node's own. -/
theorem witness_OverrideAndPaceApply :
    (∀ f ∈ [0#8, 1#8], loaded (keptNode (.override f 80)) = true ∧
      (keptNode (.override f 80)).kept.find? (fun x => isOverride x.payload) =
        some { apply := 100, stamp := 98, sender := 1, own := false, payload := .override f 80 }) ∧
    (let h : PaceEntry := { tick := 98, running := some 30, elapsed := 7 }
     let n := { runningNode with
       kept := (keptNode (.pace 1 30 7)).kept
       pg := { runningNode.pg with history := [h] } }
     loaded n = true ∧ engaged n = true ∧
       n.pg.history.find? (fun e => e.tick == 98) = some h ∧
       paceAgrees h (some 30) 7 = true ∧ paceAgrees h (some 30) 8 = false ∧
       (∀ x ∈ runningNode.pg.history, x.tick ≠ 98) ∧ engaged node = false ∧
       ({ apply := 100, stamp := 98, sender := 3, own := true, payload := .pace 1 30 7 } : Kept).own = true) := by
  decide +kernel

/-- A frame of node 5, stamped ten ticks back; what its skew leaves of a node, and what a GO for block 31 so
stamped finds. -/
def rx5 : Rx := { rx1 with sender := 5 }
def lateStamp : Stamp := { tick := 90, phase := 490 }
def lateFrame (n : Node) : Node × Moment := alignTime rx5 (captureOf rx5 n) lateStamp (accepted rx5 n)
def lateGo (n : Node) : Node × Moment :=
  alignTime rx5 (captureOf rx5 n) lateStamp (goWithdraw rx5 31 (accepted rx5 n))
def lateWindow (x : Node × Moment) : Window :=
  windowOf (fullStampTick lateStamp.tick x.2.tick + 2) x.2.tick x.1.pg.tick
def headNode : Node := withBlocks [entryOf 31 .evaluated] node
def orphanNode : Node :=
  withBlocks [{ entryOf 31 .evaluated with
    roles := [{ role := .axis 9, node := none }], orphan := true }] node

/-- A late frame at an engaged path and at rest; a late GO for the head, for an orphaned head and on a running
chain; a HOLD-class condition raised with no HOLD on its way. -/
theorem witness_OverrideAndPaceApply_late :
    loaded runningNode = true ∧ joins rx5.lead.val runningNode = true ∧ slotClear rx5 runningNode = true ∧
      lateWindow (lateFrame runningNode) ≠ .inTime ∧ engaged (lateFrame runningNode).1 = true ∧
      lateWindow (lateFrame node) ≠ .inTime ∧ engaged (lateFrame node).1 = false ∧
      (goCase 31 (lateGo headNode).1 = .kept ∧ lateWindow (lateGo headNode) ≠ .inTime ∧
        evaluatedHead (lateGo headNode).1 = some (entryOf 31 .evaluated) ∧
        (entryOf 31 .evaluated).fields.isSome = true ∧ (lateGo headNode).1.cu.stopped = false ∧
        (entryOf 31 .evaluated).orphan = false ∧ chainAtRest (lateGo headNode).1 = true) ∧
      (goCase 31 (lateGo orphanNode).1 = .kept ∧ lateWindow (lateGo orphanNode) ≠ .inTime ∧
        (evaluatedHead (lateGo orphanNode).1).any Entry.orphan = true) ∧
      (goCase 31 (lateGo runningNode).1 = .kept ∧ chainAtRest (lateGo runningNode).1 = false) ∧
      condClass .syncSlip = .hold ∧ node.cu.held = false ∧ txHas isHold node = false ∧
      keptHold node = false ∧ onLine node.lc.state = true ∧ node.lc.queue.length ≤ 6 := by decide +kernel

/-- A node that expects block 33, with a free queue and with a full one. -/
def queueNode (k : Nat) : Node :=
  { node with bq := { node.bq with
      entries := (List.range k).map fun i => entryOf (BitVec.ofNat 16 (33 - k + i)) .queued, expected := some 33 } }

theorem witness_BlockAcceptance :
    (queueNode 1).su.start = .configured ∧ joins rx1.lead.val (queueNode 1) = true ∧ slotClear rx1 (queueNode 1) = true ∧ turnsAway rx1 33 (queueNode 1) = false ∧
      (let m := accepted rx1 (queueNode 1)
       takesNumber 33 m.bq = true ∧ m.bq.entries.length < 16 ∧ (∀ x ∈ m.bq.entries, x.num ≠ 33) ∧
       takesNumber 32 m.bq = false ∧ isDuplicate 32 m.bq = true ∧
       takesNumber 34 m.bq = false ∧ isDuplicate 34 m.bq = false) ∧
      blockGoodForm (body612 33) = true ∧ blockGoodForm { body612 33 with feed := 0 } = false ∧
      (16 ≤ (queueNode 16).bq.entries.length ∧ takesNumber 33 (queueNode 16).bq = true ∧
        fromPeer rx1 (queueNode 16) = true ∧ onLine (queueNode 16).lc.state = true ∧
        turnsAway rx1 33 (queueNode 16) = true) := by decide +kernel

theorem witness_ComponentResolutionAndPathCommand :
    axis0.frames[0]? = some (FrameRec.blank true) ∧ axis0.frames[1]? = some (FrameRec.blank false) ∧
      (FrameRec.blank true).valid = true ∧ (FrameRec.blank false).valid = false ∧
      (2147483647 : Int) < 2147483648 ∧ (-2147483648 : Int) ≤ 1002 ∧ (1002 : Int) ≤ 2147483647 ∧
      0 < 131072 ∧ 98304 ≤ 131072 := by decide +kernel


theorem witness_ReadyRecordsTheVerdict :
    let rx : Rx := { rxOwn with own := true }
    let m := accepted rx headNode
    loaded headNode = true ∧ verdictOf 0 150 = some (.ready 150) ∧ verdictOf 2 0 = some (.refuse .travel) ∧
      evaluatedHead m = some (entryOf 31 .evaluated) ∧
      (participants (entryOf 31 .evaluated)).contains rx.sender.val = true ∧
      verdictOf 3 0 = none ∧ evaluatedHead (accepted rx node) = none ∧
      (participants (entryOf 31 .evaluated)).contains rx1.sender.val = false := by decide +kernel

/-- What the skew of a GO of node 1 leaves of a node, and the first entry of its number. -/
def goAligned (num : BlockNo) (n : Node) : Node × Moment :=
  alignTime rx1 (captureOf rx1 n) stampNow (goWithdraw rx1 num (accepted rx1 n))
def goEntry (num : BlockNo) (n : Node) : Option Entry :=
  (goAligned num n).1.bq.entries.find? fun y => y.num == num

/-- A GO for the head, for an entry behind it, for an INVALID head, for a RUNNING entry, for one with an
accepted GO, for the last completed block, and for a number that no entry carries. -/
theorem witness_GoAcceptanceCases :
    (let n := withBlocks [entryOf 31 .evaluated, entryOf 32 .queued] node
     loaded n = true ∧ goEntry 31 n = some (entryOf 31 .evaluated) ∧
       evaluatedHead (goAligned 31 n).1 = some (entryOf 31 .evaluated) ∧
       windowAt stampNow (goAligned 31 n) = .inTime ∧
       goEntry 32 n = some (entryOf 32 .queued) ∧ headNum (goAligned 32 n).1 ≠ some 32 ∧
       (goAligned 31 n).1.cu.record = none ∧ (goAligned 31 n).1.bq.last ≠ some 31 ∧
       (∀ e ∈ (goAligned 40 n).1.bq.entries, e.num ≠ 40)) ∧
    (let n := withBlocks [entryOf 31 .invalid] node
     goEntry 31 n = some (entryOf 31 .invalid) ∧ headNum (goAligned 31 n).1 = some 31) ∧
    goEntry 30 runningNode = some (entryOf 30 .running) ∧
    (let e := { entryOf 31 .evaluated with goStamp := some 95 }
     goEntry 31 (withBlocks [e] node) = some e ∧ e.goStamp.isSome = true) ∧
    (let n := { headNode with bq := { headNode.bq with last := some 31 } }
     (goAligned 31 n).1.bq.last = some 31) := by decide +kernel

theorem witness_GoApplyCommitsTheHead :
    let k : Kept := { apply := 100, stamp := 98, sender := 1, own := false, payload := .go 31 }
    let n := { headNode with kept := [k] }
    loaded n = true ∧ n.kept.find? (fun x => isGo x.payload) = some k ∧
      evaluatedHead n = some (entryOf 31 .evaluated) ∧ (entryOf 31 .evaluated).fields = some fields612 ∧
      n.cu.stopped = false ∧ (entryOf 31 .evaluated).orphan = false ∧ chainAtRest n = true ∧
      (let s := { n with cu := stoppedNode.cu }
       loaded s = true ∧ s.cu.stopped = true ∧ evaluatedHead s = some (entryOf 31 .evaluated)) := by
  decide +kernel

/-- A QUEUED entry behind the head, and one behind an entry of the chain there; no entry behind it that is QUEUED; no
kept GO; and one whose entry is not the head. -/
theorem witness_GoApplyCommitsTheHead_others :
    let k : Kept := { apply := 100, stamp := 98, sender := 1, own := false, payload := .go 31 }
    let h := { entryOf 32 .queued with roles := [], verdicts := [] }
    let n := { withBlocks [entryOf 31 .evaluated, h] node with kept := [k] }
    n.bq.entries = [] ++ entryOf 31 .evaluated :: [h] ∧ h.num ≠ 31 ∧ h.state = .queued ∧ h.fields.isSome = true ∧
      (after .goApply n).kept = [] ∧ (after .goApply n).bq.entries.map Entry.state = [.committed, .evaluated] ∧
      (let m := { withBlocks [entryOf 31 .evaluated, entryOf 33 .committed, h] node with kept := [k] }
       m.bq.entries = [] ++ entryOf 31 .evaluated :: ([entryOf 33 .committed] ++ h :: []) ∧
         evaluatedHead m = some (entryOf 31 .evaluated) ∧ inChain (entryOf 33 .committed) = true) ∧
      (entryOf 32 .invalid).state ≠ .queued ∧
      [entryOf 33 .committed, entryOf 32 .invalid].find? uncommitted = some (entryOf 32 .invalid) ∧
      node.kept.find? (fun x => isGo x.payload) = none ∧
      (let m := { withBlocks [entryOf 40 .evaluated] node with kept := [k] }
       m.kept.find? (fun x => isGo x.payload) = some k ∧ (evaluatedHead m).map Entry.num = some 40) := by
  decide +kernel

/-- Judgements of each kind on a component; a spindle under its manual stop mark, in GEAR_FAULT, behind a chain,
before a shift and ready; and the coolant rows. -/
theorem witness_HeadJudgementVerdictAndGo :
    (axisJudge axisP axis0 fields612 0 300000 true = .refuse .travel ∧
      axisJudge axisP axis0 fields612 100000 50000 true = .refuse .compGap ∧
      axisJudge axisP { axis0 with referenced := false } fields612 0 5 true = .refuse .unreferenced ∧
      axisJudge axisP axis0 fields612 0 5 true = .refuse .axisAccel ∧
      axisJudge axisP { axis0 with drive := .disabled } fields612 0 1 true = .wait .driveOff ∧
      axisJudge axisP axis0 fields612 0 1 true = .wait .unclamping ∧
      axisJudge axisP { axis0 with clamp := .unclamped } fields612 0 1 true = .ready (some 150) ∧
      axisJudge axisP axis0 fields612 7 7 true = .ready none ∧
      axisJudge { axisP with vmax := 1 } axis0 fields612 0 1 true = .refuse .axisSpeed ∧
      axisP.seg = some 16000) ∧
    (let f := { fields612 with gear := 3 }
     spindleJudge spindleP f { node with sg := { node.sg with manualStop := true } } = .wait .spindleSpeed ∧
       spindleJudge spindleP f { node with sg := { node.sg with gear := .gearFault } } = .refuse .gearFault ∧
       spindleJudge spindleP f runningNode = .wait .chainBusy ∧
       spindleJudge spindleP f node = .wait .shifting ∧ spindleJudge spindleP fields612 node = .ready none ∧
       (let q : SpeedDir := { rpm := 800, ccw := false }
        ({ fields612 with spindle := some q } : BlockFields).spindle = some q)) ∧
    (let k : CircSet := { flood := true, tsc := true, air := false }
     coolantJudge coolantP k { node with cl := { node.cl with tsc := .fault } } = .refuse .noCircuit ∧
       coolantJudge coolantP k node = .wait .spindleSpeed ∧
       coolantJudge coolantP { k with tsc := false } { node with cu := { node.cu with own := condBit .tankLow } } =
         .wait .tankLow ∧
       coolantJudge coolantP { k with tsc := false } node = .wait .coolantStart ∧
       coolantJudge coolantP k { node with cl := { node.cl with flood := .proven, tsc := .degraded } } =
         .ready none) ∧
    verdictFrom [.ready (some 80), .wait .driveOff, .wait .tankLow] = .wait .tankLow ∧
    verdictFrom [.ready none, .ready (some 80)] = .ready 80 := by decide +kernel

/-- A participant of the head whose verdict is unsent, one whose verdict stands, a GO candidate with and without
its GO waiting, and a node that is none. -/
theorem witness_HeadJudgementVerdictAndGo_requests :
    (evaluatedHead headNode = some (entryOf 31 .evaluated) ∧ participates (entryOf 31 .evaluated) headNode = true ∧
      recFor .ax0 (entryOf 31 .evaluated) = none ∧ axParams .ax0 headNode = some axisP ∧
      onLine headNode.lc.state = true ∧ headNode.lc.queue.length ≤ 6 ∧
      verdictFrom (unitVerdicts (entryOf 31 .evaluated) headNode) = .ready 150 ∧
      (entryOf 31 .evaluated).lastAsked = some (.ready 150) ∧
      ({ entryOf 31 .evaluated with lastAsked := none } : Entry).lastAsked = none) ∧
    (let n := { headNode with nt := { node.nt with mode := .auto } }
     isCandidate (entryOf 31 .evaluated) n = true ∧ isCandidate (entryOf 31 .evaluated) headNode = false ∧
       waiting (.go 31) (goTest n) ∧ goTest (goTest n) = goTest n) := by
  refine ⟨by decide +kernel, by decide +kernel, by decide +kernel, ?_, by decide +kernel⟩
  unfold waiting
  decide +kernel

theorem witness_TimersThatReport :
    (let n := { headNode with nt := { node.nt with mode := .auto } }
     loaded n = true ∧ headTimerRuns n = true) ∧ headTimerRuns node = false ∧
      (let n := { node with nt := { node.nt with stateRunning := true } }
       loaded n = true ∧ n.nt.stateRunning = true ∧ onLine n.lc.state = true ∧ n.lc.queue = []) := by
  decide +kernel

/-- A queue with nothing of the chain; and a block that runs with one behind it, which stays, or goes where the
node is held at velocity 0. -/
theorem witness_FlushEmptiesTheQueue :
    (headNode.su.start = .configured ∧ loaded headNode = true ∧
      condIn .modeSwitch (accepted rx1 headNode).cu.own = false) ∧
    (let e := { entryOf 30 .running with rec0 := some (.resolved 0 1002 true) }
     let n := { runningNode with
       bq := { runningNode.bq with entries := [e, entryOf 31 .evaluated] }
       lc := { node.lc with queue := [newTx (.go 31) false 0, holdTx false] }
       kept := [{ apply := 102, stamp := 100, sender := 1, own := false, payload := .go 31 }] }
     let t := after (.flush rx1 0 40) n
     n.su.start = .configured ∧ t.bq.entries = [] ++ e :: [] ∧ e.rec0 = some (.resolved 0 1002 true) ∧
       t.kept = [] ∧ t.lc.queue.map TxEntry.payload = [.hold] ∧
       (let h := { n with cu := { n.cu with held := true }
                          pg := { n.pg with run := some { run612 with v := 0 } } }
        (after (.flush rx1 0 40) h).bq.entries = [] ∧ (after (.flush rx1 0 40) h).pg.run = none ∧
          inChain e = true)) := by decide +kernel

theorem witness_ModeAdoptionEmptiesTheQueue :
    let n := { node with cu := { node.cu with held := true, own := condBit .modeSwitch } }
    loaded n = true ∧ adoptionDue n = true ∧ adoptionDue node = false := by decide +kernel

/-- A count below 255 and at 255, a record empty and one of a lesser class, and a machine that runs. -/
theorem witness_RaisingAConditionAndTheLatch :
    CU.reset.counts.length = 30 ∧ CU.reset.counts.getD (condNumber .hardLimit) 0 < 255 ∧
      CU.reset.record = none ∧ (List.replicate 30 255).length = 30 ∧
      (List.replicate 30 255).getD (condNumber .hardLimit) 0 = 255 ∧ condClass .hardLimit = .stop ∧
      classRank .hardLimit < classRank .lineWarn ∧ node.cu.stopped = false ∧
      node.par.spindle.isSome = true ∧ node.par.coolant.isSome = true ∧
      ({ node with ax0 := { axis0 with drive := .enabling }, ax1 := { axis0 with drive := .enabling } } :
        Node).ax0.drive = .enabling := by decide +kernel

theorem witness_StopChainOpenAndClosed :
    loaded node = true ∧ node.cu.chainOpen = false ∧
      (let n := { node with cu := { node.cu with chainOpen := true } }
       loaded n = true ∧ n.cu.chainOpen = true) := by decide +kernel

/-- With the path moving and with it at rest; a class-1 frame that waits and one in transmission; a TSC
that is DEGRADED as the latch sets; and the end of a stop deceleration of a running block. -/
theorem witness_StopallStopsTheMachine :
    loaded runningNode = true ∧ 0 < pathVelocity (accepted rx1 runningNode) ∧
      loaded node = true ∧ joins rx1.lead.val node = true ∧ slotClear rx1 node = true ∧ pathVelocity (accepted rx1 node) = 0 ∧
      axParams .ax0 (accepted rx1 node) = some axisP ∧ (getAx .ax0 (accepted rx1 node)).drive = .enabled ∧
      (after (.stopall rx1) node).ax0.drive = .enabled ∧
      (after (.stopall rx1) node).ax0.stopTimer = some 500 ∧
      (let q := [{ newTx (.go 31) false 0 with inTx := true }, newTx (.go 32) false 0]
       (after (.stopall rx1) { node with lc := { node.lc with queue := q } }).lc.queue.map
         (fun e => (e.payload, e.inTx, e.doomed)) = [(.go 31, true, true)]) ∧
      ((after (.stopall rx1) { node with cl := { node.cl with tsc := .degraded } }).lc.queue.any
        fun e => e.payload == .override 1 150) = true ∧
      (let n := { runningNode with pg := { runningNode.pg with stopMark := true } }
       loaded n = true ∧ n.pg.stopMark = true ∧ (∃ e ∈ n.bq.entries, inChain e = true)) ∧
      node.pg.stopMark = false := by decide +kernel

theorem witness_StopallStopsTheMachine_disable_point :
    let n := { node with ax0 := { axis0 with stopTimer := some 500 } }
    loaded n = true ∧ (axParams .ax0 n).isSome = true ∧ (getAx .ax0 n).drive = .enabled ∧
      (getAx .ax0 n).stopTimer.isSome = true ∧ (getAx .ax0 node).stopTimer = none := by decide +kernel

/-- A FAULTCLR that clears the latch, one that a peer not LIVE keeps it set under, and a FAULTED drive. -/
theorem witness_FaultclrClearsLatchedConditions :
    loaded stoppedNode = true ∧ (accepted rx1 stoppedNode).ax0.drive ≠ .faulted ∧
      (accepted rx1 stoppedNode).ax1.drive ≠ .faulted ∧ (accepted rx1 stoppedNode).sg.gear ≠ .gearFault ∧
      (let t := after (.faultclr rx1) stoppedNode
       hasStop (machineConds t) = false ∧ expectedLive t = true ∧ t.cu.stopped = false) ∧
      (let n := { stoppedNode with nt := { node.nt with
         entries := node.nt.entries.set 1 { liveEntry peerF with state := .lost } } }
       expectedLive (after (.faultclr rxOwn) n) = false ∧ (after (.faultclr rxOwn) n).cu.stopped = true) := by
  decide +kernel

theorem witness_OnlyFaultclrClearsTheStoppedLatch :
    (∀ rx, Instr.atSpeed ≠ .faultclr rx) ∧
      (∃ t, exec .atSpeed (at' stoppedNode) = .next t ∧ t.node.cu.stopped = true) ∧
      (at' stoppedNode).pending = [] ∧ stoppedNode.cu.stopped = true :=
  ⟨nofun, ⟨_, rfl, by decide +kernel⟩, rfl, rfl⟩

/-- A HOLD ready to send behind one that is not eligible, and an empty queue; a PACE; and a class-0 frame of
node 15 against a class-2 one of node 0. -/
theorem witness_AttemptStartSendsTheHead :
    let wait := { holdTx false with eligible := false }
    let n := { node with lc := { node.lc with queue := [wait, holdTx false] } }
    loaded n = true ∧ readyToSend n.lc = true ∧ readyToSend node.lc = false ∧
      n.lc.queue = [wait] ++ holdTx false :: [] ∧ (∀ x ∈ [wait], x.eligible = false ∨ x.inTx = true) ∧
      (holdTx false).eligible = true ∧ (holdTx false).inTx = false ∧ n.nt.stateRunning = false ∧
      txClass (holdTx false) < 2 ∧
      txClass (holdTx false) < txClass (newTx (.coolant 0 0 0) false 0) ∧
      kindStamped (payloadKind .hold) = true ∧ kindStamped (payloadKind .faultclr) = false := by decide +kernel

theorem witness_ContentionLossAndBusyReturnTheEntry :
    loaded (sendingNode 0) = true ∧ sending (sendingNode 0).lc = true ∧
      (sendingNode 0).nt.stateRunning = false ∧
      holdTx true ∈ (sendingNode 0).lc.queue ∧ (holdTx true).inTx = true ∧ (holdTx true).doomed = false ∧
      superseded (holdTx true) (sendingNode 0).lc.queue = false ∧
      (sendingNode 0).lc.queue.filter TxEntry.inTx = [holdTx true] ∧
      (let e := { newTx (.ready 31 0 150) false 0 with inTx := true }
       let x := newTx (.ready 31 1 0) false 0
       [e, x].filter TxEntry.inTx = [e] ∧ x ∈ [e, x] ∧ x.inTx = false ∧ replaces x.payload e.payload = true ∧
         endSending id [e, x] = [x]) := by decide +kernel

/-- The last failure before OFF and one far from it; a first and a second bit error; an attempt below the
limit of class 1 and one at it, with LINE_WARN out of reach. -/
theorem witness_BitErrorsAndFailedAttempts :
    loaded (sendingNode 252) = true ∧ sending (sendingNode 252).lc = true ∧
      255 < (sendingNode 252).lc.send + 4 ∧ (sendingNode 100).lc.send + 4 ≤ 255 ∧
      loaded (sendingNode 100) = true ∧ sending (sendingNode 100).lc = true ∧
      (sendingNode 100).lc.bitError = false ∧
      (let n := { sendingNode 100 with lc := { (sendingNode 100).lc with bitError := true } }
       sending n.lc = true ∧ n.lc.bitError = true) ∧
      (∀ k ∈ [0, 15],
        let e := { newTx (.go 31) false 0 with inTx := true, failed := k }
        let n := { node with lc := { node.lc with queue := [e] } }
        loaded n = true ∧ sending n.lc = true ∧ n.lc.queue.filter TxEntry.inTx = [e] ∧
          n.nt.stateRunning = false ∧ (n.lc.send + 4 < 96 ∧ n.lc.recv < 96) ∧ retryLimit (txClass e) = some 16 ∧
          e.doomed = false ∧ superseded e n.lc.queue = false) ∧
      (lineNode .quiet).lc.state = .quiet := by decide +kernel

/-- R9, R11: a HOLD with its busy bit driven is not accepted, and the node's own one with its error bit driven is a
failure. -/
theorem test_frame_with_a_slot_bit_driven :
    (after (.hold { rx1 with busyBit := true } stampNow) node).kept = [] ∧
      (after (.hold { rxOwn with errorBit := true } stampNow) (sendingNode 0)).lc.send = 4 ∧
      (after (.hold { rxOwn with errorBit := true } stampNow) (sendingNode 0)).kept = [] := by decide +kernel

theorem witness_ReceiveErrorsAndFramesNotAccepted :
    loaded node = true ∧ sending node.lc = false ∧ node.lc.state = .active ∧ joins 40 node = true ∧
      loaded (lineNode .off) = true ∧ sending (lineNode .off).lc = false ∧ (lineNode .off).lc.state = .off ∧
      (node.lc.send < 96 ∧ node.lc.recv + 2 < 96) ∧ node.nt.stateRunning = false ∧
      loaded unjoinedNode = true ∧ sending unjoinedNode.lc = false ∧ joins 11 unjoinedNode = false ∧
      frameRx (.hold { rx1 with busyBit := true } stampNow) = some { rx1 with busyBit := true } ∧
      loaded (sendingNode 252) = true ∧ joins rxOwn.lead.val (sendingNode 252) = true ∧
      sending (sendingNode 252).lc = true ∧ 255 < (sendingNode 252).lc.send + 4 := by
  decide +kernel

theorem witness_QuietCountLeavesJoining :
    let n := { lineNode .joining with su := { node.su with firstActive := true }
                                      cu := { node.cu with own := condBit .stopInput } }
    loaded n = true ∧ n.lc.state = .joining ∧ n.lc.send < 128 ∧ n.lc.recv < 128 ∧ n.su.firstActive = true ∧
      hasStop n.cu.own = true ∧ n.lc.queue = [] ∧
      (let m := { lineNode .joining with lc := { (lineNode .joining).lc with recoveryMark := true } }
       loaded m = true ∧ m.lc.recoveryMark = true ∧ m.su.firstActive = false) ∧
      node.lc.state ≠ .joining ∧
      frameRx (.stopall { rx1 with lead := 11 }) = some { rx1 with lead := 11 } ∧
      loaded unjoinedNode = true ∧ joins ({ rx1 with lead := 11 } : Rx).lead.val unjoinedNode = false := by
  decide +kernel

/-- A frame of the peer, LIVE or LOST, at a node that is in JOINING or not, one with the node's own number that
it did not send, the node's own frame, and its own STATE. -/
theorem witness_AcceptanceOfAFrame :
    rx1.own = false ∧ rx1.sender ≠ node.su.node ∧ node.nt.entries.length = 16 ∧
      (entryAt rx1.sender.val node).state = .live ∧ node.lc.state ≠ .joining ∧
      (let n := { node with nt := { node.nt with
         entries := node.nt.entries.set 1 { liveEntry peerF with state := .lost } } }
       (entryAt rx1.sender.val n).state = .lost ∧
         ∀ j : NodeNo, j ≠ rx1.sender → expects j.val n = true → (entryAt j.val n).state ≠ .lost) ∧
      (lineNode .joining).lc.state = .joining ∧
      ({ rx1 with sender := 3 } : Rx).own = false ∧ ({ rx1 with sender := 3 } : Rx).sender = node.su.node ∧
      rxOwn.own = true ∧ (sendingNode 10).lc.queue.filter TxEntry.inTx = [holdTx true] ∧
      ((accepted rxOwn (sendingNode 10)).lc.send < 96 ∧ (accepted rxOwn (sendingNode 10)).lc.recv < 96) ∧
      (let n := { node with lc := { node.lc with
         queue := [{ newTx (.state (stateBody node)) false 4 with inTx := true }] } }
       loaded n = true ∧ joins rxOwn.lead.val n = true ∧ slotClear rxOwn n = true ∧ sentStateAt n = some 4 ∧ n.cu.txqSeq ≤ 4 ∧
         n.lc.queue.length ≤ 4) := by
  decide +kernel

theorem witness_FramesAreReadAsSent :
    (Payload.hold).wf = true ∧ (some stampNow).isSome = kindStamped (payloadKind .hold) ∧
      (Payload.block (body612 9)).wf = true ∧
      (none : Option Stamp).isSome = kindStamped (payloadKind (.block (body612 9))) := by decide +kernel

/-- An ANNOUNCE of the peer, with and without the joining mark and with another tag; of a node that is
ABSENT; and the node's own. -/
theorem witness_AnnounceWritesTheEntry :
    let b (join : Byte) (tag : BitVec 16) : AnnounceBody :=
      { ax0 := 2, ax1 := 255, funcs := 0, tag := tag, cause := 0, join := join }
    loaded node = true ∧ joins rx1.lead.val node = true ∧ slotClear rx1 node = true ∧ node.nt.entries.length = 16 ∧ rx1.own = false ∧
      rx1.sender ≠ node.su.node ∧ announceJoining (b 1 7) = true ∧ announceJoining (b 0 7) = false ∧
      (b 0 8).tag.toNat ≠ node.par.ident.tag ∧ (entryAt 1 node).state ≠ .absent ∧
      (entryAt 2 node).state = .absent ∧ rxOwn.own = true := by decide +kernel

theorem witness_StatePanelAndFaultFrames :
    loaded node = true ∧ joins rx1.lead.val node = true ∧ slotClear rx1 node = true ∧ node.nt.entries.length = 16 ∧ rx1.own = false ∧
      rx1.sender ≠ node.su.node ∧ hasStop (stateReported { stateBody node with conds := 1 }).conds = true ∧
      panelFields { mode := 1, enable := 1, axis := 2 } =
        some { mode := some .auto, enable := some true, axis := some 2 } ∧
      clashing rx1 node = false ∧ panelFields { mode := 3, enable := 1, axis := 2 } = none ∧
      (let n := { node with lc := { node.lc with
         queue := [{ newTx (.state (stateBody node)) false 4 with inTx := true }] } }
       loaded n = true ∧ rxOwn.own = true ∧ sentStateAt n = some 4 ∧ n.cu.jogSeq ≤ 4) := by decide +kernel

theorem witness_SilenceTimeoutLosesTheEntry :
    loaded node = true ∧ node.nt.entries.length = 16 ∧ (1 : NodeNo) ≠ node.su.node ∧
      (entryAt (1 : NodeNo).val node).state = .live ∧ expects 1 node = true ∧
      (3 : NodeNo) = node.su.node ∧ (entryAt (2 : NodeNo).val node).state ≠ .live := by decide +kernel

/-- Frame numbers 1, 31, 0 and 32 at axis 0, and an axis with no channel here. -/
theorem witness_ComponentResolutionAndPathCommand_offset :
    loaded node = true ∧ chanOf 0 (accepted rx1 node) = some (.ax0, axisP) ∧
      (1 ≤ (1#8).toNat ∧ (1#8).toNat ≤ 31) ∧ (1 ≤ (31#8).toNat ∧ (31#8).toNat ≤ 31) ∧
      (0#8).toNat = 0 ∧ 31 < (32#8).toNat ∧ chanOf 9 (accepted rx1 node) = none := by decide +kernel

/-- A JOG that is taken, a duplicate, one that is not allowed, and codes outside their lists; an
unreferenced axis and a sum beyond 5,000. -/
theorem witness_JogAtItsChannel :
    let n := { node with nt := { node.nt with enabling := true } }
    let m := accepted rx1 n
    loaded n = true ∧ chanOf 0 m = some (.ax0, axisP) ∧ incrementOfCode 2 = some 100 ∧
      boolOfCode 1 = some true ∧ (12#8).toInt ≠ -128 ∧ (getAx .ax0 m).lastJog ≠ some (rx1.sender, true) ∧
      jogAllowed (12#8).toInt .ax0 m = true ∧ jogAllowed (12#8).toInt .ax0 (accepted rx1 node) = false ∧
      incrementOfCode 3 = none ∧ boolOfCode 2 = none ∧ (128#8).toInt = -128 ∧
      5000 < (m.ax0.jogAccum + (51#8).toInt * (100 : Nat)).natAbs ∧
      (let u := accepted rx1 { n with ax0 := { axis0 with referenced := false, lastJog := some (1, true) } }
       (getAx .ax0 u).referenced = false ∧ (getAx .ax0 u).lastJog = some (rx1.sender, true)) := by
  decide +kernel

/-- R121: a referenced axis jogs down to the edge of the map's gap of 7.16, whose lowest segment it then stands
beside, out of that gap, and up to the soft window. -/
theorem witness_JogAtItsChannel_referenced :
    let at' (c : Int) : Node :=
      { node with nt := { node.nt with enabling := true }, ax0 := { axis0 with commanded := c } }
    let jog (det : Byte) (c : Int) : Axis := (after (.jog rx1 0 2 det 1) (at' c)).ax0
    axis0.referenced = true ∧ axisP.winLow ≤ axisP.winHigh ∧ (∀ seg ∈ axisP.seg, 0 < seg) ∧
      jogAllowed (206#8).toInt .ax0 (accepted rx1 (at' 66000)) = true ∧
      (jog 206 66000).jogTarget = 64000 ∧ (jog 206 66000).jogAccum = -2000 ∧
      (jog 206 61000).jogTarget = 56000 ∧ (jog 50 31000).jogTarget = 31999 ∧
      (jog 50 198000).jogTarget = 200000 := by
  decide +kernel

/-- The node in SETUP with the enabling switch held; and channel 0 in a phase of the sequence. -/
def setupNode : Node := { node with nt := { node.nt with mode := .setup, enabling := true } }
def refNode (ph : RefState) (stop seen : Bool) : Node :=
  { setupNode with
    ax0 := { axis0 with motion := .reference, referenced := false, ref := ph, moverStop := stop,
                        switchSeen := seen, clamp := .unclamped } }

theorem witness_ReferenceSequence :
    (loaded setupNode = true ∧ chanOf 0 (accepted rx1 setupNode) = some (.ax0, axisP) ∧
      refAllowed .ax0 (accepted rx1 setupNode) = true ∧ refAllowed .ax0 (accepted rx1 node) = false) ∧
    (let n := refNode .seekMark false true
     loaded n = true ∧ axParams .ax0 n = some axisP ∧ (getAx .ax0 n).motion = .reference ∧
       (getAx .ax0 n).ref = .seekMark ∧ (getAx .ax0 n).switchSeen = true ∧
       (getAx .ax0 n).markLoaded = false ∧ (getAx .ax0 n).moverStop = false ∧
       moverFree axisP (getAx .ax0 n) = true) ∧
    (let n := refNode .seekSwitch true false
     loaded n = true ∧ (getAx .ax0 n).moverStop = true ∧ (getAx .ax0 n).ref = .seekSwitch) ∧
    (let n := refNode .seekMark true true
     loaded n = true ∧ (getAx .ax0 n).moverStop = true ∧ (getAx .ax0 n).ref = .seekMark ∧
       axisP.winLow ≤ (trackingRead axisP (getAx .ax0 n)).2.1 ∧
       (trackingRead axisP (getAx .ax0 n)).2.1 ≤ axisP.winHigh) ∧
    (let n := { refNode .seekMark true true with ax0 :=
       { (refNode .seekMark true true).ax0 with actual := 300000 } }
     axisP.winHigh < (trackingRead axisP (getAx .ax0 n)).2.1) ∧
    (let n := refNode .backOff false false
     loaded n = true ∧ (getAx .ax0 n).moverStop = false ∧ moverFree axisP (getAx .ax0 n) = true ∧
       (getAx .ax0 n).ref = .backOff ∧ (axPins .ax0 n.pins).refSwitch = false) ∧
    (refNode .seekSwitch false false).ax0.ref = .seekSwitch := by decide +kernel

theorem witness_MoverEndsAJog :
    (let n := { node with ax0 := { axis0 with
       motion := .jog, clamp := .unclamped, jogTarget := 5, moverTarget := 5 } }
     loaded n = true ∧ axParams .ax0 n = some axisP ∧ (getAx .ax0 n).motion = .jog ∧
       (getAx .ax0 n).moverStop = false ∧ moverFree axisP (getAx .ax0 n) = true ∧
       (getAx .ax0 n).jogEnding = false ∧ (getAx .ax0 n).moverTarget = (getAx .ax0 n).jogTarget ∧
       clampWindow axisP (getAx .ax0 n) 5 = (getAx .ax0 n).jogTarget ∧ posMin ≤ 5 ∧ (5 : Int) ≤ posMax) ∧
    (let n := { node with ax0 := { axis0 with motion := .jog, moverStop := true, jogEnding := true } }
     loaded n = true ∧ axParams .ax0 n = some axisP ∧ (getAx .ax0 n).motion = .jog ∧
       (getAx .ax0 n).moverStop = true ∧ (getAx .ax0 n).jogEnding = true) := by decide +kernel

/-- A mover under its stop mark, one on its way, one that has reversed and still moves away; and a jog and a
reference phase with the clamp open and shut. -/
theorem witness_LocalMover :
    (let a := { axis0 with moverVel := -100000, moverTarget := 5 }
     (0 : Int) < 5000 ∧ a.moverStop = false ∧ a.moverTarget * 65536 - a.moverPos > 0 ∧
       (a.moverTarget * 65536 - a.moverPos) * a.moverVel < 0 ∧
       (moverStep 500000 5000 a).moverVel = -95000) ∧
    ({ axis0 with moverStop := true } : Axis).moverStop = true ∧
    (∀ k ∈ [Motion.jog, .reference],
      let a := { axis0 with motion := k, moverTarget := 5, clamp := .unclamped, ref := .seekSwitch }
      a.drive = .enabled ∧ ¬(axisP.clampFitted = true ∧ a.clamp ≠ .unclamped) ∧
        moverAtRest (moverStep 100000 axisP.jogAcc a) = false ∧
        (let b := { a with clamp := .unclamping }
         axisP.clampFitted = true ∧ b.clamp ≠ .unclamped ∧ moverAtRest b = false)) ∧
    axis0.referenced = true ∧ axisP.winLow ≤ axisP.winHigh := by decide +kernel

/-- A drive in each state, and a FAULTCLR at a FAULTED drive with its input inactive and active, at a
gearbox in GEAR_FAULT with a valid pattern, and with nothing to raise again. -/
theorem witness_DriveEvents :
    loaded node = true ∧ (axParams .ax0 node).isSome = true ∧ (getAx .ax0 node).drive = .enabled ∧
      (getAx .ax0 node).followRun < 4 ∧ (getAx .ax0 node).satRun < 50 ∧
      (node.cu.held = false ∧ txHas isHold node = false ∧ keptHold node = false) ∧
      (let n := { node with ax0 := { axis0 with drive := .enabling } }
       loaded n = true ∧ (getAx .ax0 n).drive = .enabling) ∧
      joins rx1.lead.val stoppedNode = true ∧ slotClear rx1 stoppedNode = true ∧
      (let n := { stoppedNode with ax0 := { axis0 with drive := .faulted } }
       (getAx .ax0 (accepted rx1 n)).drive = .faulted ∧
         (axPins .ax0 (accepted rx1 n).pins).fault = false ∧
         (after (.faultclr rx1) n).ax0.drive = .enabling) ∧
      (let n := { stoppedNode with
         ax0 := { axis0 with drive := .faulted }
         pins := { node.pins with ax0 := { node.pins.ax0 with fault := true } } }
       (getAx .ax0 (accepted rx1 n)).drive = .faulted ∧ (axPins .ax0 (accepted rx1 n).pins).fault = true) ∧
      (let n := { stoppedNode with sg := { node.sg with gear := .gearFault } }
       (accepted rx1 n).par.spindle = some spindleP ∧ (accepted rx1 n).sg.gear = .gearFault ∧
         patternOf spindleP (accepted rx1 n).sg = .valid .g2) ∧
      (let m := accepted rx1 stoppedNode
       m.ax0.drive ≠ .faulted ∧ m.ax1.drive ≠ .faulted ∧ m.sg.gear ≠ .gearFault ∧ m.pg.run = none ∧
         onLine m.lc.state = true ∧ m.lc.queue.length ≤ 6) := by decide +kernel

theorem witness_LimitAndClampEvents :
    loaded node = true ∧ axParams .ax0 node = some axisP ∧ Side.plus ≠ .minus ∧
      limitMark .plus (getAx .ax0 node) = false ∧ axisP.clampFitted = true ∧
      (let n := { node with ax0 := { axis0 with clamp := .unclamping, markPlus := true, motion := .jog } }
       loaded n = true ∧ (getAx .ax0 n).clamp = .unclamping ∧ limitMark .plus (getAx .ax0 n) = true) ∧
      (let n := { node with ax0 := { axis0 with clamp := .clamping } }
       loaded n = true ∧ (getAx .ax0 n).clamp = .clamping) ∧
      (getAx .ax0 node).clamp ≠ .unclamping ∧ (getAx .ax0 node).clamp ≠ .clamping := by decide +kernel

/-- A clamp in each of its states, neither confirmed nor at its timer's end, with the axis needed free by a jog
and not needed. -/
theorem witness_LimitAndClampEvents_requests :
    (∀ k ∈ [ClampState.clamped, .unclamping, .unclamped, .clamping],
      let n := { node with ax0 := { axis0 with clamp := k, clampTimer := 7 } }
      n.ax0.clamp = k ∧ 1 < n.ax0.clampTimer ∧ needsFree .ax0 n = false ∧
        needsFree .ax0 { n with ax0 := { n.ax0 with motion := .jog } } = true) ∧
      (axPins .ax0 node.pins).unclamped = false ∧ (axPins .ax0 node.pins).clamped = false ∧
      axisP.clampFitted = true ∧ ({ axisP with clampFitted := false } : AxisParams).clampFitted = false := by
  decide +kernel

theorem witness_SpindleFrames :
    loaded node = true ∧ node.par.spindle = some spindleP ∧ boolOfCode 1 = some true ∧
      (accepted rx1 node).nt.mode ≠ .auto ∧ (accepted rx1 node).cu.stopped = false ∧
      takesRequest (accepted rx1 node).sg = true ∧ 0 < (800#16).toNat ∧
      (0#16).toNat = 0 ∧ (accepted rx1 stoppedNode).cu.stopped = true ∧ joins rx1.lead.val node = true ∧
      (let n := { runningNode with nt := { node.nt with mode := .auto }, sg := { node.sg with command := 400 } }
       loaded n = true ∧ (accepted rx1 n).nt.mode = .auto ∧ (accepted rx1 n).pg.run.isSome = true ∧
         0 < (accepted rx1 n).sg.command) ∧ boolOfCode 2 = none := by decide +kernel

theorem witness_CoolantFrames :
    loaded node = true ∧ node.par.coolant.isSome = true ∧ partOfCode 0 = some none ∧
      partOfCode 1 = some (some true) ∧ partOfCode 2 = some (some false) ∧ partOfCode 3 = none := by
  decide +kernel

/-- Spindle at rest while STOPPING and while a shift waits; a command that stands; a fault run on a running
block; a head the unit may act on. -/
theorem witness_SpindleEvents :
    (let n := { node with sg := { node.sg with spindle := .stopping, stopTimer := some 5 } }
     loaded n = true ∧ n.par.spindle = some spindleP ∧ n.sg.ramped = 0 ∧ n.sg.restRun < 100 ∧
       n.sg.gear ≠ .stoppingForShift ∧ n.sg.spindle = .stopping ∧ n.sg.stopTimer.isSome = true) ∧
    (let n := { node with sg := { node.sg with gear := .stoppingForShift, target := some .g3 } }
     n.sg.gear = .stoppingForShift ∧ readsTarget spindleP .a n.sg = false) ∧
    (let n := { runningNode with sg := { node.sg with
       request := some { rpm := 400, ccw := false }, command := 400, ramped := 102400, spindle := .running } }
     loaded n = true ∧ n.pg.run.isSome = true ∧ commandStands n.sg = true ∧ n.sg.ramped = aimOf n.sg ∧
       n.sg.faultRun < 100) ∧
    (let f := { fields612 with spindle := some { rpm := 800, ccw := false } }
     let e := { entryOf 31 .evaluated with fields := some f, roles := [{ role := .spindle, node := some 3 }] }
     let n := { withBlocks [e] node with nt := { node.nt with mode := .auto } }
     loaded n = true ∧ evaluatedHead n = some e ∧ e.fields = some f ∧
       sgMayAct e (spindleTarget spindleP f n.sg) n = true ∧
       (spindleTarget spindleP f n.sg).range = some .g3 ∧ n.sg.gear ≠ .engaged .g3) := by decide +kernel

/-- R130, R131: a motion tick at 400 rpm asked for from rest in range 2, at 100 rpm with the latch set, and at rest. -/
theorem witness_SpindleEvents_tick :
    let ask : SG := { node.sg with request := some { rpm := 400, ccw := false } }
    let t := after (.motionTick { inactivePins with
      shifter := { inactivePins.shifter with a2 := true, b1 := true },
      ax0 := { inactivePins.ax0 with ready := true }, ax1 := { inactivePins.ax1 with ready := true } })
    let going := t { node with sg := ask }
    let stopping := t { stoppedNode with sg := { node.sg with spindle := .running, ramped := 25600 } }
    going.cu.stopped = false ∧ going.sg.gear = .engaged .g2 ∧ going.sg.spindle = .running ∧ going.sg.command = 400 ∧
      going.sg.ramped = 1024 ∧ going.sg.driveCmd = 209 ∧
      stopping.sg.command = 0 ∧ stopping.sg.spindle = .stopping ∧ stopping.sg.ramped = 24576 ∧
      (t node).sg.driveCmd = 0 := by decide +kernel

theorem witness_GearboxEvents :
    (let g := setSensor .a .p2 { level := false, run := 0 } node.sg
     loaded node = true ∧ node.par.spindle = some spindleP ∧ (sensorLevel .a .p2 node.sg).level ≠ false ∧
       readingOf .a g ≠ .conflict ∧ node.sg.gear = .engaged .g2 ∧ patternOf spindleP g = .opened ∧
       turning { node.sg with spindle := .running } = true) ∧
    (let g := setSensor .a .p1 { level := true, run := 0 } node.sg
     readingOf .a g = .conflict ∧ readingOf .a node.sg ≠ .conflict) ∧
    (let n := { node.sg with gear := .unknown, b1 := ⟨false, 0⟩ }
     patternOf spindleP (setSensor .b .p1 { level := true, run := 0 } n) = .valid .g2) ∧
    (let n := { node.sg with gear := .shiftingA, step := .a, target := some .g3, a2 := ⟨false, 0⟩ }
     let g := setSensor .a .p1 { level := true, run := 0 } n
     readsTarget spindleP .a g = true ∧ readsTarget spindleP .b g = false) ∧
    (let n := { node.sg with
       gear := .shiftingB, step := .b, target := some .g3, a1 := ⟨true, 0⟩, a2 := ⟨false, 0⟩, b1 := ⟨false, 0⟩ }
     let g := setSensor .b .p2 { level := true, run := 0 } n
     readsTarget spindleP .b g = true ∧ readsTarget spindleP .a g = true) ∧
    (let n := { node.sg with gear := .toNeutral, step := .b, target := some .g3, retries := 2 }
     readingOf n.step (setSensor .b .p1 { level := false, run := 0 } n) = .neutral ∧ 2 ≤ n.retries) ∧
    ({ node.sg with gear := .toNeutral, nudging := true } : SG).nudging = true ∧ node.sg.nudging = false := by
  decide +kernel

theorem witness_CoolantEvents :
    loaded node = true ∧ node.par.coolant = some coolantP ∧
      ({ CL.reset with flood := .proven, tsc := .proven } : CL).tank.level = false ∧
      circOn .proven = true ∧
      (let n := { runningNode with cl := { CL.reset with
         tsc := .proven, blockSet := { flood := false, tsc := true, air := false } } }
       loaded n = true ∧ required .tsc n = true ∧ circProven .tsc n.cl = true ∧ n.cl.lossRun < 500 ∧
         n.cl.loss.tsc = false ∧ required .tsc node = false) ∧
      evaluatedHead headNode = some (entryOf 31 .evaluated) := by decide +kernel

theorem witness_HandwheelAndControls :
    loaded node = true ∧ node.par.pendant.isSome = true ∧ wheelIdle node = true ∧
      (let n := { node with pd := { node.pd with
         enable := ⟨.middle, .middle, 0⟩, axisSel := ⟨some 0, some 0, 0⟩ } }
       wheelIdle n = false ∧ n.pd.enable.val = .middle ∧ node.pd.enable.val ≠ .middle) ∧
      node.pd.axisSel.val ≠ some 0 ∧ node.pd.increment.val ≠ .x10 := by decide +kernel

/-- A peer that owns the coolant and reports a state of its FLOOD circuit, and the node with it. -/
def floodEntry (c : CircuitState) : NodeEntry :=
  { liveEntry { peerF with coolant := true } with
    report := some { stateReported (stateBody node) with flood := some c } }

def floodNode (c : CircuitState) : Node :=
  { node with nt := { node.nt with entries := node.nt.entries.set 1 (floodEntry c) } }

/-- Buttons that are up: a held machine in AUTO for CYCLE START, one in SETUP for REF, one in MANUAL for the
rest; and the cases in which a press asks for nothing. -/
theorem witness_ButtonPresses :
    loaded node = true ∧ node.par.pendant.isSome = true ∧ buttonReading .reset node.pd = false ∧
      onLine node.lc.state = true ∧ node.lc.queue.length ≤ 6 ∧ node.nt.stateRunning = false ∧
      (!txHas isFaultclr node) = true ∧ node.cu.held = false ∧ txHas isHold node = false ∧
      keptHold node = false ∧ node.pd.btnHold.val = false ∧ (node.nt.mode != .auto) = true ∧
      (let n := { node with cu := { node.cu with held := true }, nt := { node.nt with mode := .auto } }
       loaded n = true ∧ cycleAllowed n = true ∧ n.cu.held = true) ∧
      (let n := { node with nt := { node.nt with mode := .setup }, pd := { node.pd with
         axisSel := ⟨some 0, some 0, 0⟩, manual := some { rpm := 400, ccw := false } } }
       (n.nt.mode == .setup && (selectedAxis n).isSome) = true ∧
         n.pd.manual = some { rpm := 400, ccw := false }) ∧
      node.pd.manual = none ∧ reportedFlood node = none ∧
      reportedFlood (floodNode .proven) = some .proven ∧ reportedFlood (floodNode .off) = some .off := by
  decide +kernel

/-- A lost JOG; detents to send; the node's own JOG accepted with its toggle; and each knob and the panel with
something to ask for, and with nothing. -/
theorem witness_PendantRequestsAtTheTick :
    (node.par.pendant.isSome = true ∧ ({ node with par := .limited } : Node).par.pendant = none) ∧
    (let n := { node with pd := { node.pd with outstanding := some (4, false) } }
     n.pd.outstanding.isSome = true ∧ (∀ x ∈ n.lc.queue, isJog x.payload = false) ∧
       loaded n = true ∧ joins rxOwn.lead.val n = true ∧ slotClear rxOwn n = true ∧ (accepted rxOwn n).pd.outstanding = some (4, false) ∧
       boolOfCode 0 = some false ∧ (5#8).toInt ≠ -128) ∧
    (let n := { node with pd := { node.pd with detents := 200, jogTimer := 10, axisSel := readNow (some 0) } }
     n.pd.outstanding = none ∧ (jogRequest n).pd.detents = 73 ∧ onLine n.lc.state = true ∧
       n.lc.queue.length ≤ 6 ∧ (jogRequest n).lc.queue.map TxEntry.payload = [.jog 0 0 127 0]) ∧
    (let n := { node with pd := { node.pd with ovrTimer := 20, spTimer := 20 } }
     (knobRequest n).lc.queue.map TxEntry.payload = [.override 0 (BitVec.ofNat 8 (10 * n.pd.feedIdx))] ∧
       (spindleKnobRequest n).lc.queue.length = 1 ∧
       (let q := { n with pd := { n.pd with feedIdx := 10, resend := false, lastSp := some (50 + 10 * n.pd.spindleIdx) } }
        knobRequest q = q ∧ spindleKnobRequest q = q)) ∧
    (∃ r, panelReadings node = some r ∧ (entryAt 3 node).panel ≠ some r ∧
      (panelRequest node).lc.queue.map TxEntry.payload = [.panel (panelBody r)]) := by
  refine ⟨by decide +kernel, by decide +kernel, by decide +kernel, by decide +kernel, ⟨_, rfl, ?_⟩⟩
  decide +kernel

/-- R175: a FEED HOLD held down through the reset asks for nothing, and one pressed since asks for a HOLD at
every tick until a HOLD is on its way. -/
theorem test_feed_hold_held_through_the_reset :
    let down := { node with pd := { node.pd with btnHold := ⟨true, true, 0⟩ } }
    feedHoldTick down = down ∧ txHas isHold (after .feedHold node) = true ∧
      (after .feedHold node).pd.holdPressed = true := by decide +kernel

/-- The bounds hold of a node that runs, and its step answers a next state. -/
theorem witness_EveryStepKeeps :
    (∃ t, step { here with pending := [.atSpeed] } = .next t) ∧ commandAllowed node ∧ lineBounded node ∧
      countsBounded node ∧ blocksBounded node ∧ overridesBounded node ∧ slewBounded node ∧
      frameZeroFixed node ∧ loadingWaits (loadingNode 1) := by
  refine ⟨⟨_, rfl⟩, Or.inl rfl, ?_⟩
  unfold lineBounded countsBounded blocksBounded overridesBounded slewBounded frameZeroFixed loadingWaits
  decide +kernel

end Sys2Proof.Tests
end

section
/-! PROOF. The reset state. -/

namespace Sys2Proof.Machine

-- The text is checked as one file under a data limit that many waiting threads would exceed.
set_option Elab.async false

/-- Settles O60: each bound is a closed fact of the reset node, and its speed command is 0. -/
theorem theInvariantsHoldAtReset : Obligations.TheInvariantsHoldAtReset := by
  unfold Obligations.TheInvariantsHoldAtReset
  refine ⟨?_, ?_, ?_, ?_, ?_, ?_, ?_, Or.inl rfl⟩
  · unfold lineBounded; decide
  · unfold countsBounded; decide
  · unfold blocksBounded; decide
  · unfold overridesBounded; decide
  · unfold slewBounded; decide
  · unfold frameZeroFixed; decide
  · unfold loadingWaits; decide

end Sys2Proof.Machine
end

section
/-! PROOF. What every step keeps (R12, R17, R21, R56, R88, R96, R105, R182), as one relation between the node before
and the node after an operation, and what the line controller's queue operations do to it. -/

namespace Sys2Proof.Machine

-- The text is checked as one file under a data limit that many waiting threads would exceed.
set_option Elab.async false

/-! ### The bounds as a relation -/

/-- `m` has every bound that `n` has, in the same start state. -/
structure Steady (n m : Node) : Prop where
  start : m.su.start = n.su.start := by rfl
  line : lineBounded n → lineBounded m := by exact id
  counts : countsBounded n → countsBounded m := by exact id
  blocks : blocksBounded n → blocksBounded m := by exact id
  overrides : overridesBounded n → overridesBounded m := by exact id
  slew : slewBounded n → slewBounded m := by exact id
  frames : frameZeroFixed n → frameZeroFixed m := by exact id

theorem Steady.refl (n : Node) : Steady n n := {}

theorem Steady.trans {n m k : Node} (h : Steady n m) (g : Steady m k) : Steady n k where
  start := g.start.trans h.start
  line := g.line ∘ h.line
  counts := g.counts ∘ h.counts
  blocks := g.blocks ∘ h.blocks
  overrides := g.overrides ∘ h.overrides
  slew := g.slew ∘ h.slew
  frames := g.frames ∘ h.frames

theorem Steady.ite {c : Prop} [Decidable c] {n a b : Node} (h : Steady n a) (g : Steady n b) :
    Steady n (if c then a else b) := by
  split
  · exact h
  · exact g

/-! ### Sums that stop at a limit -/

theorem satAdd_eq_min (limit a b : Nat) : satAdd limit a b = min limit (a + b) := by
  unfold satAdd; split <;> omega

theorem clampNat_bounds {lo hi : Nat} (h : lo ≤ hi) (x : Nat) : lo ≤ clampNat lo hi x ∧ clampNat lo hi x ≤ hi := by
  unfold clampNat; split_ifs <;> omega

theorem clampInt_bounds {lo hi : Int} (h : lo ≤ hi) (x : Int) : lo ≤ clampInt lo hi x ∧ clampInt lo hi x ≤ hi := by
  unfold clampInt; split_ifs <;> omega

/-! ### Lengths of the transmit queue (R12 to R15) -/

@[simp] theorem length_insertTx (e : TxEntry) (q : List TxEntry) : (insertTx e q).length = q.length + 1 := by
  have h := congrArg List.length
    (List.takeWhile_append_dropWhile (p := fun x => decide (txClass x ≤ txClass e)) (l := q))
  simp only [List.length_append] at h
  simp only [insertTx, List.length_append, List.length_cons]
  omega

@[simp] theorem length_replaceTx (p : Payload) (k : Nat) (q : List TxEntry) : (replaceTx p k q).length = q.length := by
  simp [replaceTx]

/-- Where an entry is pending, the drop of the last pending one makes room for one (R15). -/
theorem length_dropLastPending {q : List TxEntry} {c : Nat} (h : lastPendingClass q = some c) :
    (dropLastPending q).length + 1 = q.length := by
  obtain ⟨e, he, -⟩ := Option.map_eq_some_iff.1 h
  have hm := List.mem_of_find?_eq_some he
  have hp := List.find?_some he
  have hl := List.length_eraseP_of_mem (p := fun e : TxEntry => !e.inTx) hm hp
  have := List.length_pos_of_mem hm
  simp only [dropLastPending, List.length_reverse] at *
  omega

theorem length_overflowTx (e : TxEntry) (q : List TxEntry) : (overflowTx e q).length = q.length := by
  unfold overflowTx
  split
  · split_ifs
    · rw [length_insertTx, length_dropLastPending ‹_›]
    · rfl
  · rfl

/-- A request finds the queue within eight entries and leaves it so (R12, R15). -/
theorem enqueue_length (p : Payload) (b : Bool) (k : Nat) (lc : LC) (h : lc.queue.length ≤ 8) :
    (enqueue p b k lc).1.queue.length ≤ 8 := by
  unfold enqueue
  split_ifs <;> simp [noteLineError, length_overflowTx] <;> omega

theorem enqueue_tally (p : Payload) (b : Bool) (k : Nat) (lc : LC) (h : lc.tally ≤ 65535) :
    (enqueue p b k lc).1.tally ≤ 65535 := by
  unfold enqueue
  split_ifs <;> simp [noteLineError, satAdd_eq_min, h]

theorem enqueueAt_steady (p : Payload) (b : Bool) (n : Node) : Steady n (enqueueAt p b n).1 where
  line := by
    rintro ⟨hq, hs, hr, ht⟩
    obtain ⟨q, t, e, h⟩ := enqueue_line p b n.cu.reportSeq n.lc
    have hq' := enqueue_length p b n.cu.reportSeq n.lc hq
    have ht' := enqueue_tally p b n.cu.reportSeq n.lc ht
    rw [h] at hq' ht'
    simp only [lineBounded, enqueueAt, h]
    exact ⟨hq', hs, hr, ht'⟩

theorem withdrawPending_steady (test : TxEntry → Bool) (n : Node) : Steady n (withdrawPending test n) where
  line := fun ⟨hq, hs⟩ => ⟨(List.length_filter_le _ _).trans hq, hs⟩

theorem withdrawNamed_steady (test : Payload → Bool) (n : Node) : Steady n (withdrawNamed test n) where
  line := fun ⟨hq, hs⟩ => ⟨by simpa [withdrawNamed] using (List.length_filter_le _ _).trans hq, hs⟩

theorem purgeTx_steady (n : Node) : Steady n (purgeTx n) where
  line := fun ⟨hq, hs⟩ => ⟨by simpa [purgeTx] using (List.length_filter_le _ _).trans hq, hs⟩

/-! ### Raising, clearing and asking -/

/-- A fault count rises by 1 and stops at 255 (R182). -/
theorem noteRaise_steady (c : Cond) (d : Byte) (n : Node) : Steady n (noteRaise c d n) where
  counts := by
    rintro ⟨hl, hk⟩
    refine ⟨by simpa [noteRaise, raisedCU] using hl, fun k h => ?_⟩
    rcases List.mem_or_eq_of_mem_set h with h | rfl
    · exact hk k h
    · rw [satAdd_eq_min]; exact min_le_left _ _

theorem requestFault_steady (n : Node) : Steady n (requestFault n).1 :=
  (withdrawPending_steady _ n).trans (enqueueAt_steady _ _ _)

theorem raiseOverflow_steady (n : Node) : Steady n (raiseOverflow n) := by
  have h := noteRaise_steady .txqOverflow 0 n
  have g := h.trans (requestFault_steady _)
  exact .ite (.ite (g.trans (noteRaise_steady _ _ _)) g) h

theorem askWith_steady (p : Payload) (b : Bool) (n : Node) : Steady n (askWith p b n) :=
  .ite ((enqueueAt_steady p b n).trans (raiseOverflow_steady _)) (enqueueAt_steady p b n)

theorem ask_steady (p : Payload) (n : Node) : Steady n (ask p n) := askWith_steady p false n

theorem askFault_steady (n : Node) : Steady n (askFault n) :=
  .ite ((requestFault_steady n).trans (raiseOverflow_steady _)) (requestFault_steady n)

theorem raiseCommon_steady (c : Cond) (d : Byte) (n : Node) : Steady n (raiseCommon c d n) :=
  .ite ((noteRaise_steady c d n).trans (askFault_steady _)) (noteRaise_steady c d n)

theorem heldTest_steady (n : Node) : Steady n (heldTest n) := .ite (ask_steady _ n) (.refl n)

theorem clearCond_steady (c : Cond) (n : Node) : Steady n (clearCond c n) := .ite {} (.refl n)

theorem askStopall_steady (n : Node) : Steady n (askStopall n) := .ite (ask_steady _ n) (.refl n)

theorem askState_steady (n : Node) : Steady n (askState n) :=
  Steady.trans (m := { n with nt := _ }) {} (ask_steady _ _)

theorem askClamp_steady (n : Node) : Steady n (askClamp n) :=
  (withdrawPending_steady _ n).trans (ask_steady _ _)

end Sys2Proof.Machine
end

section
/-! PROOF. The reactions of the units, as chains of a few kinds of step: which conditions they raise and clear, what
they ask for, and that they touch nothing else of the line controller, the condition unit or the bounds. -/

namespace Sys2Proof.Machine

-- The text is checked as one file under a data limit that many waiting threads would exceed.
set_option Elab.async false

/-- A kind of step that a reaction is made of. -/
inductive Act where
  | raise (c : Cond)   -- a raising with its FAULT
  | clear (c : Cond)   -- a clearing
  | held               -- the held test
  | clampAsk           -- a clamp OVERRIDE asked for
  | verdicts           -- a READY or GO withdrawn
  | owe                -- the owed mark set and the STOPALL asked for
  | latch              -- the STOPPED latch set
  deriving DecidableEq

/-- A change of the units that the line controller, the condition unit and the bounds do not see. -/
structure UnitChange (n m : Node) : Prop where
  su : m.su = n.su := by rfl
  par : m.par = n.par := by rfl
  lc : m.lc = n.lc := by rfl
  cu : m.cu = n.cu := by rfl
  entries : m.bq.entries.length ≤ n.bq.entries.length := by exact le_rfl
  tick : m.pg.tick = n.pg.tick := by rfl
  phase : m.pg.phase = n.pg.phase := by rfl
  tickLen : m.pg.tickLen = n.pg.tickLen := by rfl
  slew : m.pg.slew = n.pg.slew := by rfl
  knob : m.pg.knob = n.pg.knob := by rfl
  clamps : m.pg.clamps = n.pg.clamps := by rfl
  history : m.pg.history = n.pg.history := by rfl
  frames0 : m.ax0.frames = n.ax0.frames := by rfl
  frames1 : m.ax1.frames = n.ax1.frames := by rfl

/-- `m` comes of `n` by steps of the listed kinds and unit changes. -/
inductive Acts (as : List Act) (n : Node) : Node → Prop where
  | refl : Acts as n n
  | unit {m k : Node} : Acts as n m → UnitChange m k → Acts as n k
  | raise {m : Node} {c : Cond} (d : Byte) : Acts as n m → Act.raise c ∈ as → Acts as n (raiseCommon c d m)
  | clear {m : Node} {c : Cond} : Acts as n m → Act.clear c ∈ as → Acts as n (clearCond c m)
  | held {m : Node} : Acts as n m → Act.held ∈ as → Acts as n (heldTest m)
  | clampAsk {m : Node} : Acts as n m → Act.clampAsk ∈ as → Acts as n (askClamp m)
  | verdicts {m : Node} (num : BlockNo) : Acts as n m → Act.verdicts ∈ as → Acts as n (withdrawVerdict num m)
  | owe {m : Node} : Acts as n m → Act.owe ∈ as → Acts as n (askStopall { m with cu := { m.cu with owed := true } })
  | latch {m : Node} : Acts as n m → Act.latch ∈ as → Acts as n { m with cu := { m.cu with stopped := true } }

theorem UnitChange.steady {n m : Node} (h : UnitChange n m) : Steady n m where
  start := by rw [h.su]
  line := by simp [lineBounded, h.lc]
  counts := by simp [countsBounded, h.cu]
  blocks := h.entries.trans
  overrides := by simp [overridesBounded, h.knob, h.clamps]
  slew := by simp [slewBounded, h.slew, h.tickLen]
  frames := by simp [frameZeroFixed, h.frames0, h.frames1]

theorem Acts.steady {as : List Act} {n m : Node} (h : Acts as n m) : Steady n m := by
  induction h with
  | refl => exact .refl n
  | unit _ u ih => exact ih.trans u.steady
  | raise d _ _ ih => exact ih.trans (raiseCommon_steady _ d _)
  | clear _ _ ih => exact ih.trans (clearCond_steady _ _)
  | held _ _ ih => exact ih.trans (heldTest_steady _)
  | clampAsk _ _ ih => exact ih.trans (askClamp_steady _)
  | verdicts num _ _ ih => exact ih.trans (withdrawNamed_steady _ _)
  | owe _ _ ih => exact (ih.trans {}).trans (askStopall_steady _)
  | latch _ _ ih => exact ih.trans {}

theorem Acts.trans {as : List Act} {n m k : Node} (h : Acts as n m) (g : Acts as m k) : Acts as n k := by
  induction g with
  | refl => exact h
  | unit _ u ih => exact ih.unit u
  | raise d _ hc ih => exact ih.raise d hc
  | clear _ hc ih => exact ih.clear hc
  | held _ ha ih => exact ih.held ha
  | clampAsk _ ha ih => exact ih.clampAsk ha
  | verdicts num _ ha ih => exact ih.verdicts num ha
  | owe _ ha ih => exact ih.owe ha
  | latch _ ha ih => exact ih.latch ha

theorem Acts.mono {as bs : List Act} {n m : Node} (hs : ∀ a ∈ as, a ∈ bs) (h : Acts as n m) : Acts bs n m := by
  induction h with
  | refl => exact .refl
  | unit _ u ih => exact ih.unit u
  | raise d _ hc ih => exact ih.raise d (hs _ hc)
  | clear _ hc ih => exact ih.clear (hs _ hc)
  | held _ ha ih => exact ih.held (hs _ ha)
  | clampAsk _ ha ih => exact ih.clampAsk (hs _ ha)
  | verdicts num _ ha ih => exact ih.verdicts num (hs _ ha)
  | owe _ ha ih => exact ih.owe (hs _ ha)
  | latch _ ha ih => exact ih.latch (hs _ ha)

/-- A reaction after another one, of fewer kinds. -/
theorem Acts.andThen {as bs : List Act} {n m k : Node} (h : Acts as n m) (g : Acts bs m k)
    (hs : ∀ a ∈ bs, a ∈ as := by simp) : Acts as n k := h.trans (g.mono hs)

theorem Acts.ite {as : List Act} {c : Prop} [Decidable c] {n a b : Node} (h : Acts as n a) (g : Acts as n b) :
    Acts as n (if c then a else b) := by
  split
  · exact h
  · exact g

/-- A change of the units alone. -/
theorem Acts.ofUnit {as : List Act} {n m : Node} (h : UnitChange n m) : Acts as n m := Acts.refl.unit h

end Sys2Proof.Machine
end

section
/-! PROOF. The reactions of the units one by one, each as such a chain. -/

namespace Sys2Proof.Machine

-- The text is checked as one file under a data limit that many waiting threads would exceed.
set_option Elab.async false

/-! ### Raisings -/

theorem raiseWarn_acts (c : Cond) (d : Byte) (n : Node) : Acts [.raise c] n (raiseWarn c d n) :=
  Acts.refl.raise d (by simp)

theorem raiseHold_acts (c : Cond) (d : Byte) (n : Node) : Acts [.raise c, .held] n (raiseHold c d n) :=
  (Acts.refl.raise d (by simp)).held (by simp)

/-! ### The coolant unit (R153 to R161) -/

/-- What the test for a lost circuit does (R159). -/
abbrev lossActs : List Act := [.raise .coolantLost, .clear .coolantLost, .held]

/-- What a change of a circuit's state does (R154, R155, R159). -/
abbrev circuitActs : List Act := .clear .coolantDegraded :: .clampAsk :: lossActs

theorem lossTest_acts (c : Circ) (n : Node) : Acts lossActs n (lossTest c n) :=
  .ite (.ofUnit {}) (.ite ((Acts.ofUnit {}).andThen (raiseHold_acts _ _ _)) .refl)

theorem clLoss_acts (n : Node) : Acts lossActs n (clLoss n) := by
  have h := (lossTest_acts .flood n).trans ((lossTest_acts .tsc _).trans (lossTest_acts .air _))
  exact .ite (.ite (h.clear (by simp)) h) .refl

/-- A change of the coolant unit followed by the test for a lost circuit. -/
theorem withCl_loss_acts (cl : CL) (n : Node) : Acts circuitActs n (clLoss { n with cl := cl }) :=
  (Acts.ofUnit {}).andThen (clLoss_acts _)

theorem leaveDegraded_acts (n : Node) : Acts circuitActs n (leaveDegraded n) := by
  have h : Acts circuitActs n (clearCond .coolantDegraded n) := .clear .refl (by simp)
  exact .clampAsk (h.unit {}) (by simp)

theorem setTsc_acts (s : CircuitState) (t b : Nat) (n : Node) : Acts circuitActs n (setTsc s t b n) := by
  have h (cl : CL) : Acts circuitActs n { n with cl := cl } := .ofUnit {}
  exact (Acts.ite ((h _).trans (leaveDegraded_acts _)) (h _)).andThen (clLoss_acts _)

theorem tscStop_acts (n : Node) : Acts circuitActs n (tscStop n) := .ite (setTsc_acts _ _ _ n) .refl

theorem floodStop_acts (n : Node) : Acts circuitActs n (floodStop n) := .ite (withCl_loss_acts _ n) .refl

theorem airOff_acts (n : Node) : Acts circuitActs n (airOff n) := .ite (withCl_loss_acts _ n) .refl

theorem clStopReaction_acts (n : Node) : Acts circuitActs n (clStopReaction n) :=
  .ite ((((Acts.ofUnit {}).trans (floodStop_acts _)).trans (tscStop_acts _)).trans (airOff_acts _)) .refl

theorem tscInterlockTest_acts (n : Node) : Acts circuitActs n (tscInterlockTest n) := by
  unfold tscInterlockTest
  split
  · exact .ite (tscStop_acts n) .refl
  · exact .refl

/-! ### The latch (R45, R111, R145, R177, R178) -/

/-- What the setting of the latch does. -/
abbrev latchActs : List Act := .latch :: .raise .gearFault :: circuitActs

/-- What a STOP-class raising does. -/
abbrev stopActs (c : Cond) : List Act := .raise c :: .owe :: latchActs

theorem gearFromPattern_acts (p : SpindleParams) (n : Node) :
    Acts [.raise .gearFault, .held] n (gearFromPattern p n) := by
  unfold gearFromPattern
  split
  · exact .ofUnit {}
  · exact .ofUnit {}
  · exact (Acts.ofUnit {}).trans (raiseHold_acts _ _ _)

theorem dropCommand_acts {as : List Act} (p : SpindleParams) (n : Node) : Acts as n (dropCommand p n) :=
  .ite (.ofUnit {}) .refl

theorem abortShift_acts (p : SpindleParams) (n : Node) : Acts [.raise .gearFault, .held] n (abortShift p n) :=
  .ite ((Acts.ofUnit {}).trans (gearFromPattern_acts p _)) .refl

theorem sgStopReaction_acts (n : Node) : Acts [.raise .gearFault, .held] n (sgStopReaction n) := by
  unfold sgStopReaction
  split
  · exact .refl
  · rename_i p _
    have h : Acts [.raise .gearFault, .held] n
        (abortShift p { n with sg := { n.sg with request := none, manualStop := false } }) :=
      (Acts.ofUnit {}).trans (abortShift_acts p _)
    exact Acts.trans (.ite h (h.unit {})) (dropCommand_acts p _)

/-- A channel's state changed but for its frame records. -/
theorem setAx_unit (c : Chan) (a : Axis) (n : Node) (h : a.frames = (getAx c n).frames) :
    UnitChange n (setAx c a n) := by
  cases c
  · exact { frames0 := h }
  · exact { frames1 := h }

theorem onAx_unit (c : Chan) (f : Axis → Axis) (n : Node) (h : ∀ a, (f a).frames = a.frames) :
    UnitChange n (onAx c f n) := setAx_unit c _ n (h _)

theorem forAxes_acts {as : List Act} {f : Chan → AxisParams → Node → Node}
    (h : ∀ c p m, Acts as m (f c p m)) (n : Node) : Acts as n (forAxes f n) := by
  have one (c : Chan) (m : Node) : Acts as m (match axParams c m with | some p => f c p m | none => m) := by
    split
    · exact h c _ m
    · exact .refl
  exact (one .ax0 n).trans (one .ax1 _)

@[simp] theorem dropMotion_frames (rest : Bool) (a : Axis) : (dropMotion rest a).frames = a.frames := by
  unfold dropMotion; split <;> rfl

@[simp] theorem setDrive_frames (rest : Bool) (d : DriveState) (a : Axis) : (setDrive rest d a).frames = a.frames := by
  unfold setDrive
  by_cases hd : a.drive = d
  · rw [if_pos hd]
  · rw [if_neg hd]
    by_cases he : a.drive = .enabled <;> simp [he]

@[simp] theorem restIfStill_frames (rest : Bool) (a : Axis) : (restIfStill rest a).frames = a.frames := by
  unfold restIfStill; split <;> rfl

@[simp] theorem endJog_frames (rest : Bool) (a : Axis) : (endJog rest a).frames = a.frames := by
  unfold endJog; split <;> simp

@[simp] theorem failReference_frames (rest : Bool) (a : Axis) : (failReference rest a).frames = a.frames := by
  unfold failReference; split <;> simp

theorem latchDrive_acts {as : List Act} (c : Chan) (p : AxisParams) (n : Node) : Acts as n (latchDrive c p n) :=
  .ite (.ofUnit (onAx_unit c _ n fun _ => setDrive_frames _ _ _)) .refl

theorem setLatch_acts (n : Node) : Acts latchActs n (setLatch n) := by
  have h : Acts latchActs n { n with cu := { n.cu with stopped := true } } := .latch .refl (by simp)
  exact .ite .refl (((h.trans (forAxes_acts latchDrive_acts _)).andThen (sgStopReaction_acts _)).andThen
    (clStopReaction_acts _))

theorem raiseStop_acts (c : Cond) (d : Byte) (n : Node) : Acts (stopActs c) n (raiseStop c d n) :=
  (Acts.owe (.raise d .refl (by simp)) (by simp)).andThen (setLatch_acts _)

/-! ### The removal of entries and the mode (R52, R73, R75, R102) -/

/-- What a change of the head does (R14, R66, R72, R73). -/
abbrev headActs : List Act := [.verdicts, .clear .startStall]

/-- What the rest of the chain brings, the adoption of a mode included (R52, R102, R119, R159). -/
abbrev restActs : List Act := headActs ++ lossActs ++ [.raise .refFailed, .clear .modeSwitch]

theorem headChanged_acts (n : Node) : Acts headActs n (headChanged n) := by
  have h : Acts headActs n (clearCond .startStall (presetHead n)) := .clear (.ofUnit {}) (by simp)
  exact h.unit {}

theorem noteHead_acts (old : Option BlockNo) (n : Node) : Acts headActs n (noteHead old n) :=
  .ite .refl (headChanged_acts n)

theorem withdrawVerdicts_acts (es : List Entry) (n : Node) :
    Acts headActs n (es.foldl (fun k e => withdrawVerdict e.num k) n) := by
  induction es generalizing n with
  | nil => exact .refl
  | cons e es ih => exact (Acts.verdicts e.num .refl (by simp)).trans (ih _)

theorem removeEntries_acts (gone : Entry → Bool) (n : Node) : Acts headActs n (removeEntries gone n) := by
  have h (l : List Entry) (hl : l.length ≤ n.bq.entries.length) (k : List Kept) (c : Bool) :
      UnitChange n { n with
        bq := { n.bq with entries := l }, kept := k
        pg := if c then { n.pg with run := none, stopMark := false, carry := none } else n.pg } := by
    cases c
    · exact { entries := hl }
    · exact { entries := hl }
  exact ((Acts.ofUnit (h _ (List.length_filter_le _ _) _ _)).trans
    (withdrawVerdicts_acts _ _)).trans (noteHead_acts _ _)

theorem setPlanned_unit (n : Node) : UnitChange n (setPlanned n) := {}

theorem forgetForce_unit (n : Node) : UnitChange n (forgetForce n) := {}

theorem motionsAtRest_unit (n : Node) : UnitChange n (motionsAtRest n) := by
  have h (a : Axis) : (restMotion a).frames = a.frames := by unfold restMotion; split <;> rfl
  unfold motionsAtRest
  split_ifs
  · exact { frames0 := h _, frames1 := h _ }
  · exact {}

theorem emptyBlockSet_unit (n : Node) : UnitChange n (emptyBlockSet n) := {}

theorem removeAll_acts (n : Node) : Acts restActs n (removeAll n) := by
  have h : Acts restActs n (removeEntries (fun _ => true) n) := (removeEntries_acts _ n).mono (by simp)
  exact ((((h.unit (k := { removeEntries (fun _ => true) n with bq := _ }) {}).unit (setPlanned_unit _)).unit
    (forgetForce_unit _)).unit (emptyBlockSet_unit _)).unit (motionsAtRest_unit _) |>.andThen (clLoss_acts _)

theorem axEndJog_acts {as : List Act} (c : Chan) (p : AxisParams) (n : Node) : Acts as n (axEndJog c p n) :=
  .ofUnit (onAx_unit c _ n fun _ => endJog_frames _ _)

theorem axFailQuiet_acts {as : List Act} (c : Chan) (p : AxisParams) (n : Node) : Acts as n (axFailQuiet c p n) :=
  .ofUnit (onAx_unit c _ n fun _ => failReference_frames _ _)

theorem axFailRaised_acts (c : Chan) (p : AxisParams) (n : Node) :
    Acts [.raise .refFailed] n (axFailRaised c p n) :=
  .ite ((axFailQuiet_acts c p n).trans (raiseWarn_acts _ _ _)) .refl

theorem modeReaction_acts (m : Mode) (n : Node) : Acts [.raise .refFailed] n (modeReaction m n) := by
  have h : Acts [.raise .refFailed] n (if m = .auto then forAxes axEndJog n else n) :=
    .ite (forAxes_acts axEndJog_acts n) .refl
  exact .ite h (h.trans (forAxes_acts axFailRaised_acts _))

theorem adoptMode_acts (n : Node) : Acts restActs n (adoptMode n) :=
  (((removeAll_acts n).unit {}).andThen (modeReaction_acts _ _)).clear (by simp)

theorem afterRest_acts (n : Node) : Acts restActs n (afterRest n) := by
  have h : Acts restActs n (clLoss (motionsAtRest n)) :=
    (Acts.ofUnit (motionsAtRest_unit n)).andThen (clLoss_acts _)
  exact .ite (h.trans (adoptMode_acts _)) h

theorem stopReached_acts (n : Node) : Acts restActs n (stopReached n) :=
  ((Acts.ofUnit {}).trans (removeAll_acts _)).trans (afterRest_acts _)

theorem pathStop_acts (n : Node) : Acts restActs n (pathStop n) := .ite (stopReached_acts n) (.ofUnit {})

/-- What the mode formed again does (R51, R52). -/
abbrev modeActs : List Act := .raise .modeSwitch :: restActs

theorem enablingOff_acts (n : Node) : Acts [.raise .refFailed] n (enablingOff n) :=
  (forAxes_acts axEndJog_acts n).trans (forAxes_acts axFailRaised_acts _)

theorem compareMode_acts (n : Node) : Acts modeActs n (compareMode n) :=
  .ite (.clear .refl (by simp)) (.ite ((adoptMode_acts n).mono (by simp))
    (.ite .refl ((raiseHold_acts _ _ _).mono (by simp))))

theorem reformMode_acts (n : Node) : Acts modeActs n (reformMode n) :=
  (Acts.ite ((Acts.ofUnit {}).andThen (enablingOff_acts _)) (.ofUnit {})).trans (compareMode_acts _)

/-! ### The node table (R36, R40 to R44) -/

/-- What a changed table brings to the units (R42, R51, R63, R153). -/
abbrev tableActs : List Act := .clear .ownerClash :: stopActs .ownerClash ++ modeActs

/-- What an entry that becomes LIVE brings (R36, R40, R43, R44). -/
abbrev liveActs : List Act :=
  [.raise .machineMismatch, .raise .unexpectedNode, .clear .peerLost] ++ tableActs

theorem raiseClashes_acts (ps : List (Nat × Nat)) (n : Node) :
    Acts (stopActs .ownerClash) n (ps.foldl (fun k p => raiseStop .ownerClash (BitVec.ofNat 8 p.2) k) n) := by
  induction ps generalizing n with
  | nil => exact .refl
  | cons p ps ih => exact (raiseStop_acts _ _ n).trans (ih _)

theorem clashTest_acts (n : Node) : Acts (.clear .ownerClash :: stopActs .ownerClash) n (clashTest n) := by
  have h (ps : List (Nat × Nat)) : Acts (.clear .ownerClash :: stopActs .ownerClash) n
      (ps.foldl (fun k p => raiseStop .ownerClash (BitVec.ofNat 8 p.2) k)
        { n with nt := { n.nt with clashes := clashPairs n } }) :=
    (Acts.ofUnit {}).andThen (raiseClashes_acts ps _)
  exact .ite ((h _).clear (by simp)) (h _)

theorem onEntry_unit (num : BlockNo) (f : Entry → Entry) (n : Node) : UnitChange n (onEntry num f n) where
  entries := by simp [onEntry]

theorem refillRoles_unit (n : Node) : UnitChange n (refillRoles n) := by
  unfold refillRoles
  split
  · exact onEntry_unit _ _ n
  · exact {}

theorem tableChanged_acts (n : Node) : Acts tableActs n (tableChanged n) :=
  ((((clashTest_acts n).mono (by simp)).andThen (reformMode_acts _)).unit (refillRoles_unit _)).andThen
    (tscInterlockTest_acts _)

theorem peerLostClear_acts (n : Node) : Acts [.clear .peerLost] n (peerLostClear n) :=
  .ite .refl (.clear .refl (by simp))

theorem mismatchRaise_acts (i : Nat) (n : Node) : Acts (stopActs .machineMismatch) n (mismatchRaise i n) :=
  .ite (raiseStop_acts _ _ n) .refl

theorem mismatchClear_acts (n : Node) : Acts [.clear .machineMismatch] n (mismatchClear n) :=
  .ite .refl (.clear .refl (by simp))

theorem unexpectedRaise_acts (i : Nat) (n : Node) : Acts [.raise .unexpectedNode] n (unexpectedRaise i n) :=
  .ite .refl (raiseWarn_acts _ _ n)

theorem unexpectedClear_acts (n : Node) : Acts [.clear .unexpectedNode] n (unexpectedClear n) :=
  .ite .refl (.clear .refl (by simp))

theorem entryLive_acts (i : Nat) (n : Node) : Acts liveActs n (entryLive i n) :=
  ((((peerLostClear_acts n).mono (by simp)).andThen (mismatchRaise_acts i _)).andThen
    (unexpectedRaise_acts i _)).andThen (tableChanged_acts _)

end Sys2Proof.Machine
end

section
/-! PROOF. Every operation of the block queue, the path, the node table and the units keeps the bounds. -/

namespace Sys2Proof.Machine

-- The text is checked as one file under a data limit that many waiting threads would exceed.
set_option Elab.async false

/-! ### Shared operations -/

theorem raiseWarn_steady (c : Cond) (d : Byte) (n : Node) : Steady n (raiseWarn c d n) := (raiseWarn_acts c d n).steady

theorem raiseHold_steady (c : Cond) (d : Byte) (n : Node) : Steady n (raiseHold c d n) := (raiseHold_acts c d n).steady

theorem raiseStop_steady (c : Cond) (d : Byte) (n : Node) : Steady n (raiseStop c d n) := (raiseStop_acts c d n).steady

theorem afterRest_steady (n : Node) : Steady n (afterRest n) := (afterRest_acts n).steady

theorem clLoss_steady (n : Node) : Steady n (clLoss n) := (clLoss_acts n).steady

/-- A channel's state changed but for its frame records. -/
theorem onAx_steady (c : Chan) (f : Axis → Axis) (n : Node) (h : ∀ a, (f a).frames = a.frames := by intro a; rfl) :
    Steady n (onAx c f n) := (onAx_unit c f n h).steady

theorem setAx_steady (c : Chan) (a : Axis) (n : Node) (h : a.frames = (getAx c n).frames := by rfl) :
    Steady n (setAx c a n) := (setAx_unit c a n h).steady

theorem forAxes_steady {f : Chan → AxisParams → Node → Node} (h : ∀ c p m, Steady m (f c p m)) (n : Node) :
    Steady n (forAxes f n) := by
  have one (c : Chan) (m : Node) : Steady m (match axParams c m with | some p => f c p m | none => m) := by
    split
    · exact h c _ m
    · exact .refl m
  exact (one .ax0 n).trans (one .ax1 _)

/-! ### The block queue (chapter 5) -/

theorem onEntry_steady (num : BlockNo) (f : Entry → Entry) (n : Node) : Steady n (onEntry num f n) :=
  (onEntry_unit num f n).steady

theorem clActOn_steady (e : Entry) (n : Node) : Steady n (clActOn e n) := by
  unfold clActOn
  split
  · exact .ite {} (.refl n)
  · exact .refl n

theorem clActHead_steady (n : Node) : Steady n (clActHead n) := by
  unfold clActHead
  split
  · exact clActOn_steady _ n
  · exact .refl n

theorem noteSettled_steady (r : Gear) (c : Bool) (n : Node) : Steady n (noteSettled r c n) :=
  .ite (raiseWarn_steady _ _ n) (clearCond_steady _ n)

theorem dropCommand_steady (p : SpindleParams) (n : Node) : Steady n (dropCommand p n) := .ite {} (.refl n)

theorem sgActOn_steady (t : SpindleTarget) (n : Node) : Steady n (sgActOn t n) := by
  cases h : t.range with
  | none =>
    simp only [sgActOn, h]
    exact (clearCond_steady _ n).trans {}
  | some r =>
    simp only [sgActOn, h]
    exact (noteSettled_steady r _ n).trans {}

theorem sgActHead_steady (n : Node) : Steady n (sgActHead n) := by
  unfold sgActHead
  split
  · split
    · exact .ite ((sgActOn_steady _ n).trans (dropCommand_steady _ _)) (.refl n)
    · exact .refl n
  · exact .refl n

theorem askReady_steady (num : BlockNo) (v : Verdict) (n : Node) : Steady n (askReady num v n) :=
  (onEntry_steady _ _ n).trans (ask_steady _ _)

theorem firstVerdict_steady (e : Entry) (n : Node) : Steady n (firstVerdict e n) :=
  .ite (askReady_steady _ _ n) (.refl n)

theorem verdictTick_steady (n : Node) : Steady n (verdictTick n) := by
  unfold verdictTick
  split
  · exact .ite (.ite (askReady_steady _ _ n) (.refl n)) (.refl n)
  · exact .refl n

theorem evaluateHead_steady (n : Node) : Steady n (evaluateHead n) := by
  unfold evaluateHead
  split
  · split
    · exact ((onEntry_steady _ _ n).trans (clActOn_steady _ _)).trans (firstVerdict_steady _ _)
    · exact .refl n
  · exact .refl n

theorem forgetVerdict_steady (i : Nat) (n : Node) : Steady n (forgetVerdict i n) := by
  unfold forgetVerdict
  split
  · exact onEntry_steady _ _ n
  · exact .refl n

theorem goTest_steady (n : Node) : Steady n (goTest n) := by
  unfold goTest
  split
  · exact .ite (.ite (.refl n) (ask_steady _ n)) (withdrawNamed_steady _ n)
  · exact .refl n

theorem recordReady_steady (i : Nat) (num : BlockNo) (v : Verdict) (n : Node) :
    Steady n (recordReady i num v n) := by
  refine Steady.trans ?_ (goTest_steady _)
  split
  · split_ifs
    · split
      · exact (onEntry_steady _ _ n).trans (raiseWarn_steady _ _ _)
      · exact onEntry_steady _ _ n
    · exact .refl n
  · exact .refl n

theorem manualSpeed_steady (r : Nat) (ccw : Bool) (n : Node) : Steady n (manualSpeed r ccw n) := .ite {} (.refl n)

theorem manualFromBlock_steady (f : BlockFields) (n : Node) : Steady n (manualFromBlock f n) := by
  unfold manualFromBlock
  split
  · exact manualSpeed_steady _ _ n
  · exact .refl n

theorem axLeavesRest_steady (c : Chan) (p : AxisParams) (n : Node) : Steady n (axLeavesRest c p n) :=
  onAx_steady c _ n fun a => by unfold chainMotion; split <;> rfl

theorem headChanged_steady (n : Node) : Steady n (headChanged n) := (headChanged_acts n).steady

theorem noteHead_steady (old : Option BlockNo) (n : Node) : Steady n (noteHead old n) := (noteHead_acts old n).steady

theorem commit_steady (e : Entry) (f : BlockFields) (g : Tick) (n : Node) : Steady n (commit e f g n) := by
  refine Steady.trans ?_ (evaluateHead_steady _)
  refine Steady.trans ?_ (forAxes_steady axLeavesRest_steady _)
  refine Steady.trans ?_ (headChanged_steady _)
  refine Steady.trans ?_ (withdrawNamed_steady _ _)
  refine Steady.trans ?_ (manualFromBlock_steady f _)
  exact (onEntry_steady _ _ n).trans {}

theorem applyGo_steady (num : BlockNo) (g : Tick) (i : Nat) (n : Node) : Steady n (applyGo num g i n) := by
  unfold applyGo
  split
  · split
    · exact .ite (.refl n) (.ite (raiseHold_steady _ _ n) (commit_steady _ _ g n))
    · exact .refl n
  · exact .refl n

theorem startEntry_steady (e : Entry) (f : BlockFields) (n : Node) : Steady n (startEntry e f n) :=
  (onEntry_steady _ _ n).trans {}

theorem startTick_steady (n : Node) : Steady n (startTick n) := by
  unfold startTick
  split
  · exact .ite (startEntry_steady _ _ n) (.refl n)
  · exact .refl n

theorem length_settleStart (t : Tick) (es : List Entry) : (settleStart t es).length = es.length := by
  cases es <;> simp [settleStart]

theorem finishBlock_steady (r : Run) (n : Node) : Steady n (finishBlock r n) := by
  refine Steady.trans ?_ (afterRest_steady _)
  exact { blocks := fun h => (length_settleStart _ _).trans_le ((List.length_filter_le _ _).trans h) }

theorem endOfTick_steady (n : Node) : Steady n (endOfTick n) := by
  unfold endOfTick
  split
  · exact .ite (finishBlock_steady _ n) (.refl n)
  · exact .refl n

theorem resolveAx_steady (c : Chan) (f : BlockFields) (n : Node) : Steady n (resolveAx c f n).2 := by
  unfold resolveAx
  split
  · split
    · exact onAx_steady c (fun ax => { ax with planned := _ }) n
    · exact .refl n
  · exact .refl n

theorem takenEntry_steady (b : BlockBody) (n : Node) : Steady n (takenEntry b n).2 := by
  unfold takenEntry
  split_ifs
  · exact (resolveAx_steady .ax0 _ n).trans (resolveAx_steady .ax1 _ _)
  · exact .refl n

/-- Resolving a taken block's components leaves the entries of the queue (R60). -/
theorem takenEntry_bq (b : BlockBody) (n : Node) : (takenEntry b n).2.bq = n.bq := by
  have h (c : Chan) (f : BlockFields) (m : Node) : (resolveAx c f m).2.bq = m.bq := by
    unfold resolveAx; split
    · split <;> simp
    · rfl
  unfold takenEntry
  split_ifs <;> simp [h]

/-- A block is taken only where an entry is free, so that sixteen stay the most (R56, R57). -/
theorem acceptBlock_steady (b : BlockBody) (n : Node) : Steady n (acceptBlock b n) := by
  unfold acceptBlock
  split_ifs with ht hl
  · refine Steady.trans ?_ (evaluateHead_steady _)
    refine Steady.trans ?_ (noteHead_steady _ _)
    refine (takenEntry_steady b n).trans { blocks := fun _ => ?_ }
    simp only [blocksBounded, takenEntry_bq, List.length_append, List.length_singleton]
    omega
  · exact .refl n
  · exact .refl n
  · exact raiseHold_steady _ _ n

theorem raiseStall_steady (n : Node) : Steady n (raiseStall n) :=
  Steady.trans (m := { n with bq := _ }) {} (raiseWarn_steady _ _ _)

theorem headTimerTick_steady (n : Node) : Steady n (headTimerTick n) :=
  .ite (.ite (raiseStall_steady n) {}) (.refl n)

theorem clearFlush_steady (n : Node) : Steady n (clearFlush n) :=
  ((clearCond_steady _ n).trans (clearCond_steady _ _)).trans (clearCond_steady _ _)

theorem acceptFlush_steady (num : Option BlockNo) (n : Node) : Steady n (acceptFlush num n) := by
  refine Steady.trans ?_ (afterRest_steady _)
  refine Steady.trans ?_ (emptyBlockSet_unit _).steady
  refine Steady.trans ?_ (clearFlush_steady _)
  refine Steady.trans ?_ (forgetForce_unit _).steady
  exact ((removeEntries_acts _ n).steady.trans (setPlanned_unit _).steady).trans {}

theorem adoptionTest_steady (n : Node) : Steady n (adoptionTest n) := .ite (adoptMode_acts n).steady (.refl n)

/-! ### The node table (chapter 4) -/

/-- A clamp value of 1 to 150 taken into the list (R88). -/
theorem setClamp_steady (i : Nat) {v : Nat} (hv : 1 ≤ v ∧ v ≤ 150) (n : Node) : Steady n (setClamp i v n) where
  overrides := by
    rintro ⟨hk, hl, hc⟩
    refine ⟨hk, (List.length_set ..).trans hl, fun x hx => ?_⟩
    rcases List.mem_or_eq_of_mem_set hx with h | rfl
    · exact hc x h
    · exact hv

@[simp] theorem forgetJog_frames (i : Nat) (a : Axis) : (forgetJog i a).frames = a.frames := by
  unfold forgetJog
  split
  · split <;> rfl
  · rfl

theorem forgetJogs_unit (i : Nat) (n : Node) : UnitChange n (forgetJogs i n) :=
  { frames0 := forgetJog_frames i _, frames1 := forgetJog_frames i _ }

/-- A stop learnt from an entry's set may leave a STOPALL owed, and sets the latch (R178). -/
theorem learnStop_steady (n : Node) : Steady n (learnStop n) :=
  (Steady.ite (.refl n) {}).trans (setLatch_acts _).steady

theorem stopLearnt_steady (i : Nat) (n : Node) : Steady n (stopLearnt i n) := .ite (learnStop_steady n) (.refl n)

theorem tableChanged_steady (n : Node) : Steady n (tableChanged n) := (tableChanged_acts n).steady

theorem entryLost_steady (i : Nat) (n : Node) : Steady n (entryLost i n) := by
  refine Steady.trans ?_ (tableChanged_steady _)
  refine Steady.trans ?_ (unexpectedClear_acts _).steady
  refine Steady.trans ?_ (mismatchClear_acts _).steady
  have h : Steady n (forgetJogs i (setClamp i 150 (setEntry i { entryAt i n with state := .lost, silence := 0 } n))) :=
    (Steady.trans {} (setClamp_steady i ⟨by decide, le_rfl⟩ _)).trans (forgetJogs_unit i _).steady
  exact .ite (h.trans (raiseHold_steady _ _ _)) h

theorem silenceTick_steady (i : Nat) (n : Node) : Steady n (silenceTick i n) :=
  .ite (.ite (entryLost_steady i n) {}) (.refl n)

theorem silenceTicks_steady (k : Nat) (n : Node) : Steady n (silenceTicks k n) := by
  induction k with
  | zero => exact .refl n
  | succ k ih => exact ih.trans (silenceTick_steady k _)

theorem heard_steady (i : Nat) (n : Node) : Steady n (heard i n) := by
  have h : Steady n (setEntry i { entryAt i n with state := .live, silence := 120 } n) := {}
  have g := h.trans (entryLive_acts i _).steady
  exact .ite h (.ite (g.trans (stopLearnt_steady i _)) g)

theorem writeAnnounce_steady (i : Nat) (b : AnnounceBody) (n : Node) : Steady n (writeAnnounce i b n) := by
  have hm : Steady n (setEntry i (announcedEntry b (entryAt i n)) n) := {}
  have hj := Steady.ite (c := (announceJoining b && (entryAt i n).state != .absent) = true)
    (hm.trans (setClamp_steady i ⟨by decide, le_rfl⟩ _)) hm
  have hk := Steady.ite (c := announceJoining b = true)
    (hj.trans ((forgetJogs_unit i _).steady.trans (forgetVerdict_steady i _))) hj
  have hr := Steady.ite (c := (announceJoining b && (entryAt i n).state != .absent) = true)
    (hk.trans (raiseHold_steady .peerRejoined (BitVec.ofNat 8 i) _)) hk
  have hc := ((hr.trans (peerLostClear_acts _).steady).trans (mismatchRaise_acts i _).steady).trans
    (mismatchClear_acts _).steady
  have hu := Steady.ite (c := (entryAt i n).state = .live) hc (hc.trans (unexpectedRaise_acts i _).steady)
  have ht := hu.trans (tableChanged_steady _)
  exact .ite (ht.trans (stopLearnt_steady i _)) ht

theorem reformMode_steady (n : Node) : Steady n (reformMode n) := (reformMode_acts n).steady

theorem tscInterlockTest_steady (n : Node) : Steady n (tscInterlockTest n) := (tscInterlockTest_acts n).steady

theorem writeState_steady (i : Nat) (b : StateBody) (n : Node) : Steady n (writeState i b n) := by
  refine Steady.trans ?_ (tscInterlockTest_steady _)
  have hm (e : NodeEntry) : Steady n (setEntry i e n) := {}
  have hk (e : NodeEntry) : Steady n (if i = me n then setEntry i e n else stopLearnt i (setEntry i e n)) :=
    .ite (hm e) ((hm e).trans (stopLearnt_steady i _))
  exact .ite ((hk _).trans (reformMode_steady _)) (hk _)

theorem writePanel_steady (i : Nat) (p : Panel) (n : Node) : Steady n (writePanel i p n) :=
  Steady.trans (m := setEntry i _ n) {} (reformMode_steady _)

theorem clearReported_steady (sent : Option Nat) (n : Node) : Steady n (clearReported sent n) := by
  cases sent with
  | none => exact .refl n
  | some t =>
    have h := Steady.ite (c := n.cu.jogSeq ≤ t) (clearCond_steady .jogOverrun n) (.refl n)
    exact .ite (h.trans (clearCond_steady _ _)) h

/-! ### The path (chapter 6) -/

theorem pathTick_steady (n : Node) : Steady n (pathTick n) := by
  unfold pathTick
  split
  · exact {}
  · exact .refl n

theorem paceTick_steady (n : Node) : Steady n (paceTick n) := .ite (ask_steady _ n) (.refl n)

theorem historyTick_steady (n : Node) : Steady n (historyTick n) := .ite {} (.refl n)

theorem historyEnd_steady (n : Node) : Steady n (historyEnd n) := .ite (.refl n) {}

theorem applyPace_steady (stamp : Tick) (i : NodeNo) (own : Bool) (r : Option BlockNo) (e : BitVec 16) (n : Node) :
    Steady n (applyPace stamp i own r e n) := by
  unfold applyPace
  refine .ite (.refl n) ?_
  split
  · exact .ite (.refl n) (raiseHold_steady _ _ n)
  · exact .refl n

/-- The knob stops at 150 percent and a clamp value lies from 1 to 150 (R88). -/
theorem applyOverride_steady (i : NodeNo) (f v : Byte) (n : Node) : Steady n (applyOverride i f v n) :=
  .ite { overrides := fun h => ⟨min_le_right _ _, h.2⟩ }
    (.ite (setClamp_steady _ (clampNat_bounds (by decide) _) n) (.refl n))

theorem applyResume_steady (n : Node) : Steady n (applyResume n) :=
  Steady.trans (m := { n with cu := _ }) {} (heldTest_steady _)

theorem applyKept_steady (k : Kept) (n : Node) : Steady n (applyKept k n) := by
  unfold applyKept
  split
  · exact {}
  · exact applyResume_steady n
  · exact applyGo_steady _ _ _ n
  · exact applyOverride_steady _ _ _ n
  · exact applyPace_steady _ _ _ _ _ n
  · exact .refl n

theorem applyAll_steady (ks : List Kept) (n : Node) : Steady n (applyAll ks n) := by
  induction ks generalizing n with
  | nil => exact .refl n
  | cons k ks ih => exact (applyKept_steady k n).trans (ih _)

/-- Something that stands around a step lets it keep the bounds. -/
def KeepsSteady (under : (Node → Node) → Node → Node) : Prop :=
  ∀ f, (∀ n, Steady n (f n)) → ∀ n, Steady n (under f n)

theorem keepsSteady_bare : KeepsSteady (fun f m => f m) := fun _ h n => h n

theorem keepsSteady_beneath (k : Kept) : KeepsSteady (beneath k) := fun _ h n =>
  (Steady.trans (m := { n with kept := n.kept ++ [k] }) {} (h _)).trans {}

theorem applyDueBy_steady {under} (hu : KeepsSteady under) (n : Node) : Steady n (applyDueBy under n) :=
  Steady.trans (m := { n with kept := _ }) {} (hu _ (applyAll_steady _) _)

theorem applyFirst_steady (test : Payload → Bool) (n : Node) : Steady n (applyFirst test n) := by
  unfold applyFirst
  split
  · exact Steady.trans (m := { n with kept := _ }) {} (applyKept_steady _ _)
  · exact .refl n

theorem placeFrame_steady (k : Kept) (capture : Tick) (n : Node) : Steady n (placeFrame k capture n) := by
  have h := applyKept_steady k n
  unfold placeFrame
  split
  · exact {}
  · exact .ite (h.trans (raiseHold_steady _ _ _)) h

/-- A snap leaves nothing of the slew, and a skew's slew stops at 64 µs (R96, R98). -/
theorem snap_steady {under} (hu : KeepsSteady under) (k : Int) (n : Node) : Steady n (snap under k n) := by
  refine Steady.trans ?_ (applyDueBy_steady hu _)
  exact { slew := fun ⟨_, _, h⟩ => ⟨show (-64 : Int) ≤ 0 by decide, show (0 : Int) ≤ 64 by decide, h⟩ }

theorem slewFor_steady {under} (hu : KeepsSteady under) (i : NodeNo) (k : Int) (n : Node) :
    Steady n (slewFor under i k n) := by
  have h : Steady n { n with pg := { n.pg with slew := slewAfter n.pg.slew k } } :=
    { slew := fun ⟨_, _, h⟩ =>
        ⟨(clampInt_bounds (by decide) _).1, (clampInt_bounds (by decide) _).2, h⟩ }
  exact .ite (h.trans (hu _ (fun m => raiseHold_steady _ _ m) _)) h

theorem alignTimeBy_steady {under} (hu : KeepsSteady under) (rx : Rx) (c : Moment) (s : Stamp) (n : Node) :
    Steady n (alignTimeBy under rx c s n).1 := by
  unfold alignTimeBy
  simp only
  split_ifs
  · exact snap_steady hu _ n
  · exact slewFor_steady hu _ _ n
  · exact .refl n

theorem pathStop_steady (n : Node) : Steady n (pathStop n) := (pathStop_acts n).steady

theorem stopReached_steady (n : Node) : Steady n (stopReached n) := (stopReached_acts n).steady

/-- A tick's slew of at most 2 µs takes what is pending toward 0 and the tick's length to 998 to 1,002 µs (R96). -/
theorem countTick_steady (n : Node) : Steady n (countTick n) where
  slew := by
    rintro ⟨hl, hh, -, -⟩
    simp only [slewBounded, countTick, slewTick]
    split_ifs <;> simp only <;> omega

end Sys2Proof.Machine
end

section
/-! PROOF. The axis channels, the spindle, coolant and pendant units and the line controller keep the bounds. -/

namespace Sys2Proof.Machine

-- The text is checked as one file under a data limit that many waiting threads would exceed.
set_option Elab.async false

/-! ### The frame records of a channel: no operation but an OFFSET writes them (R105) -/

@[simp] theorem setMark_frames (side : Side) (b : Bool) (a : Axis) : (setMark side b a).frames = a.frames := by
  cases side <;> rfl

@[simp] theorem correctionRead_frames (p : AxisParams) (a : Axis) (c : Int) :
    (correctionRead p a c).1.frames = a.frames := by
  unfold correctionRead
  split
  · rfl
  · simp only; split_ifs <;> rfl

@[simp] theorem correction_frames (p : AxisParams) (a : Axis) (c : Int) :
    (correction p a c).1.frames = a.frames := by
  unfold correction; split <;> simp

@[simp] theorem trackingRead_frames (p : AxisParams) (a : Axis) : (trackingRead p a).1.frames = a.frames :=
  correctionRead_frames p a _

@[simp] theorem tracking_frames (p : AxisParams) (a : Axis) : (tracking p a).1.frames = a.frames := by
  unfold tracking; split <;> simp

@[simp] theorem moverStep_frames (v am : Int) (a : Axis) : (moverStep v am a).frames = a.frames := by
  unfold moverStep
  split
  · rfl
  · simp only; split_ifs <;> rfl

@[simp] theorem moverCommand_frames (p : AxisParams) (a : Axis) : (moverCommand p a).frames = a.frames := rfl

@[simp] theorem jogFollow_frames (a : Axis) : (jogFollow a).frames = a.frames := by
  unfold jogFollow; split <;> rfl

@[simp] theorem jogDone_frames (rest : Bool) (a : Axis) : (jogDone rest a).frames = a.frames := by
  unfold jogDone; split <;> rfl

@[simp] theorem jogTaken_frames (p : AxisParams) (u : Int) (a : Axis) : (jogTaken p u a).frames = a.frames := by
  simp only [jogTaken]; by_cases h : a.motion = .idle <;> simp [h, beginMover]

@[simp] theorem jogStep_frames (p : AxisParams) (rest : Bool) (a : Axis) : (jogStep p rest a).frames = a.frames := by
  unfold jogStep; simp only [jogDone_frames]; split <;> simp

@[simp] theorem switchActive_frames (a : Axis) : (switchActive a).frames = a.frames := by
  unfold switchActive
  split
  · split <;> rfl
  · rfl

@[simp] theorem markEdge_frames (p : AxisParams) (a : Axis) : (markEdge p a).frames = a.frames := by
  unfold markEdge; split <;> rfl

@[simp] theorem takeShift_frames (a : Axis) : (takeShift a).frames = a.frames := by
  unfold takeShift; split <;> rfl

@[simp] theorem servoOut_frames (p : AxisParams) (a : Axis) : (servoOut p a).frames = a.frames := by
  unfold servoOut; split <;> rfl

@[simp] theorem stopTimerTick_frames (a : Axis) : (stopTimerTick a).frames = a.frames := by
  unfold stopTimerTick; split <;> rfl

@[simp] theorem clampAtStart_frames (p : AxisParams) (pin : AxisPins) (a : Axis) :
    (clampAtStart p pin a).frames = a.frames := by
  unfold clampAtStart; split_ifs <;> rfl

/-! ### The axis channels (chapter 7) -/

theorem limitTest_steady (c : Chan) (side : Side) (n : Node) : Steady n (limitTest c side n) := by
  have h (b : Bool) : Steady n (onAx c (setMark side b) n) := onAx_steady c _ n (setMark_frames side b)
  exact .ite ((h true).trans (raiseStop_steady _ _ _)) (.ite (h false) (.refl n))

theorem driveTo_steady (c : Chan) (d : DriveState) (n : Node) : Steady n (driveTo c d n) :=
  onAx_steady c _ n (setDrive_frames _ d)

theorem driveFault_steady (c : Chan) (n : Node) : Steady n (driveFault c n) :=
  (driveTo_steady c _ n).trans (raiseStop_steady _ _ _)

theorem driveTimerTick_steady (c : Chan) (n : Node) : Steady n (driveTimerTick c n) :=
  .ite (driveFault_steady c n) (onAx_steady c _ n)

theorem driveTick_steady (c : Chan) (p : AxisParams) (n : Node) : Steady n (driveTick c p n) := by
  unfold driveTick
  split
  · exact .refl n
  · exact .ite (driveFault_steady c n) (.ite (.refl n) (driveTo_steady c _ n))
  · exact .ite (driveFault_steady c n) (.ite (driveTo_steady c _ n)
      (.ite (driveTo_steady c _ n) (driveTimerTick_steady c n)))
  · exact .ite (driveFault_steady c n) (.refl n)

theorem clampTo_steady (c : Chan) (s : ClampState) (n : Node) : Steady n (onAx c (clampTo s) n) := onAx_steady c _ n

theorem unclampTimedOut_steady (c : Chan) (n : Node) : Steady n (unclampTimedOut c n) :=
  onAx_steady c _ n fun _ => endJog_frames _ _

theorem clampCount_steady (c : Chan) (n : Node) : Steady n (clampCount c n) := onAx_steady c _ n

theorem clampTick_steady (c : Chan) (p : AxisParams) (n : Node) : Steady n (clampTick c p n) := by
  have h (s : ClampState) : Steady n (onAx c (clampTo s) n) := clampTo_steady c s n
  unfold clampTick
  refine .ite (.refl n) ?_
  split
  · exact .ite (h _) (.refl n)
  · exact .ite (h _) (.ite (unclampTimedOut_steady c n) (.ite (clampCount_steady c n) (h _)))
  · exact .ite (.refl n) (h _)
  · exact .ite (h _) (.ite (h _) (.ite (h _) (clampCount_steady c n)))

theorem acceptJog_steady (i : NodeNo) (t : Bool) (d u : Int) (c : Chan) (p : AxisParams) (n : Node) :
    Steady n (acceptJog i t d u c p n) := by
  have hm : Steady n (onAx c (fun a => { a with lastJog := some (i, t) }) n) := onAx_steady c _ n
  have hk := hm.trans (onAx_steady c (jogTaken p u) _ (jogTaken_frames p u))
  exact .ite (.refl n) (.ite (.ite (hk.trans (raiseWarn_steady _ _ _)) hk) hm)

theorem refFailed_steady (c : Chan) (n : Node) : Steady n (refFailed c n) :=
  (onAx_steady c (refOver _ _) n).trans (raiseWarn_steady _ _ _)

theorem raiseParity_steady (c : Chan) (k : Nat) (n : Node) : Steady n (raiseParity c k n) := by
  induction k generalizing n with
  | zero => exact .refl n
  | succ k ih => exact (raiseStop_steady _ _ n).trans (ih _)

theorem endTest_steady (c : Chan) (p : AxisParams) (n : Node) : Steady n (endTest c p n) := by
  have h : Steady n (raiseParity c (trackingRead p (getAx c n)).2.2 (setAx c (trackingRead p (getAx c n)).1 n)) :=
    (setAx_steady c _ n (trackingRead_frames p _)).trans (raiseParity_steady c _ _)
  exact .ite (h.trans (onAx_steady c (fun a => { refOver _ _ a with commanded := _, referenced := true }) _))
    (h.trans (refFailed_steady c _))

theorem refOver_steady (c : Chan) (rest : Bool) (s : RefState) (n : Node) : Steady n (onAx c (refOver rest s) n) :=
  onAx_steady c _ n

theorem beginPhase_steady (c : Chan) (p : AxisParams) (s : RefState) (n : Node) :
    Steady n (onAx c (beginPhase p s) n) := onAx_steady c _ n

theorem phaseArrived_steady (c : Chan) (p : AxisParams) (n : Node) : Steady n (phaseArrived c p n) := by
  unfold phaseArrived
  split
  · exact .ite (refFailed_steady c n) (beginPhase_steady c p _ n)
  · exact refFailed_steady c n
  · exact refFailed_steady c n
  · exact refOver_steady c _ _ n

theorem phaseStopped_steady (c : Chan) (p : AxisParams) (n : Node) : Steady n (phaseStopped c p n) := by
  unfold phaseStopped
  split
  · exact beginPhase_steady c p _ n
  · exact endTest_steady c p n
  · exact refOver_steady c _ _ n

theorem refFollow_steady (c : Chan) (p : AxisParams) (n : Node) : Steady n (refFollow c p n) :=
  .ite (.ite (phaseStopped_steady c p n) (phaseArrived_steady c p n)) (.refl n)

theorem switchTick_steady (c : Chan) (n : Node) : Steady n (switchTick c n) :=
  .ite (onAx_steady c _ n switchActive_frames) (.refl n)

theorem acceptReference_steady (c : Chan) (p : AxisParams) (n : Node) : Steady n (acceptReference c p n) :=
  .ite ((clearCond_steady _ n).trans (onAx_steady c (refStart p _) _)) (.refl n)

theorem refStep_steady (c : Chan) (p : AxisParams) (n : Node) : Steady n (refStep c p n) :=
  Steady.trans (.ite (setAx_steady c _ n (by simp)) (.refl n)) (refFollow_steady c p _)

theorem commandStep_steady (c : Chan) (p : AxisParams) (n : Node) : Steady n (commandStep c p n) := by
  unfold commandStep
  refine .ite ?_ (.ite ?_ ?_)
  · split
    · exact onAx_steady c _ n (jogDone_frames _)
    · exact refFollow_steady c p n
    · exact .refl n
  · refine Steady.trans ?_ (raiseParity_steady c _ _)
    exact setAx_steady c _ n (tracking_frames p _)
  · split
    · exact onAx_steady c (fun x => { x with commanded := _ }) n
    · exact onAx_steady c _ n (jogStep_frames p _)
    · exact refStep_steady c p n
    · exact onAx_steady c (fun x => { x with commanded := _ }) n

theorem correctStep_steady (c : Chan) (p : AxisParams) (n : Node) : Steady n (correctStep c p n) := by
  refine Steady.trans ?_ (raiseParity_steady c _ _)
  exact setAx_steady c _ n (correction_frames p _ _)

theorem servoStep_steady (c : Chan) (p : AxisParams) (n : Node) : Steady n (servoStep c p n) := by
  have hm : Steady n (setAx c (servoOut p (getAx c n)) n) := setAx_steady c _ n (servoOut_frames p _)
  have hf := Steady.ite (c := (getAx c n).followRun < 4 ∧ (servoOut p (getAx c n)).followRun = 4)
    (hm.trans (raiseStop_steady .followError (chanNumber c) _)) hm
  have hs := Steady.ite (c := (getAx c n).satRun < 50 ∧ (servoOut p (getAx c n)).satRun = 50)
    (hf.trans (raiseHold_steady .driveSaturated (chanNumber c) _)) hf
  exact (hs.trans (limitTest_steady c .plus _)).trans (limitTest_steady c .minus _)

theorem disableTick_steady (c : Chan) (n : Node) : Steady n (disableTick c n) := by
  have h : Steady n (onAx c stopTimerTick n) := onAx_steady c _ n stopTimerTick_frames
  exact .ite (h.trans (driveTo_steady c _ _)) h

theorem axisTick_steady (c : Chan) (p : AxisParams) (n : Node) : Steady n (axisTick c p n) := by
  have h0 := ((driveTick_steady c p n).trans (clampTick_steady c p _)).trans (switchTick_steady c _)
  have h1 := h0.trans (onAx_steady c (fun a => takeShift { a with actual := actualOf p a.count }) _
    fun _ => takeShift_frames _)
  have h2 := ((h1.trans (commandStep_steady c p _)).trans (correctStep_steady c p _)).trans (servoStep_steady c p _)
  exact (h2.trans (disableTick_steady c _)).trans
    (onAx_steady c (fun a => jogRecentTick _ { a with prevCommanded := a.commanded }) _)

/-- An OFFSET never writes frame record 0 (R105). -/
theorem acceptOffset_steady (b : OffsetBody) (c : Chan) (n : Node) : Steady n (acceptOffset b c n) := by
  unfold acceptOffset
  split_ifs with h
  · cases c
    · refine { frames := fun ⟨h0, h0', h1, h1'⟩ => ⟨by simpa [onAx, setAx, getAx] using h0, ?_, h1, h1'⟩ }
      simpa [onAx, setAx, getAx, List.getElem?_set, show b.frameNo.toNat ≠ 0 by omega] using h0'
    · refine { frames := fun ⟨h0, h0', h1, h1'⟩ => ⟨h0, h0', by simpa [onAx, setAx, getAx] using h1, ?_⟩ }
      simpa [onAx, setAx, getAx, List.getElem?_set, show b.frameNo.toNat ≠ 0 by omega] using h1'
  · exact .refl n

theorem axisStop_steady (c : Chan) (p : AxisParams) (n : Node) : Steady n (axisStop c p n) := by
  have h := ((axEndJog_acts (as := []) c p n).trans (axFailQuiet_acts c p _)).steady
  exact .ite (h.trans (onAx_steady c (fun a => { a with stopTimer := some 500 }) _)) h

theorem axisFaultclr_steady (c : Chan) (p : AxisParams) (n : Node) : Steady n (axisFaultclr c p n) :=
  .ite (.ite (raiseStop_steady _ _ n) (driveTo_steady c _ n)) (.refl n)

theorem axisEnable_steady (c : Chan) (p : AxisParams) (n : Node) : Steady n (axisEnable c p n) :=
  .ite (driveTo_steady c _ n) (.refl n)

/-! ### The spindle and gearbox unit (chapter 8) -/

theorem formCommand_steady (p : SpindleParams) (n : Node) : Steady n (formCommand p n) := {}

theorem gearFromPattern_steady (p : SpindleParams) (n : Node) : Steady n (gearFromPattern p n) :=
  (gearFromPattern_acts p n).steady

theorem endShift_steady (p : SpindleParams) (n : Node) : Steady n (endShift p n) := by
  unfold endShift
  split_ifs
  · split
    · exact (Steady.trans (m := { n with sg := _ }) {} (clearCond_steady _ _)).trans (formCommand_steady p _)
    · exact .refl n
  · exact {}

theorem beginStepB_steady (p : SpindleParams) (n : Node) : Steady n (beginStepB p n) :=
  .ite (Steady.trans (m := { n with sg := _ }) {} (endShift_steady p _)) {}

theorem beginStepA_steady (p : SpindleParams) (n : Node) : Steady n (beginStepA p n) :=
  .ite (Steady.trans (m := { n with sg := _ }) {} (beginStepB_steady p _)) {}

theorem beginStep_steady (p : SpindleParams) (sh : Shifter) (n : Node) : Steady n (beginStep p sh n) := by
  cases sh
  · exact beginStepA_steady p n
  · exact beginStepB_steady p n

theorem stepConfirmed_steady (p : SpindleParams) (n : Node) : Steady n (stepConfirmed p n) := by
  unfold stepConfirmed
  split
  · exact Steady.trans (m := { n with sg := _ }) {} (beginStepB_steady p _)
  · exact Steady.trans (m := { n with sg := _ }) {} (endShift_steady p _)

theorem shiftGivenUp_steady (n : Node) : Steady n (shiftGivenUp n) :=
  Steady.trans (m := { n with sg := _ }) {} (raiseHold_steady _ _ _)

theorem neutralReached_steady (p : SpindleParams) (n : Node) : Steady n (neutralReached p n) :=
  .ite ((Steady.trans (m := { n with sg := _ }) {} (raiseWarn_steady _ _ _)).trans (beginStep_steady p _ _))
    (shiftGivenUp_steady n)

theorem faultRunTick_steady (n : Node) : Steady n (faultRunTick n) :=
  .ite (Steady.trans (m := { n with sg := _ }) {} (raiseHold_steady _ _ _)) {}

theorem speedTick_steady (p : SpindleParams) (n : Node) : Steady n (speedTick p n) := by
  refine Steady.trans (m := faultRunTick _) ?_ {}
  exact Steady.trans {} (faultRunTick_steady _)

theorem atRestTest_steady (p : SpindleParams) (n : Node) : Steady n (atRestTest p n) :=
  .ite (.ite (Steady.trans (m := { n with sg := _ }) {} (beginStepA_steady p _)) (.ite {} (.refl n))) (.refl n)

theorem gearLost_steady (r : Gear) (n : Node) : Steady n (gearLost r n) := raiseStop_steady _ _ n

theorem shifterConflict_steady (sh : Shifter) (n : Node) : Steady n (shifterConflict sh n) := by
  have h : Steady n (raiseHold .gearFault (shifterNumber sh)
      { n with sg := setGear .gearFault { endNudge n.sg with retries := 0 } }) :=
    Steady.trans (m := { n with sg := _ }) {} (raiseHold_steady _ _ _)
  unfold shifterConflict
  simp only
  split
  · exact .ite (h.trans (gearLost_steady _ _)) h
  · exact h

theorem conflictTest_steady (sh : Shifter) (before : SG) (n : Node) : Steady n (conflictTest sh before n) :=
  .ite (shifterConflict_steady sh n) (.refl n)

theorem patternTo_steady (p : SpindleParams) (g : GearState) (n : Node) : Steady n (patternTo p g n) := {}

theorem patternWatch_steady (p : SpindleParams) (n : Node) : Steady n (patternWatch p n) := by
  have h (r : Gear) : Steady n (if turning n.sg then gearLost r n else n) := .ite (gearLost_steady r n) (.refl n)
  unfold patternWatch
  split
  · exact .ite (.refl n) ((h _).trans (patternTo_steady p _ _))
  · exact (h _).trans (patternTo_steady p _ _)
  · exact patternTo_steady p _ n
  · exact .refl n

theorem gearTest_steady (p : SpindleParams) (n : Node) : Steady n (gearTest p n) := by
  unfold gearTest
  split
  · exact .ite (stepConfirmed_steady p n) (.refl n)
  · exact .ite (stepConfirmed_steady p n) (.refl n)
  · exact .ite (neutralReached_steady p n) (.refl n)
  · exact .refl n
  · exact .refl n
  · exact patternWatch_steady p n
  · exact patternWatch_steady p n

theorem shiftTimerOut_steady (n : Node) : Steady n (shiftTimerOut n) := by
  unfold shiftTimerOut
  split
  · exact {}
  · exact {}
  · exact shiftGivenUp_steady n
  · exact .refl n

theorem gearTick_steady (p : SpindleParams) (n : Node) : Steady n (gearTick p n) := by
  have hs : Steady n { n with sg := sensorsTick n.pins.shifter (shiftTimers n.sg) } := {}
  have hk := ((hs.trans (conflictTest_steady .a n.sg _)).trans (conflictTest_steady .b n.sg _)).trans
    (gearTest_steady p _)
  exact .ite (hk.trans (shiftTimerOut_steady _)) hk

theorem spindleTick_steady (n : Node) : Steady n (spindleTick n) := by
  unfold spindleTick
  split
  · exact ((speedTick_steady _ n).trans (gearTick_steady _ _)).trans (atRestTest_steady _ _)
  · exact .refl n

theorem obeyStart_steady (p : SpindleParams) (r : Nat) (ccw : Bool) (n : Node) : Steady n (obeyStart p r ccw n) :=
  ((noteSettled_steady _ _ n).trans {}).trans (dropCommand_steady p _)

theorem obeyStop_steady (p : SpindleParams) (n : Node) : Steady n (obeyStop p n) := by
  have h (sg : SG) : Steady n (dropCommand p (clearCond .speedLimited { n with sg := sg })) :=
    (Steady.trans (m := { n with sg := sg }) {} (clearCond_steady _ _)).trans (dropCommand_steady p _)
  exact .ite ((h _).trans (raiseHold_steady _ _ _)) (h _)

theorem spindleStart_steady (p : SpindleParams) (r : Nat) (ccw : Bool) (n : Node) :
    Steady n (spindleStart p r ccw n) :=
  .ite (.refl n) (.ite (obeyStop_steady p n) (obeyStart_steady p r ccw n))

theorem sgFrame_steady {f : SpindleParams → Node → Node} (h : ∀ p m, Steady m (f p m)) (n : Node) :
    Steady n (sgFrame f n) := by
  unfold sgFrame
  split
  · exact h _ n
  · exact .refl n

theorem acceptSpindle_steady (form : Byte) (speed : BitVec 16) (dir value : Byte) (n : Node) :
    Steady n (acceptSpindle form speed dir value n) := by
  unfold acceptSpindle
  refine .ite ?_ (.ite ?_ (.ite ?_ (.refl n)))
  · split
    · exact ((sgFrame_steady (fun p => spindleStart_steady p _ _) n).trans (m := sgFrame _ n)
        {}).trans (manualSpeed_steady _ _ _)
    · exact {}
  · exact (sgFrame_steady obeyStop_steady n).trans {}
  · exact (sgFrame_steady (fun _ _ => {}) n).trans (.ite {} (.refl _))

theorem spindleFaultclr_steady (n : Node) : Steady n (spindleFaultclr n) := by
  unfold spindleFaultclr
  split
  · exact .ite (gearFromPattern_steady _ n) (.refl n)
  · exact .refl n

/-! ### The coolant unit (chapter 9) -/

/-- A change of the coolant unit followed by the test for a lost circuit. -/
theorem withCl_loss_steady (cl : CL) (n : Node) : Steady n (clLoss { n with cl := cl }) :=
  (withCl_loss_acts cl n).steady

theorem setTsc_steady (s : CircuitState) (t b : Nat) (n : Node) : Steady n (setTsc s t b n) :=
  (setTsc_acts s t b n).steady

theorem tscStop_steady (n : Node) : Steady n (tscStop n) := (tscStop_acts n).steady

theorem floodStop_steady (n : Node) : Steady n (floodStop n) := (floodStop_acts n).steady

theorem tscDegrade_steady (p : CoolantParams) (n : Node) : Steady n (tscDegrade p n) :=
  (((setTsc_steady _ _ _ n).trans (raiseWarn_steady _ _ _)).trans {}).trans (askClamp_steady _)

theorem tankLowRaised_steady (n : Node) : Steady n (tankLowRaised n) :=
  ((raiseWarn_steady _ _ n).trans (floodStop_steady _)).trans (tscInterlockTest_steady _)

theorem tankLowCleared_steady (n : Node) : Steady n (tankLowCleared n) :=
  (clearCond_steady _ n).trans (tscInterlockTest_steady _)

theorem tankTo_steady (l : Level) (n : Node) : Steady n (tankTo l n) := by
  have h : Steady n { n with cl := { n.cl with tank := l } } := {}
  exact .ite (h.trans (tankLowRaised_steady _)) (.ite (h.trans (tankLowCleared_steady _)) h)

theorem switchesTick_steady (n : Node) : Steady n (switchesTick n) := (tankTo_steady _ n).trans {}

theorem circuitTimers_steady (n : Node) : Steady n (circuitTimers n) := .ite {} (.refl n)

theorem compareFlood_steady (n : Node) : Steady n (compareFlood n) :=
  .ite (.ite (withCl_loss_steady _ n) (.refl n)) (.ite (floodStop_steady n) (.refl n))

theorem compareTsc_steady (p : CoolantParams) (n : Node) : Steady n (compareTsc p n) :=
  .ite (.ite (setTsc_steady _ _ _ n) (.refl n)) (.ite (tscStop_steady n) (.refl n))

theorem compareAir_steady (n : Node) : Steady n (compareAir n) :=
  .ite (.ite (withCl_loss_steady _ n) (.refl n)) (.ite (airOff_acts n).steady (.refl n))

theorem floodTick_steady (n : Node) : Steady n (floodTick n) := by
  unfold floodTick
  split
  · exact compareFlood_steady n
  · exact .ite (floodStop_steady n) (.ite (withCl_loss_steady _ n) (.ite (withCl_loss_steady _ n) (.refl n)))
  · exact .ite (floodStop_steady n) (.ite (withCl_loss_steady _ n) (.refl n))
  · exact .ite (withCl_loss_steady _ n) (.refl n)
  · exact .refl n
  · exact .refl n

theorem tscTick_steady (p : CoolantParams) (n : Node) : Steady n (tscTick p n) := by
  unfold tscTick
  refine .ite (tscStop_steady n) ?_
  split
  · exact compareTsc_steady p n
  · exact .ite (setTsc_steady _ _ _ n) (.ite (setTsc_steady _ _ _ n) (.refl n))
  · exact .ite (Steady.trans (m := { n with cl := _ }) {} (tscDegrade_steady p _)) {}
  · exact .ite (setTsc_steady _ _ _ n) (.refl n)
  · exact .ite (setTsc_steady _ _ _ n) (.refl n)
  · exact .refl n

theorem pressureTick_steady (p : CoolantParams) (n : Node) : Steady n (pressureTick p n) := {}

theorem lossRunTick_steady (p : CoolantParams) (n : Node) : Steady n (lossRunTick p n) := {}

theorem coolantTick_steady (n : Node) : Steady n (coolantTick n) := by
  unfold coolantTick
  split
  · rename_i p _
    refine Steady.trans ?_ (clLoss_steady _)
    refine Steady.trans ?_ (compareAir_steady _)
    refine Steady.trans ?_ (tscTick_steady p _)
    refine Steady.trans ?_ (floodTick_steady _)
    refine Steady.trans ?_ (lossRunTick_steady p _)
    exact (switchesTick_steady n).trans (pressureTick_steady p _)
  · exact .refl n

theorem compareAll_steady (n : Node) : Steady n (compareAll n) := by
  unfold compareAll
  split
  · exact ((compareFlood_steady n).trans (compareTsc_steady _ _)).trans (compareAir_steady _)
  · exact .refl n

theorem clampRepeat_steady (n : Node) : Steady n (clampRepeat n) := .ite (askClamp_steady n) (.refl n)

theorem obeyPart_steady (c : Circ) (part : Option Bool) (n : Node) : Steady n (obeyPart c part n) := by
  unfold obeyPart
  split
  · exact .refl n
  · exact .ite (.refl n) {}
  · exact .ite {} {}

theorem acceptCoolant_steady (f t a : Byte) (n : Node) : Steady n (acceptCoolant f t a n) := by
  unfold acceptCoolant
  split
  · refine Steady.trans (.ite ?_ (.refl n)) {}
    exact ((obeyPart_steady .flood _ n).trans (obeyPart_steady .tsc _ _)).trans (obeyPart_steady .air _ _)
  · exact {}

theorem coolantFaultclr_steady (n : Node) : Steady n (coolantFaultclr n) := by
  have h : Steady n (if n.cl.flood = .fault then floodOff n else n) := .ite (withCl_loss_steady _ n) (.refl n)
  exact .ite (.ite (.ite (h.trans (setTsc_steady _ _ _ _)) (h.trans (setTsc_steady _ _ _ _))) h) (.refl n)

/-! ### The pendant unit (chapter 10) -/

theorem wheelGate_steady (n : Node) : Steady n (wheelGate n) := .ite {} (.refl n)

theorem selectorGate_steady (before : PD) (n : Node) : Steady n (selectorGate before n) := .ite (.refl n) {}

theorem jogLostTest_steady (n : Node) : Steady n (jogLostTest n) := .ite {} (.refl n)

theorem jogRequest_steady (n : Node) : Steady n (jogRequest n) :=
  .ite (Steady.trans (m := { n with pd := _ }) {} (ask_steady _ _)) (.refl n)

theorem ownJogAccepted_steady (t : Bool) (n : Node) : Steady n (ownJogAccepted t n) := by
  unfold ownJogAccepted
  split
  · exact .ite {} (.refl n)
  · exact .refl n

theorem knobRequest_steady (n : Node) : Steady n (knobRequest n) :=
  .ite (Steady.trans (m := { n with pd := _ }) {} (ask_steady _ _)) (.refl n)

theorem spindleKnobRequest_steady (n : Node) : Steady n (spindleKnobRequest n) :=
  .ite (Steady.trans (m := { n with pd := _ }) {} (ask_steady _ _)) (.refl n)

theorem panelRequest_steady (n : Node) : Steady n (panelRequest n) := by
  unfold panelRequest
  split
  · exact .refl n
  · exact .ite (.refl n) ((withdrawPending_steady _ n).trans (ask_steady _ _))

theorem pressed_steady (b : Button) (n : Node) : Steady n (pressed b n) := by
  cases b with
  | cycleStart => exact .ite (ask_steady _ n) (.refl n)
  | feedHold => exact Steady.trans (m := { n with pd := _ }) {} (withdrawPending_steady _ _)
  | spindleStop => exact ask_steady _ n
  | reset => exact .ite (.refl n) (ask_steady _ n)
  | spindleStart =>
    change Steady n (pressStart n)
    unfold pressStart
    split
    · exact .ite (.refl n) (ask_steady _ n)
    · exact .refl n
  | coolant =>
    change Steady n (pressCoolant n)
    unfold pressCoolant
    split
    · exact ask_steady _ n
    · exact ask_steady _ n
    · exact .ite (.refl n) (ask_steady _ n)
    · exact .ite (.refl n) (ask_steady _ n)
    · exact .ite (.refl n) (ask_steady _ n)
    · exact .refl n
    · exact .refl n
  | ref =>
    change Steady n (pressRef n)
    unfold pressRef
    split
    · exact ask_steady _ n
    · exact .refl n

theorem feedHoldTick_steady (n : Node) : Steady n (feedHoldTick n) := .ite (ask_steady _ n) (.refl n)

theorem buttonTo_steady (b : Button) (d : Bool) (n : Node) : Steady n (buttonTo b d n) :=
  .ite (Steady.trans (m := { n with pd := _ }) {} (pressed_steady b _)) {}

theorem pressesTick_steady (before : PD) (n : Node) : Steady n (pressesTick before n) := by
  unfold pressesTick
  generalize buttonOrder = bs
  induction bs generalizing n with
  | nil => exact .refl n
  | cons b bs ih => exact Steady.trans (.ite (pressed_steady b n) (.refl n)) (ih _)

theorem pendantTick_steady (n : Node) : Steady n (pendantTick n) := by
  unfold pendantTick
  refine .ite ?_ (.refl n)
  refine Steady.trans ?_ (pressesTick_steady n.pd _)
  refine Steady.trans ?_ (panelRequest_steady _)
  refine Steady.trans ?_ (spindleKnobRequest_steady _)
  refine Steady.trans ?_ (knobRequest_steady _)
  refine Steady.trans ?_ (jogRequest_steady _)
  refine Steady.trans ?_ (jogLostTest_steady _)
  refine Steady.trans ?_ (wheelGate_steady _)
  exact Steady.trans (m := { n with pd := _ }) {} (selectorGate_steady n.pd _)

theorem controlTo_steady (r : ControlReading) (n : Node) : Steady n (controlTo r n) := by
  cases r with
  | mode m => exact {}
  | axisSel x =>
    exact (Steady.trans (m := { n with pd := _ }) {} (selectorGate_steady n.pd _)).trans (wheelGate_steady _)
  | increment i =>
    exact (Steady.trans (m := { n with pd := _ }) {} (selectorGate_steady n.pd _)).trans (wheelGate_steady _)
  | enable e => exact Steady.trans (m := { n with pd := _ }) {} (wheelGate_steady _)
  | button b d => exact buttonTo_steady b d n

end Sys2Proof.Machine
end

section
/-! PROOF. The line controller, the start-up logic, the tick and every command keep the bounds. -/

namespace Sys2Proof.Machine

-- The text is checked as one file under a data limit that many waiting threads would exceed.
set_option Elab.async false

/-! ### The line controller (chapter 2) -/

/-- A line controller with no longer queue and each count kept or within its bound. -/
theorem withLc_steady (x : LC) (n : Node) (hq : x.queue.length ≤ n.lc.queue.length := by exact le_rfl)
    (hs : n.lc.send ≤ 255 → x.send ≤ 255 := by exact id) (hr : n.lc.recv ≤ 255 → x.recv ≤ 255 := by exact id)
    (ht : n.lc.tally ≤ 65535 → x.tally ≤ 65535 := by exact id) : Steady n { n with lc := x } where
  line := fun ⟨q, s, r, t⟩ => ⟨hq.trans q, hs s, hr r, ht t⟩

/-- The error tally stops at 65,535 (R21). -/
theorem noteLineError_tally (c : ErrCode) (lc : LC) : (noteLineError c lc).tally ≤ 65535 := by
  simp [noteLineError, satAdd_eq_min]

theorem length_markHead (pace : Payload) (q : List TxEntry) : (markHead pace q).length = q.length := by
  induction q with
  | nil => rfl
  | cons e q ih => unfold markHead; split <;> simp [ih]

theorem length_endSending_le (back : TxEntry → TxEntry) (q : List TxEntry) :
    (endSending back q).length ≤ q.length := by
  simpa [endSending] using List.length_filter_le _ q

theorem beginAttempt_steady (n : Node) : Steady n (beginAttempt n) :=
  withLc_steady _ n (length_markHead _ _).le

theorem lineWarnTest_steady (n : Node) : Steady n (lineWarnTest n) :=
  .ite (clearCond_steady _ n) (.ite (.refl n) (raiseWarn_steady _ _ n))

theorem recount_steady (n : Node) : Steady n (recount n) := (withLc_steady _ n).trans (lineWarnTest_steady _)

theorem enterOff_steady (n : Node) : Steady n (enterOff n) :=
  withLc_steady _ n (Nat.zero_le _) id id fun _ => noteLineError_tally _ _

/-- The send count rises by 4 where it stays within 255, and stands at 255 at the entry into OFF (R17). -/
theorem countFailure_steady (n : Node) : Steady n (countFailure n) := by
  unfold countFailure
  split_ifs with h
  · exact ((withLc_steady { n.lc with send := 255 } n le_rfl fun _ => le_rfl).trans (enterOff_steady _)).trans
      (recount_steady _)
  · exact (withLc_steady { n.lc with send := n.lc.send + 4 } n le_rfl fun _ => not_lt.1 h).trans (recount_steady _)

theorem askJoining_steady (n : Node) : Steady n (askJoining n) :=
  Steady.trans (m := { n with su := _ }) {} (ask_steady _ _)

theorem firstFrames_steady (n : Node) : Steady n (firstFrames n) := by
  have hs : Steady n (if hasStop n.cu.own && !txHas isStopall n then ask .stopall n else n) :=
    .ite (ask_steady _ n) (.refl n)
  unfold firstFrames
  generalize (if hasStop n.cu.own && !txHas isStopall n then ask .stopall n else n) = s at hs
  have ha : Steady n (askJoining { s with su := { s.su with firstActive := false } }) :=
    (hs.trans {}).trans (askJoining_steady _)
  exact .ite (ha.trans (ask_steady _ _)) ha

theorem enterActive_steady (n : Node) : Steady n (enterActive n) := by
  have hm : Steady n { n with lc := { n.lc with state := .active, recoveryMark := false } } := withLc_steady _ n
  exact Steady.trans (.ite (hm.trans (firstFrames_steady _)) (.ite (hm.trans (askJoining_steady _)) hm))
    (recount_steady _)

theorem recoveryOver_steady (n : Node) : Steady n (recoveryOver n) := by
  refine Steady.trans ?_ (recount_steady _)
  refine Steady.trans (m := { n with lc := _, su := _ }) ?_ {}
  exact { line := fun ⟨_, _, _, t⟩ => ⟨Nat.zero_le _, Nat.zero_le _, Nat.zero_le _, t⟩ }

theorem recoveryTick_steady (n : Node) : Steady n (recoveryTick n) := by
  unfold recoveryTick
  split
  · exact .ite (recoveryOver_steady n) (withLc_steady _ n)
  · exact .refl n

theorem contentionLost_steady (n : Node) : Steady n (contentionLost n) :=
  withLc_steady _ n (length_endSending_le _ _)

theorem refusedBusy_steady (n : Node) : Steady n (refusedBusy n) :=
  withLc_steady _ n (length_endSending_le _ _)

theorem errorRun_eq (lc : LC) : ∃ k, errorRun lc = { lc with errorRun := k } := by
  unfold errorRun
  split
  · exact ⟨_, rfl⟩
  · exact ⟨lc.errorRun, rfl⟩

theorem errorRun_steady (n : Node) : Steady n { n with lc := errorRun n.lc } := by
  obtain ⟨k, hk⟩ := errorRun_eq n.lc
  rw [hk]
  exact withLc_steady _ n

theorem noteLineError_steady (c : ErrCode) (n : Node) : Steady n { n with lc := noteLineError c n.lc } :=
  withLc_steady _ n le_rfl id id fun _ => noteLineError_tally c n.lc

theorem bitErrorFound_steady (q : Nat) (n : Node) : Steady n (bitErrorFound q n) :=
  ((withLc_steady { n.lc with bitError := true, txBits := [], quiet := q } n).trans
    (noteLineError_steady .bit _)).trans (errorRun_steady _)

/-- The queue with the failed attempt of the entry in transmission counted (R11). -/
def countedQueue (q : List TxEntry) : List TxEntry :=
  q.map fun e => if e.inTx then { e with failed := e.failed + 1 } else e

/-- The entry in transmission has reached its retry limit with the failed attempt (R11). -/
def attemptSpent (q : List TxEntry) : Bool := (countedQueue q).any fun e => e.inTx && spent e

/-- The queue after a failure (R11, R14). -/
def failedQueue (q : List TxEntry) : List TxEntry :=
  if attemptSpent q then (countedQueue q).filter fun e => !e.inTx else endSending id (countedQueue q)

/-- The error notes of a failure: OBJECTED where no bit error was noted before, then ABANDONED (R11, R21). -/
def failedNotes (lc : LC) : LC :=
  let l := if lc.bitError then lc else noteLineError .objected lc
  if attemptSpent lc.queue then noteLineError .abandoned l else l

theorem attemptFailed_eq (n : Node) :
    attemptFailed n = countFailure { n with lc :=
      { attemptOver (failedQueue n.lc.queue) (failedNotes n.lc) with
        capture := none, decoding := false, quiet := if n.lc.bitError then n.lc.quiet else 0 } } := by
  unfold attemptFailed failedNotes
  cases n.lc.bitError <;> rfl

/-- The error notes of a failure touch the tally and the last error code alone (R21). -/
theorem failedNotes_eq (lc : LC) :
    failedNotes lc = { lc with tally := (failedNotes lc).tally, lastErr := (failedNotes lc).lastErr } := by
  simp only [failedNotes]
  split_ifs <;> rfl

theorem failedNotes_tally (lc : LC) (h : lc.tally ≤ 65535) : (failedNotes lc).tally ≤ 65535 := by
  simp only [failedNotes]
  split_ifs
  · exact noteLineError_tally _ _
  · exact noteLineError_tally _ _
  · exact h
  · exact noteLineError_tally _ _

theorem length_failedQueue_le (q : List TxEntry) : (failedQueue q).length ≤ q.length := by
  have h : (countedQueue q).length = q.length := List.length_map _
  unfold failedQueue
  split
  · exact (List.length_filter_le _ _).trans h.le
  · exact (length_endSending_le _ _).trans h.le

theorem attemptFailed_steady (n : Node) : Steady n (attemptFailed n) := by
  rw [attemptFailed_eq, failedNotes_eq]
  refine Steady.trans ?_ (countFailure_steady _)
  exact withLc_steady _ n (length_failedQueue_le _) id id (failedNotes_tally _)

theorem attemptSucceeded_steady (n : Node) : Steady n (attemptSucceeded n) := by
  unfold attemptSucceeded
  split
  · refine withLc_steady _ n (List.length_filter_le _ _) fun h => ?_
    simp only
    split <;> omega
  · exact .refl n

theorem leaveFrame_steady (q : Nat) (n : Node) : Steady n (leaveFrame q n) := withLc_steady _ n

theorem passedOver_steady (q : Nat) (n : Node) : Steady n (passedOver q n) := withLc_steady _ n

/-- The receive count rises by 2 and stops at 255 (R17). -/
theorem receiveError_steady (c : ErrCode) (q : Nat) (n : Node) : Steady n (receiveError c q n) := by
  have hm : Steady n (leaveFrame q { n with lc := noteLineError c n.lc }) :=
    (noteLineError_steady c n).trans (leaveFrame_steady q _)
  refine .ite (hm.trans (withLc_steady _ _)) (hm.trans (Steady.trans ?_ (recount_steady _)))
  exact withLc_steady _ _ le_rfl id fun _ => by simp [satAdd_eq_min]

theorem partwayError_steady (c : ErrCode) (q : Nat) (n : Node) : Steady n (partwayError c q n) :=
  (errorRun_steady n).trans (receiveError_steady c q _)

theorem checkTimeError_steady (c : ErrCode) (q : Nat) (n : Node) : Steady n (checkTimeError c q n) :=
  (receiveError_steady c q n).trans (withLc_steady _ _)

theorem atPhase_steady (k : Phase) (n : Node) : Steady n (atPhase k n) := {}

theorem brokenOff_steady (t : Trail) {f : Nat → Node → Node} (h : ∀ q n, Steady n (f q n)) (n : Node) :
    Steady n (brokenOff t f n) :=
  .ite (.refl n) (.ite ((atPhase_steady _ n).trans (h _ _)) ((atPhase_steady _ n).trans (passedOver_steady _ _)))

theorem notAccepted_steady (rx : Rx) (n : Node) : Steady n (notAccepted rx n) := by
  have h : Steady n (ownOutcome rx n) := .ite (.refl n) (.ite (attemptFailed_steady n) (refusedBusy_steady n))
  exact (h.trans (leaveFrame_steady _ _)).trans (atPhase_steady _ _)

theorem joinedFrame_steady (rx : Rx) {f : Node → Node} (n : Node) (h : Steady n (f n)) :
    Steady n (joinedFrame rx f n) := .ite h ((passedOver_steady _ n).trans (atPhase_steady _ _))

theorem takeFrame_steady (rx : Rx) {f : Node → Node} (n : Node) (h : Steady n (f n)) : Steady n (takeFrame rx f n) :=
  .ite h (notAccepted_steady rx n)

theorem heardFrame_steady (rx : Rx) {f : Node → Node} (n : Node) (h : Steady n (f n)) :
    Steady n (heardFrame rx f n) := joinedFrame_steady rx n (takeFrame_steady rx n h)

theorem frameOver_steady (rx : Rx) (n : Node) : Steady n (frameOver rx n) :=
  (leaveFrame_steady _ n).trans (atPhase_steady _ _)

theorem countAccepted_steady (rx : Rx) (n : Node) : Steady n (countAccepted rx n) := by
  refine .ite ((attemptSucceeded_steady n).trans (recount_steady _)) (.ite (.refl n) ?_)
  refine Steady.trans ?_ (recount_steady _)
  exact withLc_steady _ n le_rfl id fun h => (Nat.sub_le _ _).trans h

theorem lineAccept_steady (rx : Rx) (n : Node) : Steady n (lineAccept rx n) := by
  have h := (frameOver_steady rx n).trans (countAccepted_steady rx _)
  exact .ite (h.trans (enterActive_steady _)) h

theorem nodeClash_steady (n : Node) : Steady n (nodeClash n) := raiseStop_steady _ _ n

theorem accepted_steady (rx : Rx) (n : Node) : Steady n (accepted rx n) :=
  (lineAccept_steady rx n).trans (.ite (nodeClash_steady _) (.ite (heard_steady _ _) (.refl _)))

theorem busyObjection_steady (rx : Rx) (n : Node) : Steady n (busyObjection rx n) :=
  ((leaveFrame_steady _ n).trans (atPhase_steady _ _)).trans (withLc_steady _ _)

theorem driveBit_eq (lc : LC) : ∃ q j k b, driveBit lc =
    { lc with quiet := q, joined := j, errorRun := k, txBits := b } := by
  unfold driveBit
  split
  · exact ⟨_, _, _, lc.txBits, rfl⟩
  · exact ⟨_, _, lc.errorRun, _, rfl⟩

theorem lineBit_steady (n : Node) : Steady n (lineBit n) := by
  have h : Steady n (if attemptDue n then beginAttempt n else n) := .ite (beginAttempt_steady n) (.refl n)
  unfold lineBit
  generalize (if attemptDue n then beginAttempt n else n) = b at h
  obtain ⟨q, j, k, x, hd⟩ := driveBit_eq b.lc
  simp only [hd]
  exact h.trans (withLc_steady _ _)

/-! ### After every command, and the tick -/

theorem noteChange_steady (n : Node) : Steady n (noteChange n) := .ite (.refl n) {}

theorem changeState_steady (n : Node) : Steady n (changeState n) := .ite (askState_steady n) (.refl n)

theorem finish_steady (n : Node) : Steady n (finish n) :=
  ((noteChange_steady n).trans (changeState_steady _)).trans {}

theorem chainTick_steady (n : Node) : Steady n (chainTick n) := by
  refine .ite (.ite {} ?_) (.ite (.refl n) (.ite ?_ {}))
  · exact Steady.trans (m := { n with cu := _ }) {} (raiseStop_steady _ _ _)
  · exact Steady.trans (m := { n with cu := _ }) {} (clearCond_steady _ _)

theorem joinTick_steady (n : Node) : Steady n (joinTick n) := .ite (askJoining_steady n) (.refl n)

theorem stateTick_steady (n : Node) : Steady n (stateTick n) := by
  have h : Steady n { n with nt := { n.nt with stateTimer := n.nt.stateTimer + 1 } } := {}
  exact .ite (.ite (h.trans (askState_steady _)) h) (.refl n)

theorem eligibleTick_steady (n : Node) : Steady n (eligibleTick n) :=
  withLc_steady _ n (List.length_map _).le

theorem tickStart_steady (inputs : Pins) (n : Node) : Steady n (tickStart inputs n) := by
  refine Steady.trans ?_ (silenceTicks_steady 16 _)
  refine Steady.trans ?_ (applyDueBy_steady keepsSteady_bare _)
  refine Steady.trans (m := joinTick _) ?_ {}
  refine Steady.trans ?_ (joinTick_steady _)
  refine Steady.trans (m := circuitTimers _) ?_ {}
  refine Steady.trans ?_ (circuitTimers_steady _)
  refine Steady.trans ?_ (eligibleTick_steady _)
  refine Steady.trans ?_ (countTick_steady _)
  exact (historyEnd_steady n).trans (endOfTick_steady _)

theorem tickInputs_steady (n : Node) : Steady n (tickInputs n) :=
  ((chainTick_steady n).trans (startTick_steady _)).trans (pendantTick_steady _)

theorem tickHead_steady (n : Node) : Steady n (tickHead n) :=
  (((((headTimerTick_steady n).trans (clActHead_steady _)).trans (clampRepeat_steady _)).trans
    (verdictTick_steady _)).trans (sgActHead_steady _)).trans (goTest_steady _)

theorem tickRequests_steady (n : Node) : Steady n (tickRequests n) :=
  ((heldTest_steady n).trans (askStopall_steady _)).trans (.ite (feedHoldTick_steady _) (.refl _))

theorem tickPath_steady (n : Node) : Steady n (tickPath n) :=
  ((paceTick_steady n).trans (pathTick_steady _)).trans (historyTick_steady _)

theorem tickMachine_steady (n : Node) : Steady n (tickMachine n) :=
  ((forAxes_steady axisTick_steady n).trans (spindleTick_steady _)).trans (coolantTick_steady _)

theorem tickEnd_steady (n : Node) : Steady n (tickEnd n) := by
  have h : Steady n (stopEndTest n) := .ite (stopReached_steady n) (.refl n)
  exact ((h.trans (adoptionTest_steady _)).trans (recoveryTick_steady _)).trans (stateTick_steady _)

theorem workTick_steady (inputs : Pins) (n : Node) : Steady n (workTick inputs n) :=
  (((((tickStart_steady inputs n).trans (tickInputs_steady _)).trans (tickHead_steady _)).trans
    (tickRequests_steady _)).trans (tickPath_steady _)).trans (tickMachine_steady _) |>.trans (tickEnd_steady _)

end Sys2Proof.Machine
end

section
/-! PROOF. Every step keeps the bounds: the commands one by one, a full reset, the end of LOADING and the bit time. -/

namespace Sys2Proof.Machine

-- The text is checked as one file under a data limit that many waiting threads would exceed.
set_option Elab.async false

/-! ### The frames' operations -/

theorem acceptStopall_steady (n : Node) : Steady n (acceptStopall n) := by
  refine Steady.trans (m := forAxes axisStop _) ?_ {}
  refine Steady.trans ?_ (forAxes_steady axisStop_steady _)
  refine Steady.trans ?_ (pathStop_steady _)
  refine Steady.trans ?_ (setLatch_acts _).steady
  exact (purgeTx_steady n).trans {}

theorem keepFrame_steady (rx : Rx) (s : Stamp) (p : Payload) (c : Moment) (n : Node) :
    Steady n (keepFrame rx s p c n) := placeFrame_steady _ _ n

theorem stamped_steady (rx : Rx) (s : Stamp) {use : Moment → Node → Node} (h : ∀ c n, Steady n (use c n))
    (c : Moment) (n : Node) : Steady n (stamped rx s use c n) :=
  (alignTimeBy_steady keepsSteady_bare rx c s n).trans (h _ _)

theorem acceptHold_steady (rx : Rx) (s : Stamp) (c : Moment) (n : Node) : Steady n (acceptHold rx s c n) := by
  refine Steady.trans ?_ (keepFrame_steady rx s _ _ _)
  refine Steady.trans ?_ (alignTimeBy_steady (keepsSteady_beneath _) rx c s _)
  exact .ite (.refl n) (withdrawPending_steady _ n)

theorem acceptGo_steady (rx : Rx) (s : Stamp) (num : BlockNo) (c : Moment) (n : Node) :
    Steady n (acceptGo rx s num c n) := by
  unfold acceptGo
  split
  · exact .refl n
  · exact raiseHold_steady _ _ n
  · exact (onEntry_steady _ _ n).trans (placeFrame_steady _ _ _)

theorem goWithdraw_steady (rx : Rx) (num : BlockNo) (n : Node) : Steady n (goWithdraw rx num n) :=
  .ite (.refl n) (withdrawNamed_steady _ n)

theorem acceptReady_steady (rx : Rx) (num : BlockNo) (v a : Byte) (n : Node) :
    Steady n (acceptReady rx num v a n) := by
  unfold acceptReady
  split
  · exact recordReady_steady _ _ _ n
  · exact .refl n

theorem blockArrives_steady (rx : Rx) (b : BlockBody) (n : Node) : Steady n (blockArrives rx b n) :=
  .ite (busyObjection_steady rx n) (takeFrame_steady rx n
    ((accepted_steady rx n).trans (.ite (acceptBlock_steady b _) (.refl _))))

theorem acceptOverride_steady (rx : Rx) (s : Stamp) (f v : Byte) (c : Moment) (n : Node) :
    Steady n (acceptOverride rx s f v c n) :=
  .ite (Steady.trans (.ite {} (.refl n)) (keepFrame_steady rx s _ c _)) (.refl n)

theorem acceptPace_steady (rx : Rx) (s : Stamp) (p : Payload) (c : Moment) (n : Node) :
    Steady n (acceptPace rx s p c n) := .ite (.refl n) (keepFrame_steady rx s p c n)

theorem toChannel_steady (axis : Byte) {f : Chan → AxisParams → Node → Node} (h : ∀ c p m, Steady m (f c p m))
    (n : Node) : Steady n (toChannel axis f n) := by
  unfold toChannel
  split
  · exact h _ _ n
  · exact .refl n

theorem acceptJogFrame_steady (rx : Rx) (a i d t : Byte) (n : Node) : Steady n (acceptJogFrame rx a i d t n) := by
  unfold acceptJogFrame
  split
  · exact .ite (.refl n) (Steady.trans (.ite (ownJogAccepted_steady _ n) (.refl n))
      (toChannel_steady a (acceptJog_steady _ _ _ _) _))
  · exact .refl n

theorem acceptPanel_steady (rx : Rx) (b : PanelBody) (n : Node) : Steady n (acceptPanel rx b n) := by
  unfold acceptPanel
  split
  · exact .ite (.refl n) (writePanel_steady _ _ n)
  · exact .refl n

theorem acceptState_steady (rx : Rx) (sent : Option Nat) (b : StateBody) (n : Node) :
    Steady n (acceptState rx sent b n) :=
  .ite (.refl n) (Steady.trans (.ite (clearReported_steady sent n) (.refl n)) (writeState_steady _ b _))

theorem forgetJoining_steady (i : Nat) (b : AnnounceBody) (n : Node) : Steady n (forgetJoining i b n) :=
  .ite ((forgetJogs_unit i n).steady.trans (forgetVerdict_steady i _)) (.refl n)

theorem answerAnnounce_steady (n : Node) : Steady n (answerAnnounce n) := .ite (.refl n) (ask_steady _ n)

theorem peerAnnounce_steady (rx : Rx) (b : AnnounceBody) (n : Node) : Steady n (peerAnnounce rx b n) := by
  have hm : Steady n (if fromPeer rx n then writeAnnounce rx.sender.val b n else forgetJoining rx.sender.val b n) :=
    .ite (writeAnnounce_steady _ b n) (forgetJoining_steady _ b n)
  unfold peerAnnounce
  generalize (if fromPeer rx n then writeAnnounce rx.sender.val b n else forgetJoining rx.sender.val b n) = m at hm
  have hk : Steady n (if announceJoining b then pendantRejoin m else m) := .ite (hm.trans (.ite {} (.refl m))) hm
  exact .ite (hk.trans (answerAnnounce_steady _)) hk

theorem ownAnnounce_steady (b : AnnounceBody) (n : Node) : Steady n (ownAnnounce b n) :=
  .ite (((forgetJoining_steady _ b n).trans {}).trans (askState_steady _)) (.refl n)

theorem announceArrives_steady (rx : Rx) (b : AnnounceBody) (n : Node) : Steady n (announceArrives rx b n) :=
  (lineAccept_steady rx n).trans (.ite (ownAnnounce_steady b _)
    (Steady.trans (.ite (nodeClash_steady _) (.refl _)) (peerAnnounce_steady rx b _)))

/-- A FAULTCLR leaves thirty counts of 0 (R179, R182). -/
theorem clearLatched_steady (n : Node) : Steady n (clearLatched n) where
  counts := fun _ => ⟨List.length_replicate .., fun k h => by simp [List.eq_of_mem_replicate h]⟩

theorem stoppedTest_steady (n : Node) : Steady n (stoppedTest n) :=
  .ite (Steady.trans (m := { n with cu := _ }) {} (forAxes_steady axisEnable_steady _)) (.refl n)

theorem applyFaultclr_steady (n : Node) : Steady n (applyFaultclr n) := by
  refine Steady.trans ?_ (stoppedTest_steady _)
  refine Steady.trans ?_ (coolantFaultclr_steady _)
  refine Steady.trans ?_ (spindleFaultclr_steady _)
  refine Steady.trans ?_ (forAxes_steady axisFaultclr_steady _)
  exact (askWith_steady _ true n).trans (clearLatched_steady _)

/-! ### The events' operations -/

theorem blockStarts_steady (n : Node) : Steady n (blockStarts n) := by
  unfold blockStarts
  split
  · exact ((startEntry_steady _ _ n).trans (clActHead_steady _)).trans (compareAll_steady _)
  · exact .refl n

theorem dwellEnds_steady (n : Node) : Steady n (dwellEnds n) := by
  unfold dwellEnds
  split
  · exact .ite {} (.refl n)
  · exact .refl n

theorem moverArrives_steady (c : Chan) (p : AxisParams) (n : Node) : Steady n (moverArrives c p n) := by
  unfold moverArrives
  refine .ite (.refl n) ?_
  split
  · exact onAx_steady c _ n fun a => by simp [arriveMover]
  · exact (onAx_steady c (arriveMover p) n).trans (phaseArrived_steady c p _)
  · exact .refl n
  · exact .refl n

theorem moverRests_steady (c : Chan) (p : AxisParams) (n : Node) : Steady n (moverRests c p n) := by
  unfold moverRests
  refine .ite (.refl n) ?_
  split
  · exact onAx_steady c _ n fun a => by simp [stillMover]
  · exact (onAx_steady c stillMover n).trans (phaseStopped_steady c p _)
  · exact .refl n
  · exact .refl n

theorem followLimitReached_steady (c : Chan) (n : Node) : Steady n (followLimitReached c n) :=
  .ite ((onAx_steady c (fun x => { x with followRun := 4 }) n).trans (raiseStop_steady _ _ _)) (.refl n)

theorem saturationLimitReached_steady (c : Chan) (n : Node) : Steady n (saturationLimitReached c n) :=
  .ite ((onAx_steady c (fun x => { x with satRun := 50 }) n).trans (raiseHold_steady _ _ _)) (.refl n)

theorem onAxPins_steady (c : Chan) (f : AxisPins → AxisPins) (n : Node) : Steady n (onAxPins c f n) := {}

theorem driveFaultActive_steady (c : Chan) (n : Node) : Steady n (driveFaultActive c n) :=
  .ite (onAxPins_steady c _ n) ((onAxPins_steady c _ n).trans (driveFault_steady c _))

theorem driveBecomesReady_steady (c : Chan) (n : Node) : Steady n (driveBecomesReady c n) :=
  .ite ((onAxPins_steady c _ n).trans (driveTo_steady c _ _)) (onAxPins_steady c _ n)

theorem driveLosesReady_steady (c : Chan) (n : Node) : Steady n (driveLosesReady c n) :=
  .ite ((onAxPins_steady c _ n).trans (driveFault_steady c _)) (onAxPins_steady c _ n)

theorem flowOn_steady (p : CoolantParams) (n : Node) : Steady n (flowOn p n) :=
  .ite (Steady.trans (m := { n with pins := _, cl := _ }) {} (withCl_loss_steady _ _)) {}

theorem flowOff_steady (p : CoolantParams) (n : Node) : Steady n (flowOff p n) := by
  unfold flowOff
  dsimp only
  split
  · exact Steady.trans (m := { n with pins := _, cl := _ }) {} (withCl_loss_steady _ _)
  · exact Steady.trans (m := { n with pins := _, cl := _ }) {} (withCl_loss_steady _ _)
  · exact {}

theorem floodTimerOut_steady (p : CoolantParams) (n : Node) : Steady n (floodTimerOut p n) := by
  unfold floodTimerOut
  split
  · exact withCl_loss_steady _ n
  · exact withCl_loss_steady _ n
  · exact .refl n

theorem bleedOut_steady (p : CoolantParams) (n : Node) : Steady n (bleedOut p n) := by
  unfold bleedOut
  split
  · exact setTsc_steady _ _ _ n
  · exact {}
  · exact .refl n

theorem sensorTakes_steady (sh : Shifter) (pos : ForkPos) (l : Bool) (p : SpindleParams) (n : Node) :
    Steady n (sensorTakes sh pos l p n) := by
  refine .ite {} ?_
  refine Steady.trans ?_ (gearTest_steady p _)
  exact Steady.trans {} (conflictTest_steady sh _ _)

theorem restRunReached_steady (p : SpindleParams) (n : Node) : Steady n (restRunReached p n) :=
  .ite (Steady.trans (m := { n with sg := _ }) {} (atRestTest_steady p _)) (.refl n)

theorem faultRunReached_steady (p : SpindleParams) (n : Node) : Steady n (faultRunReached p n) :=
  .ite (Steady.trans (m := { n with sg := _ }) {} (raiseHold_steady _ _ _)) (.refl n)

theorem shiftExpires_steady (p : SpindleParams) (n : Node) : Steady n (shiftExpires p n) := by
  unfold shiftExpires
  split
  · exact shiftTimerOut_steady n
  · exact shiftTimerOut_steady n
  · exact .refl n

theorem neutralExpires_steady (p : SpindleParams) (n : Node) : Steady n (neutralExpires p n) := by
  unfold neutralExpires
  split
  · exact shiftTimerOut_steady n
  · exact .refl n

theorem switchLeaves_steady (e : EnablePos) (n : Node) : Steady n (switchLeaves e n) :=
  .ite (Steady.trans (m := { n with pd := _ }) {} (wheelGate_steady _)) (.refl n)

theorem wheelEdge_steady (up : Bool) (n : Node) : Steady n (wheelEdge up n) :=
  Steady.trans (m := { n with pd := _ }) {} (wheelGate_steady _)

/-! ### What a step keeps -/

/-- What the statement asks of the node before a step and the node after it. -/
structure Sound (n m : Node) : Prop where
  line : lineBounded n → lineBounded m
  counts : countsBounded n → countsBounded m
  blocks : blocksBounded n → blocksBounded m
  overrides : overridesBounded n → overridesBounded m
  slew : slewBounded n → slewBounded m
  frames : frameZeroFixed n → frameZeroFixed m
  waits : loadingWaits n → loadingWaits m

theorem Sound.refl (n : Node) : Sound n n := ⟨id, id, id, id, id, id, id⟩

theorem Sound.trans {n m k : Node} (h : Sound n m) (g : Sound m k) : Sound n k :=
  ⟨g.line ∘ h.line, g.counts ∘ h.counts, g.blocks ∘ h.blocks, g.overrides ∘ h.overrides, g.slew ∘ h.slew,
    g.frames ∘ h.frames, g.waits ∘ h.waits⟩

/-- The bounds kept make a step sound where what LOADING waits with is kept as well. -/
theorem Steady.sound {n m : Node} (h : Steady n m) (hw : loadingWaits n → loadingWaits m) : Sound n m :=
  ⟨h.line, h.counts, h.blocks, h.overrides, h.slew, h.frames, hw⟩

theorem Steady.loaded {n m : Node} (h : Steady n m) : loaded m = loaded n := by
  simp only [Machine.loaded, h.start]

/-- After the end of LOADING nothing is asked of what LOADING waits with. -/
theorem Steady.sound_of_loaded {n m : Node} (h : Steady n m) (hl : Machine.loaded n = true) : Sound n m :=
  h.sound fun _ hf => absurd (h.loaded.trans hl) (by simp [hf])

theorem live_sound {f : Node → Node} (h : ∀ n, Steady n (f n)) (n : Node) : Sound n (live f n) := by
  unfold live
  split_ifs with hl
  · exact ((h n).trans (finish_steady _)).sound_of_loaded hl
  · exact .refl n

theorem frame_sound (rx : Rx) {unit : Moment → Node → Node} (h : ∀ c n, Steady n (unit c n)) (n : Node) :
    Sound n (live (heardFrame rx fun n => unit (captureOf rx n) (accepted rx n)) n) :=
  live_sound (fun m => heardFrame_steady rx m ((accepted_steady rx m).trans (h _ _))) n

/-- A full reset leaves every bound at its start (R22, R76, R99, R126, R184). -/
theorem reset_sound (su : StartUp) (pins : Pins) (n : Node) : Sound n (Node.reset su pins) :=
  have ⟨hl, hc, hb, ho, hs, hf, _⟩ := theInvariantsHoldAtReset
  ⟨fun _ => hl, fun _ => hc, fun _ => hb, fun _ => ho, fun _ => hs, fun _ => hf, fun _ _ => ⟨rfl, rfl, rfl, rfl⟩⟩

/-! ### The end of LOADING (R28, R29) -/

theorem axisAtStart_steady (c : Chan) (p : AxisParams) (n : Node) : Steady n (axisAtStart c p n) := by
  have hm : Steady n (onAx c (clampAtStart p (axPins c n.pins)) n) := onAx_steady c _ n (clampAtStart_frames p _)
  have hd : Steady n (if (axPins c n.pins).fault then driveFault c (onAx c (clampAtStart p (axPins c n.pins)) n)
      else onAx c (clampAtStart p (axPins c n.pins)) n) := .ite (hm.trans (driveFault_steady c _)) hm
  exact (hd.trans (limitTest_steady c .plus _)).trans (limitTest_steady c .minus _)

theorem spindleAtStart_steady (n : Node) : Steady n (spindleAtStart n) := by
  unfold spindleAtStart
  split
  · exact Steady.trans (m := { n with sg := _ }) {} (gearFromPattern_steady _ _)
  · exact .refl n

theorem coolantAtStart_steady (n : Node) : Steady n (coolantAtStart n) :=
  .ite (.ite (Steady.trans (m := { n with cl := _ }) {} (raiseWarn_steady _ _ _)) {}) (.refl n)

theorem chainAtStart_steady (n : Node) : Steady n (chainAtStart n) :=
  .ite (Steady.trans (m := { n with cu := _ }) {} (raiseStop_steady _ _ _)) {}

theorem ownLive_steady (n : Node) : Steady n (ownLive n) := by
  refine Steady.trans ?_ (reformMode_steady _)
  refine Steady.trans ?_ (clashTest_acts _).steady
  exact Steady.trans (m := setEntry _ _ n) {} (unexpectedRaise_acts _ _).steady

/-- The node as a passing image is taken (R28). -/
def imageTaken (l : Loaded) (n : Node) : Node :=
  { n with
    su := { n.su with start := .configured }
    par := l.par
    bq := BQ.reset l.par.headWait
    ax0 := Axis.reset l.comp0
    ax1 := Axis.reset l.comp1 }

theorem imageTaken_sound (l : Loaded) (n : Node) : Sound n (imageTaken l n) where
  line := id
  counts := id
  blocks := fun _ => Nat.zero_le _
  overrides := id
  slew := id
  frames := fun _ => ⟨rfl, rfl, rfl, rfl⟩
  waits := fun _ h => by simp [imageTaken, loaded] at h

/-- Units that work at a node whose LOADING is over, after a step that ends it. -/
theorem Sound.andThen {n m k : Node} (h : Sound n m) (g : Steady m k) (hl : loaded m = true) : Sound n k :=
  h.trans (g.sound_of_loaded hl)

theorem configured_steady (l : Loaded) (n : Node) : Steady (imageTaken l n) (configured l n) := by
  refine Steady.trans ?_ (ownLive_steady _)
  refine Steady.trans (m := coolantAtStart _) ?_ (.ite {} (.refl _))
  refine Steady.trans ?_ (coolantAtStart_steady _)
  refine Steady.trans ?_ (spindleAtStart_steady _)
  exact (chainAtStart_steady _).trans (forAxes_steady axisAtStart_steady _)

theorem limited_steady (r : Nat) (n : Node) :
    Steady { n with su := { n.su with start := .limited }, par := .limited } (limited r n) :=
  ((raiseStop_steady _ _ _).trans (chainAtStart_steady _)).trans (ownLive_steady _)

theorem limitedStart_sound (n : Node) :
    Sound n { n with su := { n.su with start := .limited }, par := .limited } :=
  ⟨id, id, id, id, id, id, fun _ h => by simp [loaded] at h⟩

/-- A reading leaves LOADING going on, or ends it at a CONFIGURED or a LIMITED node (R26). -/
theorem readingDone_sound (bytes : List Byte) (inputs : Pins) (n : Node) : Sound n (readingDone bytes inputs n) := by
  have hp : Sound n { n with pins := inputs } := ⟨id, id, id, id, id, id, id⟩
  unfold readingDone
  split
  · rename_i l _
    exact hp.trans ((imageTaken_sound l { n with pins := inputs }).andThen (configured_steady l _) rfl)
  · split_ifs
    · exact ⟨id, id, id, id, id, id, id⟩
    · exact hp.trans ((limitedStart_sound { n with pins := inputs }).andThen (limited_steady _ _) rfl)

theorem imageRead_sound (bytes : List Byte) (inputs : Pins) (n : Node) :
    Sound n (if loaded (readingDone bytes inputs n) then finish (readingDone bytes inputs n)
      else readingDone bytes inputs n) := by
  split_ifs with h
  · exact (readingDone_sound bytes inputs n).andThen (finish_steady _) h
  · exact readingDone_sound bytes inputs n

/-! ### Tick, bit time and RESTART -/

theorem motionTick_sound (inputs : Pins) (n : Node) : Sound n (motionTick inputs n) := by
  have h := (workTick_steady inputs n).trans (finish_steady _)
  unfold motionTick
  split
  · exact .refl n
  · exact (countTick_steady n).sound id
  · exact h.sound_of_loaded (by simp [loaded, *])
  · exact h.sound_of_loaded (by simp [loaded, *])

theorem bitTime_sound (n : Node) : Sound n (bitTime n) := by
  have hm : Steady n (phaseBit (lineBit n)) := (lineBit_steady n).trans {}
  have hj : Steady n (if (phaseBit (lineBit n)).lc.state = .joining ∧ 128 ≤ (phaseBit (lineBit n)).lc.quiet
      then finish (enterActive (phaseBit (lineBit n))) else phaseBit (lineBit n)) :=
    .ite ((hm.trans (enterActive_steady _)).trans (finish_steady _)) hm
  unfold bitTime
  split_ifs with hr hl
  · exact .refl n
  · exact ⟨id, id, id, id, id, id, id⟩
  · exact hj.sound_of_loaded (by simpa using hl)

theorem restartArrives_sound (rx : Rx) (t s : Byte) (n : Node) : Sound n (restartArrives rx t s n) := by
  unfold restartArrives
  split_ifs with hl
  · exact .refl n
  · exact reset_sound _ _ n
  · exact ((heardFrame_steady rx n (accepted_steady rx n)).trans (finish_steady _)).sound_of_loaded (by simpa using hl)

theorem released_sound (st : BitVec 4) (r : Bool) (n : Node) (h : n.su.start = .inReset) :
    Sound n (released st r n) :=
  ⟨id, id, id, id, id, id, fun hw _ => hw (by simp [loaded, h])⟩

/-! ### The commands -/

theorem answer_sound {f : Node → Node} {s t : State} (hf : ∀ n, Sound n (f n)) (h : answer f s = .next t) :
    Sound s.node t.node := by
  obtain rfl : { s with node := f s.node } = t := by simpa [answer] using h
  exact hf s.node

theorem live_answer_sound {f : Node → Node} {s t : State} (hf : ∀ n, Steady n (f n))
    (h : answer (live f) s = .next t) : Sound s.node t.node := answer_sound (live_sound hf) h

theorem frame_answer_sound {rx : Rx} {unit : Moment → Node → Node} {s t : State}
    (hf : ∀ c n, Steady n (unit c n)) (h : frame rx unit s = .next t) : Sound s.node t.node :=
  answer_sound (frame_sound rx hf) h

theorem axEvent_sound {c : Chan} {f : AxisParams → Node → Node} {s t : State} (hf : ∀ p n, Steady n (f p n))
    (h : axEvent c f s = .next t) : Sound s.node t.node :=
  live_answer_sound (fun n => by
    cases axParams c n with
    | none => exact .refl n
    | some p => exact hf p n) h

theorem clampEvent_sound {c : Chan} {k : ClampState} {f : Node → Node} {s t : State} (hf : ∀ n, Steady n (f n))
    (h : clampEvent c k f s = .next t) : Sound s.node t.node :=
  axEvent_sound (fun _ n => .ite (hf n) (.refl n)) h

theorem clEvent_sound {f : CoolantParams → Node → Node} {s t : State} (hf : ∀ p n, Steady n (f p n))
    (h : clEvent f s = .next t) : Sound s.node t.node :=
  live_answer_sound (fun n => by
    cases n.par.coolant with
    | none => exact .refl n
    | some p => exact hf p n) h

theorem sgEvent_sound {f : SpindleParams → Node → Node} {s t : State} (hf : ∀ p n, Steady n (f p n))
    (h : sgEvent f s = .next t) : Sound s.node t.node := live_answer_sound (sgFrame_steady hf) h

theorem pdEvent_sound {f : Node → Node} {s t : State} (hf : ∀ n, Steady n (f n))
    (h : pdEvent f s = .next t) : Sound s.node t.node :=
  live_answer_sound (fun n => .ite (hf n) (.refl n)) h

end Sys2Proof.Machine
end

section
/-! PROOF. Every step keeps the bounds: the dispatch. -/

namespace Sys2Proof.Machine

-- The text is checked as one file under a data limit that many waiting threads would exceed.
set_option Elab.async false

theorem resetRelease_sound (st : BitVec 4) (r : Bool) (n : Node) :
    Sound n (if n.su.start = .inReset ∧ n.su.supplyOk = true then released st r n else n) := by
  split_ifs with h
  · exact released_sound st r n h.1
  · exact .refl n

theorem imageReadDone_sound (bytes : List Byte) (inputs : Pins) (n : Node) :
    Sound n (if n.su.start = .loading then
      let m := readingDone (memoryAnswers (loaderSends n) bytes) inputs n
      if loaded m then finish m else m
    else n) := by
  split_ifs with h
  · exact imageRead_sound _ inputs n
  · exact .refl n

theorem formErrorAt_steady (place : FormPlace) (q : Nat) (n : Node) :
    Steady n ((match place with
      | .lengthField => partwayError .form
      | .endOfCheck => checkTimeError .form) q n) := by
  cases place with
  | lengthField => exact partwayError_steady _ q n
  | endOfCheck => exact checkTimeError_steady _ q n

/-- The commands one by one: each arm of the dispatch is a change that the lemmas of its unit speak of. -/
theorem exec_sound {i : Instr} {s t : State} (h : exec i s = .next t) : Sound s.node t.node := by
  cases i with
  | powerOn => exact answer_sound (fun n => reset_sound _ _ n) h
  | resetPin => exact answer_sound (fun n => reset_sound _ _ n) h
  | supplyBelowThreshold => exact answer_sound (fun n => reset_sound _ _ n) h
  | resetRelease st r => exact answer_sound (resetRelease_sound st r) h
  | imageReadDone bytes inputs => exact answer_sound (imageReadDone_sound bytes inputs) h
  | motionTick inputs => exact answer_sound (motionTick_sound inputs) h
  | restart rx target serial => exact answer_sound (restartArrives_sound rx target serial) h
  | blockStart => exact live_answer_sound blockStarts_steady h
  | dwellEnd => exact live_answer_sound dwellEnds_steady h
  | statePeriod => exact live_answer_sound (fun n => .ite (askState_steady n) (.refl n)) h
  | attemptStart phase =>
    exact live_answer_sound (fun n => .ite (Steady.trans {} (beginAttempt_steady _)) (.refl n)) h
  | contentionLoss => exact live_answer_sound (fun n => .ite (contentionLost_steady n) (.refl n)) h
  | bitError released => exact live_answer_sound (fun n => .ite (bitErrorFound_steady _ n) (.refl n)) h
  | syncError trail => exact live_answer_sound (brokenOff_steady trail (partwayError_steady _)) h
  | formError place trail => exact live_answer_sound (brokenOff_steady trail (formErrorAt_steady place)) h
  | checkError trail => exact live_answer_sound (brokenOff_steady trail (checkTimeError_steady _)) h
  | frameNotAccepted trail => exact live_answer_sound (brokenOff_steady trail leaveFrame_steady) h
  | refusedBusy => exact live_answer_sound (fun n => .ite (refusedBusy_steady n) (.refl n)) h
  | failure => exact live_answer_sound (fun n => .ite (attemptFailed_steady n) (.refl n)) h
  | recoveryTimerExpiry => exact live_answer_sound (fun n => .ite (recoveryOver_steady n) (.refl n)) h
  | quietCountJoin =>
    exact live_answer_sound (fun n => .ite ((withLc_steady _ n).trans (enterActive_steady _)) (.refl n)) h
  | stopall rx => exact frame_answer_sound (fun _ => acceptStopall_steady) h
  | stopDecelerationEnd => exact live_answer_sound (fun n => .ite (stopReached_steady n) (.refl n)) h
  | disablePoint c => exact live_answer_sound (fun n => .ite (driveTo_steady c _ n) (.refl n)) h
  | hold rx stamp => exact frame_answer_sound (acceptHold_steady rx stamp) h
  | holdApply => exact live_answer_sound (applyFirst_steady _) h
  | resume rx stamp => exact frame_answer_sound (stamped_steady rx stamp (keepFrame_steady rx stamp _)) h
  | resumeApply => exact live_answer_sound (applyFirst_steady _) h
  | go rx stamp num =>
    exact frame_answer_sound
      (fun c n => (goWithdraw_steady rx num n).trans (stamped_steady rx stamp (acceptGo_steady rx stamp num) c _)) h
  | goApply => exact live_answer_sound (applyFirst_steady _) h
  | ready rx num verdict arg => exact frame_answer_sound (fun _ => acceptReady_steady rx num verdict arg) h
  | headWaitExpiry => exact live_answer_sound (fun n => .ite (raiseStall_steady n) (.refl n)) h
  | block rx b =>
    exact live_answer_sound (fun n => joinedFrame_steady rx n (blockArrives_steady rx b n)) h
  | flush rx flags expected =>
    exact frame_answer_sound (fun _ n => .ite (acceptFlush_steady _ n) (clearFlush_steady n)) h
  | override rx stamp form value =>
    exact frame_answer_sound (stamped_steady rx stamp (acceptOverride_steady rx stamp form value)) h
  | overrideApply => exact live_answer_sound (applyFirst_steady _) h
  | pace rx stamp flags running elapsed =>
    exact frame_answer_sound (stamped_steady rx stamp (acceptPace_steady rx stamp _)) h
  | paceApply => exact live_answer_sound (applyFirst_steady _) h
  | offset rx b =>
    exact frame_answer_sound (fun _ => toChannel_steady b.axis fun c _ => acceptOffset_steady b c) h
  | jog rx axis increment detents toggle =>
    exact frame_answer_sound (fun _ => acceptJogFrame_steady rx axis increment detents toggle) h
  | panel rx b => exact frame_answer_sound (fun _ => acceptPanel_steady rx b) h
  | modeAdoptionAtRest => exact live_answer_sound adoptionTest_steady h
  | spindle rx form speed dir value => exact frame_answer_sound (fun _ => acceptSpindle_steady form speed dir value) h
  | coolant rx flood tsc air => exact frame_answer_sound (fun _ => acceptCoolant_steady flood tsc air) h
  | reference rx axis => exact frame_answer_sound (fun _ => toChannel_steady axis acceptReference_steady) h
  | faultclr rx => exact frame_answer_sound (fun _ => applyFaultclr_steady) h
  | announce rx b =>
    exact live_answer_sound (fun n => heardFrame_steady rx n (announceArrives_steady rx b n)) h
  | state rx b =>
    exact live_answer_sound (fun n => heardFrame_steady rx n
      ((accepted_steady rx n).trans (acceptState_steady rx _ b _))) h
  | fault rx b => exact frame_answer_sound (fun _ => .refl) h
  | silenceTimeout peer => exact live_answer_sound (fun n => .ite (entryLost_steady _ n) (.refl n)) h
  | moverArrive c => exact axEvent_sound (moverArrives_steady c) h
  | moverAtRest c => exact axEvent_sound (moverRests_steady c) h
  | followingRunLimit c => exact axEvent_sound (fun _ => followLimitReached_steady c) h
  | saturationRunLimit c => exact axEvent_sound (fun _ => saturationLimitReached_steady c) h
  | driveFaultInput c => exact axEvent_sound (fun _ => driveFaultActive_steady c) h
  | driveReadyOn c => exact axEvent_sound (fun _ => driveBecomesReady_steady c) h
  | driveReadyOff c => exact axEvent_sound (fun _ => driveLosesReady_steady c) h
  | driveTimerExpiry c => exact axEvent_sound (fun _ n => .ite (driveFault_steady c n) (.refl n)) h
  | limitActive c side =>
    exact axEvent_sound (fun _ n => (onAxPins_steady c _ n).trans (limitTest_steady c side _)) h
  | limitInactive c side =>
    exact axEvent_sound (fun _ n => (onAxPins_steady c _ n).trans (limitTest_steady c side _)) h
  | unclampConfirmed c => exact clampEvent_sound (fun n => (onAxPins_steady c _ n).trans (clampTo_steady c _ _)) h
  | clampConfirmed c => exact clampEvent_sound (fun n => (onAxPins_steady c _ n).trans (clampTo_steady c _ _)) h
  | unclampTimeout c => exact clampEvent_sound (unclampTimedOut_steady c) h
  | clampTimeout c => exact clampEvent_sound (clampTo_steady c _) h
  | referenceSwitchActive c =>
    exact axEvent_sound (fun _ n => (onAxPins_steady c _ n).trans
      (onAx_steady c switchActive _ switchActive_frames)) h
  | markEdge c =>
    exact axEvent_sound (fun p n => onAx_steady c _ n (markEdge_frames p)) h
  | encoderEdge c up => exact axEvent_sound (fun _ n => onAx_steady c _ n) h
  | spindleAtRest => exact sgEvent_sound restRunReached_steady h
  | atSpeed => exact sgEvent_sound (fun _ n => .ite {} (.refl n)) h
  | spindleFaultRun => exact sgEvent_sound faultRunReached_steady h
  | spindleStopTimerExpiry => exact sgEvent_sound (fun _ n => .ite {} (.refl n)) h
  | sgAct => exact live_answer_sound sgActHead_steady h
  | shifterSensorChange sh pos level => exact sgEvent_sound (sensorTakes_steady sh pos level) h
  | shiftTimeout => exact sgEvent_sound shiftExpires_steady h
  | neutralTimeout => exact sgEvent_sound neutralExpires_steady h
  | nudgeReverse => exact sgEvent_sound (fun _ n => .ite {} (.refl n)) h
  | clAct => exact live_answer_sound clActHead_steady h
  | flowSwitchOn => exact clEvent_sound flowOn_steady h
  | flowSwitchOff => exact clEvent_sound flowOff_steady h
  | floodTimerExpiry => exact clEvent_sound floodTimerOut_steady h
  | tankLowActive => exact clEvent_sound (fun _ n => Steady.trans {} (tankTo_steady _ _)) h
  | tankLowInactive => exact clEvent_sound (fun _ n => Steady.trans {} (tankTo_steady _ _)) h
  | tscStartTimeout => exact clEvent_sound (fun _ n => .ite (setTsc_steady _ _ _ n) (.refl n)) h
  | tscDegraded =>
    exact clEvent_sound (fun p n => .ite (Steady.trans {} (tscDegrade_steady p _)) (.refl n)) h
  | bleedTimerExpiry => exact clEvent_sound bleedOut_steady h
  | lossRunLimit => exact clEvent_sound (fun _ n => .ite (withCl_loss_steady _ n) (.refl n)) h
  | stopChainOpen =>
    exact live_answer_sound (fun n => .ite {} (Steady.trans {} (raiseStop_steady _ _ _))) h
  | stopChainClosed =>
    exact live_answer_sound (fun n => .ite (Steady.trans {} (clearCond_steady _ _)) {}) h
  | handwheelEdge up => exact pdEvent_sound (wheelEdge_steady up) h
  | enablingSwitchRelease pressedThrough => exact pdEvent_sound (switchLeaves_steady _) h
  | controlDebounce r => exact pdEvent_sound (controlTo_steady r) h
  | cycleStart => exact pdEvent_sound (buttonTo_steady _ _) h
  | feedHold => exact pdEvent_sound (fun n => (buttonTo_steady _ _ n).trans (feedHoldTick_steady _)) h
  | resetButton => exact pdEvent_sound (buttonTo_steady _ _) h
  | refButton => exact pdEvent_sound (buttonTo_steady _ _) h
  | spindleStart => exact pdEvent_sound (buttonTo_steady _ _) h
  | spindleStop => exact pdEvent_sound (buttonTo_steady _ _) h
  | coolantButton => exact pdEvent_sound (buttonTo_steady _ _) h

theorem step_sound {s t : State} (h : step s = .next t) : Sound s.node t.node := by
  unfold step at h
  split at h
  · exact (exec_sound h :)
  · cases h
    exact bitTime_sound s.node

/-- Settles O58: the bounds go through every operation of the model (`Steady`), so through every command, and the end
of LOADING, the resets and the empty step are looked at on their own (`Sound`). -/
theorem everyStepKeepsTheBounds : Obligations.EveryStepKeepsTheBounds := by
  unfold Obligations.EveryStepKeepsTheBounds
  intro s t h
  obtain ⟨hline, hcounts, hblocks, hover, hslew, hframes, hwaits⟩ := step_sound h
  exact ⟨hline, hcounts, hblocks, hover, hslew, hframes, hwaits⟩

end Sys2Proof.Machine
end

section
/-! PROOF. What follows every command, the commands of the line controller's attempts, and the end of an attempt that
did not succeed. -/

namespace Sys2Proof.Machine

-- The text is checked as one file under a data limit that many waiting threads would exceed.
set_option Elab.async false

/-! ### Commands of a node whose LOADING is over -/

theorem completes_live {i : Instr} {s : State} {f : Node → Node} {P : Node → Prop}
    (hi : exec i s = answer (live f) s) (hl : loaded s.node = true) (h : P (finish (f s.node))) : completes i s P :=
  ⟨{ s with node := live f s.node }, hi, rfl, by simpa only [live, hl, if_true] using h⟩

theorem completes_live_if {i : Instr} {s : State} {c : Node → Prop} [DecidablePred c] {f : Node → Node}
    {P : Node → Prop} (hi : exec i s = answer (live fun n => if c n then f n else n) s) (hl : loaded s.node = true)
    (hc : c s.node) (h : P (finish (f s.node))) : completes i s P :=
  completes_live hi hl (by simpa only [if_pos hc] using h)

theorem completes_live_else {i : Instr} {s : State} {c : Node → Prop} [DecidablePred c] {f : Node → Node}
    {P : Node → Prop} (hi : exec i s = answer (live fun n => if c n then f n else n) s) (hl : loaded s.node = true)
    (hc : ¬ c s.node) (h : P (finish s.node)) : completes i s P :=
  completes_live hi hl (by simpa only [if_neg hc] using h)

/-! ### The line controller after what follows a command -/

/-- A line controller that differs at most in its transmit queue, tally and last error code. -/
def SameLine (a b : LC) : Prop := ∃ q t e, b = { a with queue := q, tally := t, lastErr := e }

theorem sameLine_of_keeps {n m : Node} (h : keeps .line n m) : SameLine n.lc m.lc := by
  obtain ⟨su, par, lc, nt, cu, kept, bq, pg, ax0, ax1, sg, cl, pd, pins⟩ := m
  refine ⟨lc.queue, lc.tally, lc.lastErr, ?_⟩
  cases hn : n.lc
  cases lc
  simp only [keeps, hn, LC.mk.injEq] at h ⊢
  simp [h]

theorem sameLine_of_onlyChanges {ps : List Part} {n m : Node} (h : onlyChanges ps n m) (hp : .line ∉ ps) :
    SameLine n.lc m.lc := sameLine_of_keeps (h .line hp (by decide))

theorem finish_sameLine (n : Node) : SameLine n.lc (finish n).lc :=
  sameLine_of_onlyChanges (finish_only n) (by simp)

@[simp] theorem noteChange_lc (n : Node) : (noteChange n).lc = n.lc := by
  unfold noteChange
  split <;> rfl

theorem noteChange_timer (n : Node) : asksNoState (noteChange n) ↔ asksNoState n := by
  unfold noteChange
  split <;> rfl

theorem changeState_of_asksNoState {n : Node} (h : asksNoState n) : changeState n = n := by
  unfold changeState
  rw [if_neg]
  rcases h with h | h
  · simp [h]
  · simp [Nat.not_le.2 h]

/-- Where no STATE is asked for, what follows a command leaves the line controller. -/
theorem finish_lc {n : Node} (h : asksNoState n) : (finish n).lc = n.lc := by
  unfold finish
  rw [changeState_of_asksNoState ((noteChange_timer n).2 h), refresh_lc, noteChange_lc]

theorem withLc_only (x : LC) (n : Node) : onlyChanges [.line] n { n with lc := x } := by
  intro p h _
  cases p <;> simp_all [keeps, reporting]

theorem finish_line_only {n m : Node} {ps : List Part} (h : onlyChanges ps n m) : onlyChanges ps n (finish m) :=
  onlyChanges_trans h (onlyChanges_nil (finish_only m))

/-! ### An attempt that did not succeed (R11, R13, R14) -/

theorem superseded_iff (e : TxEntry) (q : List TxEntry) :
    superseded e q = true ↔ ∃ x ∈ q, x.inTx = false ∧ replaces x.payload e.payload = true := by
  simp [superseded]

theorem endSending_inTx (back : TxEntry → TxEntry) (q : List TxEntry) :
    ∀ e ∈ endSending back q, e.inTx = false := by
  intro e he
  obtain ⟨x, -, rfl⟩ := List.mem_map.1 he
  split
  · rfl
  · simp_all

theorem mem_endSending_of_pending {back : TxEntry → TxEntry} {q : List TxEntry} {e : TxEntry} (he : e ∈ q)
    (hx : e.inTx = false) : e ∈ endSending back q :=
  List.mem_map.2 ⟨e, List.mem_filter.2 ⟨he, by simp [hx]⟩, by simp [hx]⟩

theorem mem_endSending_of_sent {back : TxEntry → TxEntry} {q : List TxEntry} {e : TxEntry} (he : e ∈ q)
    (hx : e.inTx = true) (hd : e.doomed = false) (hs : superseded e q = false) :
    { back e with inTx := false } ∈ endSending back q :=
  List.mem_map.2 ⟨e, List.mem_filter.2 ⟨he, by simp [hd, hs]⟩, by simp [hx]⟩

theorem endSending_of_one {back : TxEntry → TxEntry} {q : List TxEntry} {e : TxEntry}
    (he : q.filter TxEntry.inTx = [e]) :
    endSending back q =
      if e.doomed = true ∨ (∃ x ∈ q, x.inTx = false ∧ replaces x.payload e.payload = true)
      then q.filter fun x => !x.inTx
      else q.map fun x => if x.inTx then { back x with inTx := false } else x := by
  have hone : ∀ x ∈ q, x.inTx = true → x = e := fun x hx hi =>
    List.mem_singleton.1 (he ▸ List.mem_filter.2 ⟨hx, hi⟩)
  simp only [← superseded_iff]
  split_ifs with hc
  · have hf : (q.filter fun x => !(x.inTx && (x.doomed || superseded x q))) = q.filter fun x => !x.inTx :=
      List.filter_congr fun x hx => by
        cases hi : x.inTx with
        | false => rfl
        | true => simpa [hone x hx hi, Classical.or_iff_not_imp_left] using hc
    have hi : ∀ x ∈ q.filter (fun x => !x.inTx), x.inTx = false := fun x hx => by simpa using (List.mem_filter.1 hx).2
    rw [endSending, hf]
    exact (List.map_congr_left fun x hx => by simp [hi x hx]).trans (List.map_id _)
  · have hf : (q.filter fun x => !(x.inTx && (x.doomed || superseded x q))) = q :=
      List.filter_eq_self.2 fun x hx => by
        cases hi : x.inTx with
        | false => rfl
        | true => simpa [hone x hx hi] using hc
    rw [endSending, hf]

/-- Settles O35: both rows leave the line controller as their definitions say, up to what follows every command, and
the queue is a filter and a map of the one before. -/
theorem contentionLossAndBusyReturnTheEntry : Obligations.ContentionLossAndBusyReturnTheEntry := by
  unfold Obligations.ContentionLossAndBusyReturnTheEntry
  intro s hl hs
  refine ⟨completes_live_if rfl hl hs ?_, completes_live_if rfl hl hs ?_, fun back => ⟨fun e => endSending_of_one,
    endSending_inTx back _, fun e => mem_endSending_of_pending, fun e => mem_endSending_of_sent⟩⟩
  · obtain ⟨q, t, c, hlc⟩ := finish_sameLine (contentionLost s.node)
    have hno : asksNoState s.node → (finish (contentionLost s.node)).lc = (contentionLost s.node).lc :=
      finish_lc (n := contentionLost s.node)
    refine ⟨?_, ?_, ?_, ?_, ?_, finish_line_only (withLc_only _ _), fun ha => by rw [hno ha]; rfl⟩ <;>
      rw [hlc] <;> rfl
  · obtain ⟨q, t, c, hlc⟩ := finish_sameLine (refusedBusy s.node)
    have hno : asksNoState s.node → (finish (refusedBusy s.node)).lc = (refusedBusy s.node).lc :=
      finish_lc (n := refusedBusy s.node)
    refine ⟨?_, ?_, ?_, ?_, finish_line_only (withLc_only _ _), fun ha => by rw [hno ha]; rfl⟩ <;>
      rw [hlc] <;> rfl

end Sys2Proof.Machine
end

section
/-! PROOF. The start of an attempt: the head of the queue, the bits for the line, and the gap. -/

namespace Sys2Proof.Machine

-- The text is checked as one file under a data limit that many waiting threads would exceed.
set_option Elab.async false

/-! ### The head of the queue (R4, R93) -/

/-- What an entry that cannot be sent now is not: eligible and outside transmission. -/
def stands (e : TxEntry) : Prop := e.eligible = false ∨ e.inTx = true

theorem not_sendable_of_stands {e : TxEntry} (h : stands e) : (e.eligible && !e.inTx) = false := by
  rcases h with h | h <;> simp [h]

theorem markHead_split (pace : Payload) {before after : List TxEntry} {e : TxEntry}
    (hb : ∀ x ∈ before, stands x) (he : e.eligible = true) (hi : e.inTx = false) :
    markHead pace (before ++ e :: after) =
      before ++ { e with inTx := true, payload := sentAs pace e.payload } :: after := by
  induction before with
  | nil => simp [markHead, he, hi]
  | cons x xs ih =>
    have hx := not_sendable_of_stands (hb x (by simp))
    simp [markHead, hx, ih fun y hy => hb y (by simp [hy])]

theorem txHead_split {lc : LC} {before after : List TxEntry} {e : TxEntry} (hq : lc.queue = before ++ e :: after)
    (hb : ∀ x ∈ before, stands x) (he : e.eligible = true) (hi : e.inTx = false) : txHead lc = some e := by
  have hn : before.find? (fun x => x.eligible && !x.inTx) = none :=
    List.find?_eq_none.2 fun x hx => by simp [not_sendable_of_stands (hb x hx)]
  simp [txHead, hq, List.find?_append, hn, he, hi]

theorem find_inTx_split {before after : List TxEntry} {e : TxEntry} (hb : ∀ x ∈ before, x.inTx = false)
    (he : e.inTx = true) : (before ++ e :: after).find? TxEntry.inTx = some e := by
  have hn : before.find? TxEntry.inTx = none := List.find?_eq_none.2 fun x hx => by simp [hb x hx]
  simp [List.find?_append, hn, he]

/-- A queue with an entry that can be sent, cut at the first such entry. -/
theorem exists_head_split {q : List TxEntry} (h : (q.find? fun e => e.eligible && !e.inTx).isSome = true) :
    ∃ before e after, q = before ++ e :: after ∧ (∀ x ∈ before, stands x) ∧ e.eligible = true ∧ e.inTx = false := by
  obtain ⟨e, he⟩ := Option.isSome_iff_exists.1 h
  obtain ⟨hp, before, after, hq, hb⟩ := List.find?_eq_some_iff_append.1 he
  simp only [Bool.and_eq_true, Bool.not_eq_true'] at hp
  refine ⟨before, e, after, hq, fun x hx => ?_, hp.1, hp.2⟩
  have := hb x hx
  cases h1 : x.eligible with
  | false => exact .inl h1
  | true => exact .inr (by simpa [h1] using this)

/-- Whether an attempt can begin, in its parts. -/
theorem readyToSend_iff (lc : LC) :
    readyToSend lc = true ↔ onLine lc.state = true ∧ (txHead lc).isSome = true ∧ sending lc = false ∧
      lc.decoding = false ∧ lc.errorRun = 0 := by
  simp [readyToSend, and_assoc]

theorem inTx_of_not_sending {lc : LC} (h : sending lc = false) : ∀ e ∈ lc.queue, e.inTx = false := by
  simpa [sending] using h

/-! ### The attempt begun -/

/-- The line controller of a node whose attempt begins with the entry `e` at the head of its queue. -/
theorem beginAttempt_lc {n : Node} {before after : List TxEntry} {e : TxEntry} (hs : sending n.lc = false)
    (hq : n.lc.queue = before ++ e :: after) (hb : ∀ x ∈ before, stands x) (he : e.eligible = true)
    (hi : e.inTx = false) :
    (beginAttempt n).lc =
      { n.lc with
        queue := before ++ { e with inTx := true, payload := sentAs (pacePayload n) e.payload } :: after
        capture := some { tick := n.pg.tick, phase := n.pg.phase }
        quiet := 0, bitError := false, slotBusy := false, slotError := false
        yield := n.lc.yield && txClass e < 2
        txBits := attemptBits n.su.node (stampFor (sentAs (pacePayload n) e.payload)
          { tick := n.pg.tick, phase := n.pg.phase }) (sentAs (pacePayload n) e.payload) } := by
  have hm := markHead_split (pacePayload n) (after := after) hb he hi
  have hbx : ∀ x ∈ before, x.inTx = false := fun x hx => inTx_of_not_sending hs x (by simp [hq, hx])
  simp only [beginAttempt, sentPayload, txHead_split hq hb he hi, hq, hm]
  rw [find_inTx_split hbx rfl]
  simp

theorem beginAttempt_only (n : Node) : onlyChanges [.line] n (beginAttempt n) := withLc_only _ n

/-- The node with its phase at the leading edge of the start bit. -/
theorem atPhase_attempt_only (k : Phase) (n : Node) :
    onlyChanges [.line, .path] n (finish (beginAttempt (atPhase k n))) :=
  finish_line_only (onlyChanges_both (atPhase_only k n) (beginAttempt_only _) (by simp) (by simp))

/-! ### The gap (R5) -/

theorem gapOf_lt {a b : NodeNo} {x y : LC} {d e : TxEntry} (hxy : x.state = y.state) (hd : txClass d < 2)
    (hde : txClass d < txClass e) : gapOf a x d < gapOf b y e := by
  have hy : (x.yield && decide (2 ≤ txClass d)) = false := by simp [Nat.not_le.2 hd]
  unfold gapOf
  rw [hxy, hy]
  have := a.isLt
  simp only [Bool.false_eq_true, if_false]
  omega

/-- Settles O34: with a queue cut at its head `beginAttempt` is one record update, and the gap is arithmetic. -/
theorem attemptStartSendsTheHead : Obligations.AttemptStartSendsTheHead := by
  unfold Obligations.AttemptStartSendsTheHead
  refine ⟨fun phase s hl => ⟨fun hr =>
    completes_live_if (f := fun n => beginAttempt (atPhase phase n)) rfl hl hr ?_, fun hr =>
    completes_live_else rfl hl (by simp [hr]) (finish_only _)⟩, fun node lc e => by simp [gapOf],
    fun a b x y d e => gapOf_lt⟩
  obtain ⟨-, hh, hs, -⟩ := (readyToSend_iff _).1 hr
  have hlc {before : List TxEntry} {e : TxEntry} {after : List TxEntry} :=
    beginAttempt_lc (n := atPhase phase s.node) (before := before) (after := after) (e := e) hs
  obtain ⟨b₀, e₀, a₀, hq₀, hb₀, he₀, hi₀⟩ := exists_head_split hh
  have h₀ := hlc hq₀ hb₀ he₀ hi₀
  obtain ⟨q, t, c, hf⟩ := finish_sameLine (beginAttempt (atPhase phase s.node))
  refine ⟨rfl, ?_, ?_, ?_, ?_, ?_, ?_, fun before e after hq hb he hi => ?_, atPhase_attempt_only phase s.node⟩
  · rw [hf, h₀]; rfl
  · exact (finish_only _) .path (by simp) (by decide)
  · rw [hf, h₀]
  · rw [hf, h₀]
  · rw [hf, h₀]
  · rw [hf, h₀]
  · have h₁ := hlc hq hb he hi
    refine ⟨?_, ?_, fun ha => ?_⟩
    · rw [hf, h₁]; rfl
    · rw [hf, h₁]; rfl
    · rw [finish_lc (n := beginAttempt (atPhase phase s.node)) ha, h₁]; rfl

end Sys2Proof.Machine
end

section
/-! PROOF. The line states: a line controller that is off the line, LINE_WARN after a change of the counts, line-off
recovery, the end of JOINING, and the bit time with no command waiting. -/

namespace Sys2Proof.Machine

-- The text is checked as one file under a data limit that many waiting threads would exceed.
set_option Elab.async false

/-! ### Requests in JOINING and OFF (R12) -/

theorem enqueue_offLine (p : Payload) (b : Bool) (k : Nat) {lc : LC} (h : lc.state = .joining ∨ lc.state = .off) :
    enqueue p b k lc = (lc, false) := if_pos h

theorem askState_lc_offLine {n : Node} (h : n.lc.state = .joining ∨ n.lc.state = .off) :
    (askState n).lc = n.lc := by
  simp only [askState, ask, askWith, enqueueAt, enqueue_offLine _ _ _ h, Bool.false_eq_true, if_false]

theorem finish_lc_offLine {n : Node} (h : n.lc.state = .joining ∨ n.lc.state = .off) : (finish n).lc = n.lc := by
  unfold finish changeState
  rw [refresh_lc]
  split
  · rw [askState_lc_offLine (by simpa using h), noteChange_lc]
  · exact noteChange_lc n

/-! ### The counts and LINE_WARN (R18) -/

theorem clearCond_eq (c : Cond) (n : Node) : ∃ cu nt, clearCond c n = { n with cu := cu, nt := nt } ∧
    nt.entries = n.nt.entries ∧ nt.clashes = n.nt.clashes := by
  unfold clearCond
  split
  · exact ⟨_, _, rfl, rfl, rfl⟩
  · exact ⟨n.cu, n.nt, rfl, rfl, rfl⟩

theorem lineWarnTest_only (n : Node) : onlyChanges [.conds] n (lineWarnTest n) := by
  unfold lineWarnTest
  split_ifs
  · exact clearCond_only _ n
  · exact onlyChanges_refl _ n
  · exact raiseWarn_only _ _ n

theorem lineWarnTest_condIn (n : Node) : sameButLineWarn (lineWarnTest n).cu.own n.cu.own := by
  intro c hc hx
  unfold lineWarnTest
  split_ifs
  · simp [hc]
  · rfl
  · simp [raiseWarn_condIn _ _ _ hx, hc]

theorem recount_only (n : Node) : onlyChanges [.line, .conds] n (recount n) :=
  onlyChanges_both (withLc_only _ n) (lineWarnTest_only _) (by simp) (by simp)

theorem recount_condIn (n : Node) : sameButLineWarn (recount n).cu.own n.cu.own := lineWarnTest_condIn _

theorem recount_sameLine (n : Node) : SameLine { n.lc with state := stateForCounts n.lc } (recount n).lc :=
  sameLine_of_onlyChanges (n := { n with lc := { n.lc with state := stateForCounts n.lc } }) (lineWarnTest_only _)
    (by simp)

/-- With both counts below 96 LINE_WARN can only be cleared. -/
theorem recount_of_low {n : Node} (hs : n.lc.send < 96) (hr : n.lc.recv < 96) :
    recount n = clearCond .lineWarn { n with lc := { n.lc with state := stateForCounts n.lc } } :=
  if_pos ⟨hs, hr⟩

/-! ### Line-off recovery (R19, R20, R34) -/

theorem recoveryOver_eq (n : Node) : ∃ cu nt, recoveryOver n =
    { n with
      lc := { n.lc with state := .joining, recoveryMark := true, send := 0, recv := 0, queue := [], recovery := none }
      su := { n.su with announceCause := .lineRecovery }, cu := cu, nt := nt } ∧
    nt.entries = n.nt.entries.set (me n) { entryAt (me n) n with cause := some .lineRecovery } ∧
    nt.clashes = n.nt.clashes := by
  obtain ⟨cu, nt, h, he, hc⟩ := clearCond_eq .lineWarn
    { ownCause { n with
        lc := { n.lc with state := .joining, recoveryMark := true, send := 0, recv := 0, queue := [],
                          recovery := none }
        su := { n.su with announceCause := .lineRecovery } } with
      lc := { n.lc with state := .joining, recoveryMark := true, send := 0, recv := 0, queue := [],
                        recovery := none } }
  exact ⟨cu, nt, (recount_of_low (by simp) (by simp)).trans h, he, hc⟩

theorem ownCause_only (n : Node) : onlyChanges [.table] n (ownCause n) := by
  intro p hp hr
  cases p <;> simp_all [keeps, reporting, ownCause, setEntry]

theorem recoveryOver_only (n : Node) : onlyChanges [.start, .line, .table, .conds] n (recoveryOver n) := by
  refine onlyChanges_trans ?_ (onlyChanges_mono (by simp) (recount_only _))
  refine onlyChanges_trans (m := { n with lc := _, su := _ }) ?_ (onlyChanges_mono (by simp) (ownCause_only _))
  intro p hp hr
  cases p <;> simp_all [keeps, reporting]

/-! ### The resets -/

theorem completes_answer {i : Instr} {s : State} {f : Node → Node} {P : Node → Prop}
    (hi : exec i s = answer f s) (h : P (f s.node)) : completes i s P := ⟨{ s with node := f s.node }, hi, rfl, h⟩

theorem fullReset_lineAtReset (ok rose : Bool) (c : Cause) (serial : Option Byte) (n : Node) :
    lineAtReset (fullReset ok rose c serial n).lc := ⟨rfl, rfl, rfl, rfl, rfl, rfl, rfl, rfl, rfl, rfl⟩

theorem eq_of_isHardReset {c : Instr} (h : isHardReset c = true) :
    c = .powerOn ∨ c = .resetPin ∨ c = .supplyBelowThreshold := by
  cases c <;> simp_all [isHardReset]

/-- A RESTART that R25 takes resets the node. -/
theorem restartArrives_of_taken {rx : Rx} {t k : Byte} {n : Node} (hl : loaded n = true)
    (hj : joins rx.lead.val n = true) (hs : slotClear rx n = true) (ht : restartTaken t k (accepted rx n) = true) :
    restartArrives rx t k n = restartReset k (accepted rx n) := by
  simp [restartArrives, hl, hj, hs, ht]

/-- Settles O4: the resets give the reset line controller by their definitions; in JOINING no request enters the queue,
so nothing but LINE_WARN follows the recovery. -/
theorem lineControllerAfterResetAndRecovery : Obligations.LineControllerAfterResetAndRecovery := by
  unfold Obligations.LineControllerAfterResetAndRecovery
  refine ⟨fun c s hc => ?_, fun rx t k s hl hj hs ht => ?_, fun st r s hr ho => ?_, fun s hl ho => ?_⟩
  · obtain rfl | rfl | rfl := eq_of_isHardReset hc <;>
      exact completes_answer rfl (fullReset_lineAtReset _ _ _ _ _)
  · refine completes_answer rfl ?_
    rw [restartArrives_of_taken hl hj hs ht]
    exact fullReset_lineAtReset _ _ _ _ _
  · refine completes_answer rfl ?_
    simp only [hr, ho, and_self, if_true]
    exact ⟨rfl, rfl⟩
  · refine completes_live_if (f := recoveryOver) rfl hl ho ?_
    obtain ⟨cu, nt, h, he, hc⟩ := recoveryOver_eq s.node
    have hj : (finish (recoveryOver s.node)).lc = (recoveryOver s.node).lc :=
      finish_lc_offLine (.inl (by rw [h]))
    have hsu : (finish (recoveryOver s.node)).su = (recoveryOver s.node).su :=
      (finish_only _) .start (by simp) (by decide)
    obtain ⟨hte, htc⟩ : keeps .table (recoveryOver s.node) (finish (recoveryOver s.node)) :=
      (finish_only _) .table (by simp) (by decide)
    refine ⟨?_, ?_, ?_, ?_, ?_, ?_, ?_, ?_, ?_, ?_, ?_, finish_line_only (recoveryOver_only _)⟩
    iterate 8 rw [hj, h]
    · rw [hsu, h]
    · rw [hte, h]; exact he
    · rw [htc, h]; exact hc

end Sys2Proof.Machine
end

section
/-! PROOF. The bit time with no command waiting (assumption log 4), and the end of JOINING (R20, R31). -/

namespace Sys2Proof.Machine

-- The text is checked as one file under a data limit that many waiting threads would exceed.
set_option Elab.async false

/-! ### Line controllers that differ in queue, tally and last error code only -/

theorem SameLine.refl (a : LC) : SameLine a a := ⟨a.queue, a.tally, a.lastErr, rfl⟩

theorem SameLine.trans {a b c : LC} (h : SameLine a b) (g : SameLine b c) : SameLine a c := by
  obtain ⟨q, t, e, rfl⟩ := h
  obtain ⟨q', t', e', rfl⟩ := g
  exact ⟨q', t', e', rfl⟩

theorem SameLine.quiet {a b : LC} (h : SameLine a b) : b.quiet = a.quiet := by
  obtain ⟨q, t, e, rfl⟩ := h
  rfl

/-! ### The end of JOINING (R20, R31) -/

theorem askJoining_only (n : Node) : onlyChanges [.start] n (askJoining n) := by
  refine onlyChanges_trans (m := { n with su := { n.su with joinPending := true } }) ?_ (onlyChanges_nil (ask_only _ _))
  intro p hp hr
  cases p <;> simp_all [keeps, reporting]

theorem firstFrames_only (n : Node) : onlyChanges [.start] n (firstFrames n) := by
  have hs : onlyChanges [.start] n (if hasStop n.cu.own && !txHas isStopall n then ask .stopall n else n) := by
    split
    · exact onlyChanges_nil (ask_only _ n)
    · exact onlyChanges_refl _ n
  unfold firstFrames
  generalize (if hasStop n.cu.own && !txHas isStopall n then ask .stopall n else n) = m at hs
  have hm : onlyChanges [.start] m { m with su := { m.su with firstActive := false } } := by
    intro p hp hr
    cases p <;> simp_all [keeps, reporting]
  have ha := onlyChanges_trans hs (onlyChanges_trans hm (askJoining_only _))
  dsimp only
  split
  · exact onlyChanges_trans ha (onlyChanges_nil (ask_only _ _))
  · exact ha

/-- A request leaves the start-up logic. -/
theorem ask_su (p : Payload) (n : Node) : (ask p n).su = n.su := ask_only p n .start (by simp) (by decide)

theorem askJoining_su (n : Node) : (askJoining n).su = { n.su with joinPending := true } := ask_su _ _

theorem firstFrames_su (n : Node) :
    (firstFrames n).su = { n.su with joinPending := true, firstActive := false } := by
  have hs : (if hasStop n.cu.own && !txHas isStopall n then ask .stopall n else n).su = n.su := by
    split
    · exact ask_su _ n
    · rfl
  unfold firstFrames
  generalize (if hasStop n.cu.own && !txHas isStopall n then ask .stopall n else n) = m at hs
  dsimp only
  split
  · rw [ask_su, askJoining_su, hs]
  · rw [askJoining_su, hs]

/-- The node as it has left JOINING, before its counts are looked at. -/
def leftJoining (n : Node) : Node :=
  let m := { n with lc := { n.lc with state := .active, recoveryMark := false } }
  if n.su.firstActive then firstFrames m else if n.lc.recoveryMark then askJoining m else m

theorem enterActive_eq (n : Node) : enterActive n = recount (leftJoining n) := rfl

theorem leftJoining_only (n : Node) :
    onlyChanges [.start] { n with lc := { n.lc with state := .active, recoveryMark := false } } (leftJoining n) := by
  unfold leftJoining
  dsimp only
  split_ifs
  · exact firstFrames_only _
  · exact askJoining_only _
  · exact onlyChanges_refl _ _

theorem leftJoining_su (n : Node) : ∃ j f, (leftJoining n).su = { n.su with joinPending := j, firstActive := f } := by
  unfold leftJoining
  dsimp only
  split_ifs
  · exact ⟨_, _, firstFrames_su _⟩
  · exact ⟨_, n.su.firstActive, askJoining_su _⟩
  · exact ⟨n.su.joinPending, n.su.firstActive, rfl⟩

theorem enterActive_only (n : Node) : onlyChanges [.start, .line, .conds] n (enterActive n) := by
  rw [enterActive_eq]
  refine onlyChanges_trans (onlyChanges_mono (by simp)
    (withLc_only { n.lc with state := .active, recoveryMark := false } n)) ?_
  exact onlyChanges_both (leftJoining_only n) (recount_only _) (by simp) (by simp)

theorem enterActive_su (n : Node) : ∃ j f, (enterActive n).su = { n.su with joinPending := j, firstActive := f } := by
  obtain ⟨j, f, h⟩ := leftJoining_su n
  exact ⟨j, f, (recount_only _ .start (by simp) (by decide)).trans h⟩

theorem enterActive_condIn (n : Node) : sameButLineWarn (enterActive n).cu.own n.cu.own := fun c hc hx =>
  (recount_condIn (leftJoining n) c hc hx).trans (condIn_of_onlyChanges (leftJoining_only n) (by simp) hx)

theorem leftJoining_sameLine (n : Node) :
    SameLine { n.lc with state := .active, recoveryMark := false } (leftJoining n).lc :=
  sameLine_of_onlyChanges (leftJoining_only n) (by simp)

theorem enterActive_quiet (n : Node) : (enterActive n).lc.quiet = n.lc.quiet :=
  (recount_sameLine (leftJoining n)).quiet.trans (leftJoining_sameLine n).quiet

/-! ### The bit time -/

/-- Whether the node drives its next level: an error run, or a driven bit of its attempt. -/
def drivesNext (lc : LC) : Bool := 0 < lc.errorRun || lc.txBits.head? == some true

theorem driveBit_quiet (lc : LC) : (driveBit lc).quiet = quietAfter (drivesNext lc) lc.quiet := by
  unfold driveBit drivesNext
  split_ifs with h
  · simp [h, countQuiet]
  · rcases hb : lc.txBits with _ | ⟨b, bs⟩
    · simp [h, countQuiet]
    · cases b <;> simp [h, countQuiet]

theorem driveBit_capture (lc : LC) : (driveBit lc).capture = lc.capture := by unfold driveBit; split <;> rfl

theorem driveBit_state (lc : LC) : (driveBit lc).state = lc.state := by unfold driveBit; split <;> rfl

theorem readyToSend_of_due {n : Node} (h : attemptDue n = true) : readyToSend n.lc = true := by
  simp only [attemptDue, Bool.and_eq_true] at h
  exact h.1

theorem lineBit_due {n : Node} (h : attemptDue n = true) :
    lineBit n = { n with lc := driveBit (beginAttempt n).lc } := by
  unfold lineBit
  rw [if_pos h]
  rfl

theorem lineBit_notDue {n : Node} (h : attemptDue n = false) : lineBit n = { n with lc := driveBit n.lc } := by
  unfold lineBit
  rw [if_neg (by simp [h])]

/-- The bit time touches the line controller and the phase. -/
theorem lineBit_eq (n : Node) : ∃ x : LC, lineBit n = { n with lc := x } ∧ x.state = n.lc.state := by
  cases h : attemptDue n with
  | true => exact ⟨_, lineBit_due h, driveBit_state _⟩
  | false => exact ⟨_, lineBit_notDue h, driveBit_state _⟩

/-- The bit time in which an attempt begins drives its start bit. -/
theorem lineBit_of_due {n : Node} (h : attemptDue n = true) :
    (lineBit n).lc.capture = some { tick := n.pg.tick, phase := n.pg.phase } ∧ (lineBit n).lc.quiet = 0 := by
  obtain ⟨-, hh, hs, -⟩ := (readyToSend_iff _).1 (readyToSend_of_due h)
  obtain ⟨before, e, after, hq, hb, he, hi⟩ := exists_head_split hh
  have hlc := beginAttempt_lc hs hq hb he hi
  rw [lineBit_due h]
  refine ⟨?_, ?_⟩
  · rw [driveBit_capture, hlc]
  · rw [driveBit_quiet, hlc]
    simp [drivesNext, attemptBits, quietAfter]

/-- What the bit time at a node whose LOADING is over leaves: in JOINING at a quiet count of 128 the node has left
it. -/
theorem bitTime_loaded {n : Node} (hl : loaded n = true) :
    bitTime n = phaseBit (lineBit n) ∨
      (n.lc.state = .joining ∧ bitTime n = finish (enterActive (phaseBit (lineBit n)))) := by
  obtain ⟨x, hx, hst⟩ := lineBit_eq n
  have hr : n.su.start ≠ .inReset := by
    intro h
    simp [loaded, h] at hl
  have hs : (phaseBit (lineBit n)).lc.state = n.lc.state := by rw [hx]; exact hst
  unfold bitTime
  simp only [hr, hl, if_false, Bool.not_true, Bool.false_eq_true, hs]
  split_ifs with h
  · exact .inr ⟨h.1, rfl⟩
  · exact .inl rfl

theorem phaseBit_lineBit_only (n : Node) : onlyChanges [.line, .path] n (phaseBit (lineBit n)) := by
  obtain ⟨x, hx, -⟩ := lineBit_eq n
  rw [hx]
  exact onlyChanges_both (withLc_only x n) (withPg_only _ _) (by simp) (by simp)

/-- What the statement asks of every bit time outside a full reset. -/
structure OneBitTime (n t : Node) : Prop where
  path : t.pg = { n.pg with phase := phaseAfter n.pg.tickLen (bitMicros n.su.bitTime) n.pg.phase }
  start : { t.su with joinPending := n.su.joinPending, firstActive := n.su.firstActive } = n.su
  conds : sameButLineWarn t.cu.own n.cu.own
  only : onlyChanges [.start, .line, .path, .conds] n t

theorem phaseBit_lineBit_oneBitTime (n : Node) : OneBitTime n (phaseBit (lineBit n)) := by
  have ho := phaseBit_lineBit_only n
  obtain ⟨x, hx, -⟩ := lineBit_eq n
  rw [hx] at ho ⊢
  exact ⟨rfl, rfl, fun _ _ _ => rfl, onlyChanges_mono (by simp) ho⟩

theorem OneBitTime.leaveJoining {n m : Node} (h : OneBitTime n m) : OneBitTime n (finish (enterActive m)) where
  path := ((finish_line_only (enterActive_only m)) .path (by simp) (by decide)).trans h.path
  start := by
    obtain ⟨j, f, he⟩ := enterActive_su m
    rw [show (finish (enterActive m)).su = (enterActive m).su from finish_only _ .start (by simp) (by decide), he]
    exact h.start
  conds := fun c hc hx =>
    ((condIn_of_onlyChanges (finish_only _) (by simp) hx).trans (enterActive_condIn m c hc hx)).trans (h.conds c hc hx)
  only := onlyChanges_trans h.only (finish_line_only (onlyChanges_mono (by simp) (enterActive_only m)))

theorem bitTime_oneBitTime {n : Node} (hr : n.su.start ≠ .inReset) : OneBitTime n (bitTime n) := by
  by_cases hl : loaded n = true
  · obtain h | ⟨-, h⟩ := bitTime_loaded hl
    · exact h ▸ phaseBit_lineBit_oneBitTime n
    · exact h ▸ (phaseBit_lineBit_oneBitTime n).leaveJoining
  · have hb : bitTime n = phaseBit n := by simp [bitTime, hr, hl]
    rw [hb]
    exact ⟨rfl, rfl, fun _ _ _ => rfl, onlyChanges_mono (by simp) (withPg_only _ n)⟩

/-- Settles O2: the bit time is the level driven and counted, the phase, and in JOINING the end of it. -/
theorem emptyQueueStepIsOneBitTime : Obligations.EmptyQueueStepIsOneBitTime := by
  unfold Obligations.EmptyQueueStepIsOneBitTime
  intro s hp
  obtain ⟨n, pending⟩ := s
  subst hp
  refine ⟨{ node := bitTime n, pending := [] }, rfl, rfl, fun hr => ?_, fun hr => ?_, fun hr => ?_,
    fun hl => ⟨fun hd => ?_, fun hd => ?_⟩⟩
  · rw [bitTime, if_pos hr]
  · have hb : bitTime n = phaseBit n := by simp [bitTime, show n.su.start = .loading from hr, loaded]
    rw [hb]
    rfl
  · obtain ⟨hpath, hstart, hconds, honly⟩ := bitTime_oneBitTime hr
    refine ⟨?_, ?_, hstart, hconds, honly, fun hj => ?_⟩
    · rw [hpath]
    · rw [hpath]; rfl
    · by_cases hl : loaded n = true
      · obtain h | ⟨h, -⟩ := bitTime_loaded hl
        · exact h ▸ phaseBit_lineBit_only n
        · exact absurd h hj
      · have hb : bitTime n = phaseBit n := by simp [bitTime, show n.su.start ≠ .inReset from hr, hl]
        rw [hb]
        exact onlyChanges_mono (by simp) (withPg_only _ n)
  · have hj : n.lc.state ≠ .joining := by
      intro h
      have := ((readyToSend_iff _).1 (readyToSend_of_due hd)).1
      simp [h, onLine] at this
    obtain h | ⟨h, -⟩ := bitTime_loaded hl
    · rw [show (bitTime n).lc = (lineBit n).lc by rw [h]; rfl]
      exact lineBit_of_due hd
    · exact absurd h hj
  · have hq : (bitTime n).lc.quiet = (lineBit n).lc.quiet := by
      obtain h | ⟨-, h⟩ := bitTime_loaded hl
      · rw [h]; rfl
      · rw [h, (finish_sameLine _).quiet, enterActive_quiet]; rfl
    rw [hq, lineBit_notDue hd, driveBit_quiet]
    simp [quietAfter, drivesNext, Nat.min_comm]

end Sys2Proof.Machine
end

section
/-! PROOF. What an accepted BLOCK does to the queue (R57 to R61), and the busy objection (R8). -/

namespace Sys2Proof.Machine

-- The text is checked as one file under a data limit that many waiting threads would exceed.
set_option Elab.async false

/-! ### The queue through the evaluation of its head -/

/-- What the evaluation leaves of an entry: its number, its fields, and its state unless it was QUEUED. -/
structure EntryStands (x y : Entry) : Prop where
  num : y.num = x.num
  fields : y.fields = x.fields
  state : y.state = x.state ∨ x.state = .queued ∧ y.state = .evaluated

theorem EntryStands.refl (x : Entry) : EntryStands x x := ⟨rfl, rfl, .inl rfl⟩

/-- An entry as its evaluation writes it (R61). -/
def evaluatedAs (e : Entry) (rs : List RoleFill) : Entry :=
  { e with state := .evaluated, roles := rs, orphan := orphanedBy rs, verdicts := [] }

theorem ask_bq (p : Payload) (n : Node) : (ask p n).bq = n.bq := ask_only p n .blocks (by simp) (by decide)

theorem clActOn_bq (e : Entry) (n : Node) : (clActOn e n).bq = n.bq := by
  unfold clActOn
  split
  · split <;> rfl
  · rfl

theorem clearCond_bq (c : Cond) (n : Node) : (clearCond c n).bq = n.bq := by
  unfold clearCond
  split <;> rfl

/-- A change of the head presets the head wait timer and leaves the rest of the queue. -/
theorem noteHead_bq (old : Option BlockNo) (n : Node) : ∃ k, (noteHead old n).bq = { n.bq with headTimer := k } := by
  unfold noteHead
  split
  · exact ⟨n.bq.headTimer, rfl⟩
  · exact ⟨n.par.headWait, clearCond_bq _ _⟩

theorem firstVerdict_bq (e : Entry) (n : Node) : ∃ g : Entry → Entry,
    (firstVerdict e n).bq = { n.bq with entries := n.bq.entries.map g } ∧ ∀ x, EntryStands x (g x) := by
  unfold firstVerdict
  split
  · refine ⟨fun x => if x.num = e.num then { x with lastAsked := some (ownVerdict e n) } else x, ask_bq _ _,
      fun x => ?_⟩
    dsimp only
    split
    · exact ⟨rfl, rfl, .inl rfl⟩
    · exact .refl x
  · exact ⟨id, by simp, .refl⟩

/-- The evaluation rewrites entries in their places; an entry whose number no other carries keeps its number and
fields. -/
theorem evaluateHead_bq (n : Node) : ∃ g : Entry → Entry,
    (evaluateHead n).bq = { n.bq with entries := n.bq.entries.map g } ∧
      ∀ x, (∀ e ∈ n.bq.entries, e.num = x.num → e = x) → EntryStands x (g x) := by
  unfold evaluateHead
  split
  · rename_i e he
    have hmem : e ∈ n.bq.entries := List.mem_of_find?_eq_some he
    split
    · rename_i f hq hf
      obtain ⟨g, hg, hs⟩ := firstVerdict_bq (evaluatedAs e (fillRoles (neededRoles f n.bq) n))
        (clActOn (evaluatedAs e (fillRoles (neededRoles f n.bq) n))
          (onEntry e.num (fun _ => evaluatedAs e (fillRoles (neededRoles f n.bq) n)) n))
      refine ⟨fun x => g (if x.num = e.num then evaluatedAs e (fillRoles (neededRoles f n.bq) n) else x), ?_,
        fun x hx => ?_⟩
      · refine hg.trans ?_
        rw [clActOn_bq]
        simp [onEntry]
      · dsimp only
        split
        · rename_i hxe
          obtain rfl := hx e hmem hxe.symm
          obtain ⟨hn, hfl, hst⟩ := hs (evaluatedAs e (fillRoles (neededRoles f n.bq) n))
          exact ⟨hn, hfl, .inr ⟨hq, by simpa [evaluatedAs] using hst⟩⟩
        · exact hs x
    · exact ⟨id, by simp, fun x _ => .refl x⟩
  · exact ⟨id, by simp, fun x _ => .refl x⟩

/-! ### A block taken (R58) -/

/-- The node with a taken block's entry at the end of its queue. -/
def blockAppended (b : BlockBody) (n : Node) : Node :=
  { (takenEntry b n).2 with
    bq := { (takenEntry b n).2.bq with
      entries := (takenEntry b n).2.bq.entries ++ [(takenEntry b n).1], expected := some (b.num + 1) } }

theorem takeBlock_eq (b : BlockBody) (n : Node) :
    takeBlock b n = evaluateHead (noteHead (headNum n) (blockAppended b n)) := rfl

theorem blockAppended_bq (b : BlockBody) (n : Node) : (blockAppended b n).bq =
    { n.bq with entries := n.bq.entries ++ [(takenEntry b n).1], expected := some (b.num + 1) } := by
  simp only [blockAppended, takenEntry_bq]

theorem takenEntry_num (b : BlockBody) (n : Node) : (takenEntry b n).1.num = b.num := by
  unfold takenEntry
  split <;> rfl

theorem takeBlock_bq (b : BlockBody) (n : Node) (hd : ∀ x ∈ n.bq.entries, x.num ≠ b.num) :
    ∃ (g : Entry → Entry) (k : Nat), (takeBlock b n).bq =
      { n.bq with entries := (n.bq.entries ++ [(takenEntry b n).1]).map g, expected := some (b.num + 1),
                  headTimer := k } ∧
      EntryStands (takenEntry b n).1 (g (takenEntry b n).1) := by
  obtain ⟨k, hk⟩ := noteHead_bq (headNum n) (blockAppended b n)
  obtain ⟨g, hg, hs⟩ := evaluateHead_bq (noteHead (headNum n) (blockAppended b n))
  rw [hk, blockAppended_bq] at hg hs
  refine ⟨g, k, hg, hs _ fun e he h => ?_⟩
  rcases List.mem_append.1 he with he | he
  · exact absurd (h.trans (takenEntry_num b n)) (hd e he)
  · exact List.mem_singleton.1 he

theorem takenEntry_good {b : BlockBody} (n : Node) (h : blockGoodForm b = true) :
    (takenEntry b n).1.num = b.num ∧ (takenEntry b n).1.fields = some (blockFields b) ∧
      (takenEntry b n).1.state = .queued := by
  unfold takenEntry
  rw [if_pos h]
  exact ⟨rfl, rfl, rfl⟩

theorem takenEntry_bad {b : BlockBody} (n : Node) (h : blockGoodForm b = false) :
    (takenEntry b n).1.num = b.num ∧ (takenEntry b n).1.fields = none ∧ (takenEntry b n).1.state = .invalid := by
  unfold takenEntry
  rw [if_neg (by simp [h])]
  exact ⟨rfl, rfl, rfl⟩

/-- The last entry of the queue after a block was taken. -/
theorem taken_stands {b : BlockBody} {n : Node} {y : Entry} (h : EntryStands (takenEntry b n).1 y) :
    y.num = b.num ∧
      (blockGoodForm b = true →
        y.fields = some (blockFields b) ∧ (y.state = .queued ∨ y.state = .evaluated)) ∧
      (blockGoodForm b = false → y.fields = none ∧ y.state = .invalid) := by
  refine ⟨h.num.trans (takenEntry_num b n), fun hg => ?_, fun hb => ?_⟩
  · obtain ⟨-, hf, hs⟩ := takenEntry_good n hg
    exact ⟨h.fields.trans hf, h.state.imp (·.trans hs) (·.2)⟩
  · obtain ⟨-, hf, hs⟩ := takenEntry_bad n hb
    refine ⟨h.fields.trans hf, h.state.elim (·.trans hs) fun hq => ?_⟩
    rw [hs] at hq
    cases hq.1

/-! ### A BLOCK at the node -/

theorem acceptBlock_takes {b : BlockBody} {n : Node} (ht : takesNumber b.num n.bq = true)
    (hl : n.bq.entries.length < 16) : acceptBlock b n = takeBlock b n := by simp [acceptBlock, ht, hl]

theorem acceptBlock_duplicate {b : BlockBody} {n : Node} (ht : takesNumber b.num n.bq = false)
    (hd : isDuplicate b.num n.bq = true) : acceptBlock b n = n := by simp [acceptBlock, ht, hd]

theorem acceptBlock_gap {b : BlockBody} {n : Node} (ht : takesNumber b.num n.bq = false)
    (hd : isDuplicate b.num n.bq = false) : acceptBlock b n = raiseGap b.num n := by simp [acceptBlock, ht, hd]

theorem joinedFrame_of_joins {rx : Rx} {n : Node} (f : Node → Node) (hj : joins rx.lead.val n = true) :
    joinedFrame rx f n = f n := by simp [joinedFrame, hj]

theorem takeFrame_of_slotClear {rx : Rx} {n : Node} (f : Node → Node) (hs : slotClear rx n = true) :
    takeFrame rx f n = f n := by simp [takeFrame, hs]

theorem bqUsed_accepted {rx : Rx} {n : Node} (h : n.su.start = .configured) : bqUsed (accepted rx n) = true := by
  simp [bqUsed, (accepted_steady rx n).start, h]

theorem blockArrives_accepts {rx : Rx} {b : BlockBody} {n : Node} (hc : n.su.start = .configured)
    (ht : turnsAway rx b.num n = false) (hs : slotClear rx n = true) :
    blockArrives rx b n = acceptBlock b (accepted rx n) := by
  simp [blockArrives, ht, takeFrame_of_slotClear _ hs, bqUsed_accepted hc]

theorem blockArrives_turned {rx : Rx} {b : BlockBody} {n : Node} (ht : turnsAway rx b.num n = true) :
    blockArrives rx b n = busyObjection rx n := by simp [blockArrives, ht]

theorem busyObjection_only (rx : Rx) (n : Node) : onlyChanges [.line, .path] n (busyObjection rx n) := by
  refine onlyChanges_trans (m := atSlotEnd rx (leaveFrame (slotQuiet (inSlot rx n) rx) n)) ?_
    (onlyChanges_mono (by simp) (withLc_only _ _))
  exact onlyChanges_both (leaveFrame_only _ n) (atSlotEnd_only rx _) (by simp) (by simp)

/-- Settles O20: a taken block is one entry more at the end, which the evaluation of the head can only move on from
QUEUED; a gap is a raising; and the objection sets the busy bit. -/
theorem blockAcceptance : Obligations.BlockAcceptance := by
  unfold Obligations.BlockAcceptance
  intro rx b s hc hj
  have hl : loaded s.node = true := by simp [loaded, hc]
  refine ⟨fun ht hs => completes_live rfl hl ?_, fun h => ?_, fun hfull ht hp ho => completes_live rfl hl ?_⟩
  · rw [joinedFrame_of_joins _ hj, blockArrives_accepts hc ht hs]
    generalize accepted rx s.node = m
    refine ⟨fun htk hlen hd => ?_, fun htk hdup => ?_, fun htk hdup => ?_⟩
    · rw [acceptBlock_takes htk hlen]
      obtain ⟨g, k, hbq, hst⟩ := takeBlock_bq b m hd
      rw [show (finish (takeBlock b m)).bq = _ from (finish_only _ .blocks (by simp) (by decide)).trans hbq]
      exact ⟨by simp, rfl, ⟨_, by simp, taken_stands hst⟩, rfl⟩
    · rw [acceptBlock_duplicate htk hdup]
      exact finish_only m
    · rw [acceptBlock_gap htk hdup]
      refine ⟨?_, finish_line_only (raiseHold_only _ _ m)⟩
      rw [condIn_of_onlyChanges (finish_only _) (by simp) (by decide), raiseGap, raiseHold_condIn _ _ _ (by decide)]
      simp
  · rcases h with h | h <;> simp [turnsAway, canTakeBlock, h]
  · have hin : inSlot rx s.node = true := by simp [inSlot, ho, hp]
    have ht' : turnsAway rx b.num s.node = true := by
      simp [turnsAway, canTakeBlock, bqUsed, hc, Nat.not_lt.2 hfull, ht, hin]
    rw [joinedFrame_of_joins _ hj, blockArrives_turned ht']
    obtain ⟨q, t, e, hf⟩ := finish_sameLine (busyObjection rx s.node)
    refine ⟨?_, ?_, finish_line_only (busyObjection_only rx _)⟩
    · rw [hf]; exact hin
    · rw [hf]; rfl

end Sys2Proof.Machine
end

section
/-! PROOF. A receiver reads from the line the frame that was sent (R2, R3, R185, R186): fields and bytes, payloads,
sync bits, and the header's fields one by one. -/

namespace Sys2Proof.Machine

-- The text is checked as one file under a data limit that many waiting threads would exceed.
set_option Elab.async false

/-! ### Fields of bytes -/

@[simp] theorem word16_hi8_lo8 (w : BitVec 16) : word16 (hi8 w) (lo8 w) = w :=
  (BitVec.extractLsb'_append_extractLsb'_eq_extractLsb' (by decide)).trans BitVec.extractLsb'_eq_self

@[simp] theorem word32_bytes (w : BitVec 32) :
    word32 (w.extractLsb' 24 8) (w.extractLsb' 16 8) (w.extractLsb' 8 8) (w.extractLsb' 0 8) = w := by
  unfold word32
  rw [BitVec.extractLsb'_append_extractLsb'_eq_extractLsb' (by decide),
    BitVec.extractLsb'_append_extractLsb'_eq_extractLsb' (by decide),
    BitVec.extractLsb'_append_extractLsb'_eq_extractLsb' (by decide)]
  exact BitVec.extractLsb'_eq_self

/-! ### Payloads (R186) -/

theorem compsOfBytes_compBytes (l : List RawComp) : compsOfBytes (l.flatMap compBytes) = some l := by
  induction l with
  | nil => rfl
  | cons c l ih => simp [compBytes, bytes32, compsOfBytes, ih]

theorem blockOfBytes_blockBytes (b : BlockBody) : blockOfBytes (blockBytes b) = some b := by
  simp [blockBytes, bytes32, blockOfBytes, compsOfBytes_compBytes]

theorem stateOfBytes_stateBytes (b : StateBody) : stateOfBytes (stateBytes b) = some b := by
  obtain ⟨m, fl, cs, rn, la, dp, gb, rp, cf, ct, ca, ln, ty, le, panel⟩ := b
  cases panel with
  | none => simp [stateBytes, bytes32, stateOfBytes, panelOfBytes]
  | some p => simp [stateBytes, bytes32, panelBytes, stateOfBytes, panelOfBytes]

theorem faultOfBytes_faultBytes {b : FaultBody} (h : b.counts.length = 30) :
    faultOfBytes (faultBytes b) = some b := by
  simp [faultBytes, bytes32, faultOfBytes, h]

theorem offsetOfBytes_bytes (b : OffsetBody) : offsetOfBytes (payloadBytes (.offset b)) = some b := by
  simp [payloadBytes, bytes32, offsetOfBytes]

/-- The bytes of a well-formed payload are read as the payload. -/
theorem payloadOfBytes_payloadBytes {p : Payload} (h : p.wf = true) :
    payloadOfBytes (payloadKind p) (payloadBytes p) = some p := by
  unfold payloadOfBytes
  have hw := h
  rw [Payload.wf] at h
  rw [if_pos h]
  cases p with
  | block b => simp [payloadKind, payloadBytes, blockOfBytes_blockBytes]
  | offset b => simp [payloadKind, offsetOfBytes_bytes]
  | state b => simp [payloadKind, payloadBytes, stateOfBytes_stateBytes]
  | fault b => simp [payloadKind, payloadBytes, faultOfBytes_faultBytes ((Laws.fault_wf b).1 hw)]
  | panel b => simp [payloadKind, payloadBytes, panelBytes]
  | _ => simp [payloadKind, payloadBytes]

theorem kindOfCode_kindCode (k : Kind) : kindOfCode (kindCode k) = some k := by cases k <;> rfl

theorem kindCode_lt (k : Kind) : kindCode k < 64 := by cases k <;> decide

theorem kindClass_lt (k : Kind) : kindClass k < 4 := by cases k <;> decide

theorem length_le_of_wf {p : Payload} (h : p.wf = true) : (payloadBytes p).length ≤ 48 := by
  have hk (k : Kind) : ∀ n ∈ kindLengths k, n ≤ 48 := by cases k <;> decide
  exact hk _ _ (by simpa [Payload.wf] using h)

/-! ### Bits and numbers -/

@[simp] theorem length_bitsOf (n v : Nat) : (bitsOf n v).length = n := by
  induction n with
  | zero => rfl
  | succ n ih => simp [bitsOf, ih]

theorem foldl_bitsOf (n v acc : Nat) :
    (bitsOf n v).foldl (fun acc b => 2 * acc + b.toNat) acc = acc * 2 ^ n + v % 2 ^ n := by
  induction n generalizing acc with
  | zero => simp [bitsOf, Nat.mod_one]
  | succ n ih =>
    rw [bitsOf, List.foldl_cons, ih, Nat.mod_pow_succ, Nat.toNat_testBit, Nat.pow_succ]
    ring

theorem numOf_bitsOf (n v : Nat) : numOf (bitsOf n v) = v % 2 ^ n :=
  (foldl_bitsOf n v 0).trans (by simp)

theorem numOf_bitsOf_of_lt {n v : Nat} (h : v < 2 ^ n) : numOf (bitsOf n v) = v := by
  rw [numOf_bitsOf, Nat.mod_eq_of_lt h]

theorem ofNat_numOf_bitsOf {n : Nat} (w : BitVec n) : BitVec.ofNat n (numOf (bitsOf n w.toNat)) = w := by
  rw [numOf_bitsOf_of_lt w.isLt]
  simp

theorem byteBits_cons (b : Byte) (bs : List Byte) : byteBits (b :: bs) = bitsOf 8 b.toNat ++ byteBits bs := rfl

theorem bytesOfBits_byteBits (bs : List Byte) : bytesOfBits (byteBits bs) = bs := by
  induction bs with
  | nil => rfl
  | cons b bs ih =>
    have h : bytesOfBits (bitsOf 8 b.toNat ++ byteBits bs) =
        BitVec.ofNat 8 (numOf (bitsOf 8 b.toNat)) :: bytesOfBits (byteBits bs) := rfl
    rw [byteBits_cons, h, ofNat_numOf_bitsOf, ih]

@[simp] theorem length_byteBits (bs : List Byte) : (byteBits bs).length = 8 * bs.length := by
  induction bs with
  | nil => rfl
  | cons b bs ih => simp [byteBits_cons, ih]; omega

/-! ### Sync bits (R2) -/

theorem unstuffFrom_stuffFrom (k : Nat) (bits : List Bool) : unstuffFrom k (stuffFrom k bits) = (bits, true) := by
  induction bits generalizing k with
  | nil => rfl
  | cons b bs ih =>
    by_cases h : k = 7
    · simp [stuffFrom, unstuffFrom, h, ih 0]
    · have hu : unstuffFrom k (b :: stuffFrom (k + 1) bs) =
          (b :: (unstuffFrom (k + 1) (stuffFrom (k + 1) bs)).1, (unstuffFrom (k + 1) (stuffFrom (k + 1) bs)).2) := by
        rw [unstuffFrom.eq_def]
        exact if_neg h
      simp [stuffFrom, h, hu, ih (k + 1)]

theorem length_stuffFrom {k : Nat} (hk : k ≤ 7) (bits : List Bool) :
    (stuffFrom k bits).length = bits.length + (k + bits.length) / 8 := by
  induction bits generalizing k with
  | nil => simp [stuffFrom]; omega
  | cons b bs ih =>
    by_cases h : k = 7
    · simp [stuffFrom, h, ih (Nat.zero_le 7)]; omega
    · simp [stuffFrom, h, ih (show k + 1 ≤ 7 by omega)]; omega

/-- A frame of whole bytes ends with a sync bit. -/
theorem take_stuffFrom {bits : List Bool} {m : Nat} (h : bits.length = 8 * m) :
    (stuffFrom 0 bits).take (m * 9) = stuffFrom 0 bits := by
  apply List.take_of_length_le
  rw [length_stuffFrom (Nat.zero_le 7), h]
  omega

/-! ### The header's fields (R185) -/

theorem length_headerBits (h : Header) : (headerBits h).length = if h.stamp.isSome then 56 else 24 := by
  obtain ⟨c, s, k, stamp, l⟩ := h
  cases stamp <;> rfl

theorem fieldAt_class (h : Header) (rest : List Bool) :
    fieldAt (headerBits h ++ rest) 0 2 = numOf (bitsOf 2 h.cls) := rfl

theorem fieldAt_sender (h : Header) (rest : List Bool) :
    fieldAt (headerBits h ++ rest) 2 4 = numOf (bitsOf 4 h.sender.val) := rfl

theorem fieldAt_code (h : Header) (rest : List Bool) :
    fieldAt (headerBits h ++ rest) 6 6 = numOf (bitsOf 6 h.code) := rfl

theorem fieldAt_stampFlag (h : Header) (rest : List Bool) :
    fieldAt (headerBits h ++ rest) 12 1 = h.stamp.isSome.toNat := by
  obtain ⟨c, s, k, stamp, l⟩ := h
  cases stamp <;> rfl

theorem fieldAt_length (h : Header) (rest : List Bool) :
    fieldAt (headerBits h ++ rest) 13 7 = numOf (bitsOf 7 h.len) := rfl

theorem stampOf_headerBits (h : Header) (rest : List Bool) : stampOf (headerBits h ++ rest) = h.stamp := by
  unfold stampOf
  rw [fieldAt_stampFlag]
  obtain ⟨c, s, k, stamp, l⟩ := h
  cases stamp with
  | none => rfl
  | some st =>
    have ht : fieldAt (headerBits ⟨c, s, k, some st, l⟩ ++ rest) 24 16 = numOf (bitsOf 16 st.tick.toNat) := rfl
    have hp : fieldAt (headerBits ⟨c, s, k, some st, l⟩ ++ rest) 40 10 = numOf (bitsOf 10 st.phase.toNat) := rfl
    rw [ht, hp, ofNat_numOf_bitsOf, ofNat_numOf_bitsOf]
    rfl

theorem fieldAt_append {a : List Bool} (n v : Nat) : fieldAt (a ++ bitsOf n v) a.length n = numOf (bitsOf n v) := by
  unfold fieldAt
  rw [List.drop_left, List.take_of_length_le (by simp)]

/-! ### The judgement -/

/-- Header and payload of a frame, before the check. -/
def dataBits (sender : NodeNo) (stamp : Option Stamp) (p : Payload) : List Bool :=
  headerBits (headerOf sender stamp p) ++ byteBits (payloadBytes p)

theorem frameBits_eq (sender : NodeNo) (stamp : Option Stamp) (p : Payload) :
    frameBits sender stamp p =
      stuffFrom 0 (dataBits sender stamp p ++ bitsOf 16 (crcOf (dataBits sender stamp p)).toNat) := rfl

theorem length_dataBits (sender : NodeNo) (stamp : Option Stamp) (p : Payload) :
    (dataBits sender stamp p).length = (if stamp.isSome then 56 else 24) + 8 * (payloadBytes p).length := by
  simp [dataBits, length_headerBits, headerOf]

/-- What R3's second point asks holds of what the header of a payload says. -/
theorem judgeForm_dataBits {p : Payload} (hw : p.wf = true) (sender : NodeNo) {stamp : Option Stamp}
    (hs : stamp.isSome = kindStamped (payloadKind p)) (rest : List Bool) :
    judgeForm (headerBits (headerOf sender stamp p) ++ rest) stamp (payloadBytes p) = .whole sender stamp p := by
  have hcode : fieldAt (headerBits (headerOf sender stamp p) ++ rest) 6 6 = kindCode (payloadKind p) :=
    (fieldAt_code _ _).trans (numOf_bitsOf_of_lt (kindCode_lt _))
  have hcls : fieldAt (headerBits (headerOf sender stamp p) ++ rest) 0 2 = kindClass (payloadKind p) :=
    (fieldAt_class _ _).trans (numOf_bitsOf_of_lt (kindClass_lt _))
  have hsend : fieldAt (headerBits (headerOf sender stamp p) ++ rest) 2 4 = sender.val :=
    (fieldAt_sender _ _).trans (numOf_bitsOf_of_lt sender.isLt)
  unfold judgeForm
  simp only [hcode, hcls, hsend, kindOfCode_kindCode, hs, and_self, if_true, payloadOfBytes_payloadBytes hw,
    Nat.mod_eq_of_lt sender.isLt, Fin.eta]

theorem judgeBits_frameBits {p : Payload} (hw : p.wf = true) (sender : NodeNo) {stamp : Option Stamp}
    (hs : stamp.isSome = kindStamped (payloadKind p)) :
    judgeBits (frameBits sender stamp p) = .whole sender stamp p := by
  have hlen := length_le_of_wf hw
  have hhead : (headerBits (headerOf sender stamp p)).length = if stamp.isSome then 56 else 24 := length_headerBits _
  have hbody := length_dataBits sender stamp p
  generalize hc : crcOf (dataBits sender stamp p) = crc
  generalize hd : dataBits sender stamp p ++ bitsOf 16 crc.toNat = data
  have hh : data = headerBits (headerOf sender stamp p) ++ (byteBits (payloadBytes p) ++ bitsOf 16 crc.toNat) := by
    rw [← hd, dataBits, List.append_assoc]
  have hflag : fieldAt data 12 1 = stamp.isSome.toNat := by rw [hh]; exact fieldAt_stampFlag _ _
  have hlf : fieldAt data 13 7 = (payloadBytes p).length := by
    rw [hh, fieldAt_length]
    exact numOf_bitsOf_of_lt (show (payloadBytes p).length < 2 ^ 7 by omega)
  have hif : (if fieldAt data 12 1 = 1 then 56 else 24) = (headerBits (headerOf sender stamp p)).length := by
    rw [hflag, hhead]
    cases stamp <;> rfl
  have hb : (headerBits (headerOf sender stamp p)).length + 8 * (payloadBytes p).length =
      (dataBits sender stamp p).length := by rw [hhead, hbody]
  have hdl : data.length = (dataBits sender stamp p).length + 16 := by rw [← hd]; simp
  have hm : ∃ m, (dataBits sender stamp p).length + 16 = 8 * m := by
    rw [hbody]
    split
    · exact ⟨9 + (payloadBytes p).length, by omega⟩
    · exact ⟨5 + (payloadBytes p).length, by omega⟩
  obtain ⟨m, hm⟩ := hm
  have h20 : ¬ data.length < 20 := by
    rw [hdl, hbody]
    split <;> omega
  have htake : (stuffFrom 0 data).take (((dataBits sender stamp p).length + 16) / 8 * 9) = stuffFrom 0 data := by
    rw [hm, Nat.mul_div_cancel_left m (by decide)]
    exact take_stuffFrom (hdl.trans hm)
  have hcrc : crcOf (data.take (dataBits sender stamp p).length) =
      BitVec.ofNat 16 (fieldAt data (dataBits sender stamp p).length 16) := by
    rw [← hd, fieldAt_append, ofNat_numOf_bitsOf, List.take_left, hc]
  have hpay : (data.drop (headerBits (headerOf sender stamp p)).length).take
      ((dataBits sender stamp p).length - (headerBits (headerOf sender stamp p)).length) =
      byteBits (payloadBytes p) := by
    rw [hh, List.drop_left, ← hb, Nat.add_sub_cancel_left, ← length_byteBits, List.take_left]
  rw [frameBits_eq, hc, hd]
  simp only [judgeBits, unstuffFrom_stuffFrom]
  rw [if_neg h20, hlf, if_neg (Nat.not_lt.2 hlen), hif, hb, htake, unstuffFrom_stuffFrom, hdl, hcrc, hpay,
    bytesOfBits_byteBits, if_neg (by simp), if_neg (by simp)]
  rw [hh, stampOf_headerBits]
  exact judgeForm_dataBits hw sender hs _

/-- Settles O40: the sync bits are taken out as they were put in, and each field of the header, the payload and the
check stands where the receiver looks for it. -/
theorem framesAreReadAsSent : Obligations.FramesAreReadAsSent := by
  unfold Obligations.FramesAreReadAsSent
  exact fun p sender stamp hw hs => judgeBits_frameBits hw sender hs

end Sys2Proof.Machine
end

section
/-! PROOF. The transmit queue entry by entry: what holds of every entry and is kept by requests holds after every
reaction. -/

namespace Sys2Proof.Machine

-- The text is checked as one file under a data limit that many waiting threads would exceed.
set_option Elab.async false

/-- Every entry of the transmit queue is as `E` says. -/
def AllTx (E : TxEntry → Prop) (n : Node) : Prop := ∀ e ∈ n.lc.queue, E e

/-- A request for `p` keeps `E`: the new entry has it, and so has an entry that the request replaces (R12, R13). -/
structure Takes (E : TxEntry → Prop) (p : Payload) : Prop where
  new : ∀ b k, E (newTx p b k)
  replaced : ∀ e k, E e → meets p e = true → E { e with payload := p, failed := 0, takenAt := k }

/-- A request for any FAULT keeps `E`. -/
def TakesFaults (E : TxEntry → Prop) : Prop := ∀ b : FaultBody, Takes E (.fault b)

section
variable {E : TxEntry → Prop}

theorem mem_insertTx {e x : TxEntry} {q : List TxEntry} : x ∈ insertTx e q ↔ x = e ∨ x ∈ q := by
  have h := List.takeWhile_append_dropWhile (p := fun y => decide (txClass y ≤ txClass e)) (l := q)
  constructor
  · intro hx
    rcases List.mem_append.1 hx with hx | hx
    · exact .inr ((List.takeWhile_sublist _).subset hx)
    · exact (List.mem_cons.1 hx).imp_right fun h => (List.dropWhile_sublist _).subset h
  · intro hx
    unfold insertTx
    rw [List.mem_append, List.mem_cons]
    rcases hx with hx | hx
    · exact .inr (.inl hx)
    · rw [← h] at hx
      exact (List.mem_append.1 hx).imp_right .inr

theorem mem_of_mem_dropLastPending {x : TxEntry} {q : List TxEntry} (h : x ∈ dropLastPending q) : x ∈ q := by
  have := List.mem_reverse.1 h
  exact List.mem_reverse.1 (List.mem_of_mem_eraseP this)

theorem mem_overflowTx {e x : TxEntry} {q : List TxEntry} (h : x ∈ overflowTx e q) : x = e ∨ x ∈ q := by
  unfold overflowTx at h
  split at h
  · split at h
    · exact (mem_insertTx.1 h).imp_right mem_of_mem_dropLastPending
    · exact .inr h
  · exact .inr h

theorem enqueue_all {p : Payload} (hp : Takes E p) (b : Bool) (k : Nat) {lc : LC} (h : ∀ e ∈ lc.queue, E e) :
    ∀ e ∈ (enqueue p b k lc).1.queue, E e := by
  unfold enqueue
  split_ifs
  · exact h
  · exact h
  · intro e he
    obtain ⟨x, hx, rfl⟩ := List.mem_map.1 he
    split
    · exact hp.replaced x k (h x hx) (by assumption)
    · exact h x hx
  · exact fun e he => (mem_insertTx.1 he).elim (fun h => h ▸ hp.new b k) (h e)
  · exact fun e he => (mem_overflowTx he).elim (fun h => h ▸ hp.new b k) (h e)

theorem enqueueAt_all {p : Payload} (hp : Takes E p) (b : Bool) {n : Node} (h : AllTx E n) :
    AllTx E (enqueueAt p b n).1 := enqueue_all hp b _ h

theorem withdrawPending_all (test : TxEntry → Bool) {n : Node} (h : AllTx E n) : AllTx E (withdrawPending test n) :=
  fun e he => h e (List.mem_of_mem_filter he)

theorem requestFault_all (hf : TakesFaults E) {n : Node} (h : AllTx E n) : AllTx E (requestFault n).1 :=
  enqueueAt_all (hf _) false (withdrawPending_all _ h)

theorem raiseOverflow_all (hf : TakesFaults E) {n : Node} (h : AllTx E n) : AllTx E (raiseOverflow n) := by
  have hr : AllTx E (requestFault (noteRaise .txqOverflow 0 n)).1 := requestFault_all hf h
  unfold raiseOverflow
  dsimp only
  split_ifs
  · exact hr
  · exact hr
  · exact h

theorem askWith_all (hf : TakesFaults E) {p : Payload} (hp : Takes E p) (b : Bool) {n : Node} (h : AllTx E n) :
    AllTx E (askWith p b n) := by
  unfold askWith
  dsimp only
  split
  · exact raiseOverflow_all hf (enqueueAt_all hp b h)
  · exact enqueueAt_all hp b h

theorem askFault_all (hf : TakesFaults E) {n : Node} (h : AllTx E n) : AllTx E (askFault n) := by
  unfold askFault
  dsimp only
  split
  · exact raiseOverflow_all hf (requestFault_all hf h)
  · exact requestFault_all hf h

theorem raiseCommon_all (hf : TakesFaults E) (c : Cond) (d : Byte) {n : Node} (h : AllTx E n) :
    AllTx E (raiseCommon c d n) := by
  have hn : AllTx E (noteRaise c d n) := h
  unfold raiseCommon
  dsimp only
  split
  · exact askFault_all hf hn
  · exact hn

theorem heldTest_all (hf : TakesFaults E) (hh : Takes E .hold) {n : Node} (h : AllTx E n) : AllTx E (heldTest n) := by
  unfold heldTest
  split
  · exact askWith_all hf hh false h
  · exact h

@[simp] theorem clearCond_lc (c : Cond) (n : Node) : (clearCond c n).lc = n.lc := by
  unfold clearCond
  split <;> rfl

theorem lineWarnTest_all (hf : TakesFaults E) {n : Node} (h : AllTx E n) : AllTx E (lineWarnTest n) := by
  unfold lineWarnTest
  split_ifs
  · simpa [AllTx] using h
  · exact h
  · exact raiseCommon_all hf _ _ h

theorem recount_all (hf : TakesFaults E) {n : Node} (h : AllTx E n) : AllTx E (recount n) :=
  lineWarnTest_all (n := { n with lc := { n.lc with state := stateForCounts n.lc } }) hf h

theorem changeState_all (hf : TakesFaults E) (hs : ∀ b, Takes E (.state b)) {n : Node} (h : AllTx E n) :
    AllTx E (changeState n) := by
  unfold changeState
  split
  · exact askWith_all (n := { n with nt := _ }) hf (hs _) false h
  · exact h

theorem finish_all (hf : TakesFaults E) (hs : ∀ b, Takes E (.state b)) {n : Node} (h : AllTx E n) :
    AllTx E (finish n) := by
  have hn : AllTx E (noteChange n) := by simpa [AllTx] using h
  have hc := changeState_all hf hs hn
  simpa [AllTx, finish] using hc

end

/-- Every request keeps a queue out of transmission. -/
theorem takes_pending (p : Payload) : Takes (fun e => e.inTx = false) p := ⟨fun _ _ => rfl, fun _ _ h _ => h⟩

end Sys2Proof.Machine
end

section
/-! PROOF. Bit errors and failed attempts (R6, R7, R11, R17 to R19, R21). -/

namespace Sys2Proof.Machine

-- The text is checked as one file under a data limit that many waiting threads would exceed.
set_option Elab.async false

/-! ### Reactions in OFF (R12) -/

theorem requestFault_offLine {n : Node} (h : n.lc.state = .joining ∨ n.lc.state = .off) (hq : n.lc.queue = []) :
    (requestFault n).1.lc = n.lc ∧ (requestFault n).2 = false := by
  have hw : (withdrawPending (fun e => isFault e.payload && !e.byClear) n).lc = n.lc := by
    cases hlc : n.lc
    simp_all [withdrawPending]
  simp only [requestFault, enqueueAt, hw, enqueue_offLine _ _ _ h, and_self]

theorem raiseCommon_lc_offLine (c : Cond) (d : Byte) {n : Node} (h : n.lc.state = .joining ∨ n.lc.state = .off)
    (hq : n.lc.queue = []) : (raiseCommon c d n).lc = n.lc := by
  obtain ⟨h1, h2⟩ := requestFault_offLine (n := noteRaise c d n) h hq
  unfold raiseCommon askFault
  dsimp only
  split
  · rw [h2]
    exact h1
  · rfl

theorem lineWarnTest_lc_offLine {n : Node} (h : n.lc.state = .joining ∨ n.lc.state = .off) (hq : n.lc.queue = []) :
    (lineWarnTest n).lc = n.lc := by
  unfold lineWarnTest
  split_ifs
  · exact clearCond_lc _ n
  · rfl
  · exact raiseCommon_lc_offLine _ _ h hq

/-! ### LINE_WARN that follows from no count -/

/-- Where LINE_WARN is neither raised nor kept by the counts, its test leaves line controller and STATE timer. -/
theorem lineWarnTest_stands {n : Node} (h : lineWarnStands n.lc.send n.lc.recv n) :
    (lineWarnTest n).lc = n.lc ∧ (asksNoState (lineWarnTest n) ↔ asksNoState n) := by
  unfold lineWarnTest
  split_ifs with hc hw
  · unfold clearCond
    split <;> exact ⟨rfl, Iff.rfl⟩
  · exact ⟨rfl, Iff.rfl⟩
  · exact absurd (h.resolve_left hc) hw

theorem finish_recount_lc {n : Node} (h : lineWarnStands n.lc.send n.lc.recv n) (ha : asksNoState n) :
    (finish (recount n)).lc = { n.lc with state := stateForCounts n.lc } := by
  obtain ⟨hlc, hno⟩ := lineWarnTest_stands (n := { n with lc := { n.lc with state := stateForCounts n.lc } }) h
  rw [finish_lc (n := recount n) (hno.2 ha)]
  exact hlc

/-! ### The failed attempt -/

theorem spent_iff (e : TxEntry) : spent e = true ↔ ∃ k, retryLimit (txClass e) = some k ∧ k ≤ e.failed := by
  unfold spent
  split
  · rename_i k hk
    simp [hk]
  · rename_i hk
    simp [hk]

/-- The failed attempt counted in an entry (R11). -/
def oneMore (e : TxEntry) : TxEntry := { e with failed := e.failed + 1 }

theorem countedQueue_eq (q : List TxEntry) : countedQueue q = q.map fun e => if e.inTx then oneMore e else e := rfl

theorem inTx_counted (e : TxEntry) : (if e.inTx then oneMore e else e).inTx = e.inTx := by split <;> rfl

theorem filter_inTx_countedQueue {q : List TxEntry} {e : TxEntry} (h : q.filter TxEntry.inTx = [e]) :
    (countedQueue q).filter TxEntry.inTx = [oneMore e] := by
  have hi : e.inTx = true := (List.mem_filter.1 (h ▸ List.mem_singleton_self e)).2
  have hf : (TxEntry.inTx ∘ fun e => if e.inTx then oneMore e else e) = TxEntry.inTx := funext inTx_counted
  rw [countedQueue_eq, List.filter_map, hf, h]
  simp [hi]

theorem filter_pending_countedQueue (q : List TxEntry) :
    (countedQueue q).filter (fun x => !x.inTx) = q.filter fun x => !x.inTx := by
  have hf : ((fun x : TxEntry => !x.inTx) ∘ fun e => if e.inTx then oneMore e else e) = fun x => !x.inTx :=
    funext fun e => congrArg not (inTx_counted e)
  have hp : ∀ x ∈ q.filter (fun x => !x.inTx), x.inTx = false := fun x hx => by simpa using (List.mem_filter.1 hx).2
  rw [countedQueue_eq, List.filter_map, hf]
  exact (List.map_congr_left fun x hx => by simp [hp x hx]).trans (List.map_id _)

/-- A request is not superseded by what counts a failed attempt. -/
theorem superseded_countedQueue (e : TxEntry) (q : List TxEntry) :
    superseded (oneMore e) (countedQueue q) = superseded e q := by
  rw [superseded, superseded, countedQueue_eq, List.any_map]
  refine congrArg (List.any q) (funext fun x => ?_)
  cases h : x.inTx <;> simp [h, oneMore]

theorem attemptSpent_of_one {q : List TxEntry} {e : TxEntry} (h : q.filter TxEntry.inTx = [e]) :
    attemptSpent q = spent (oneMore e) := by
  have h1 : (countedQueue q).any (fun e => e.inTx && spent e) =
      ((countedQueue q).filter TxEntry.inTx).any spent := List.any_filter.symm
  rw [attemptSpent, h1, filter_inTx_countedQueue h]
  simp

/-- The queue after a failure with one entry in transmission (R11, R13, R14). -/
theorem failedQueue_of_one {q : List TxEntry} {e : TxEntry} (h : q.filter TxEntry.inTx = [e]) :
    failedQueue q =
      if spent (oneMore e) then q.filter fun x => !x.inTx
      else if e.doomed || superseded e q then q.filter fun x => !x.inTx
      else q.map fun x => if x.inTx then { x with failed := x.failed + 1, inTx := false } else x := by
  have hs : ((oneMore e).doomed = true ∨ ∃ x ∈ countedQueue q, x.inTx = false ∧
      replaces x.payload (oneMore e).payload = true) ↔ (e.doomed || superseded e q) = true := by
    rw [← superseded_iff, superseded_countedQueue, Bool.or_eq_true]
    rfl
  have hm : (countedQueue q).map (fun x => if x.inTx then { id x with inTx := false } else x) =
      q.map fun x => if x.inTx then { x with failed := x.failed + 1, inTx := false } else x := by
    rw [countedQueue_eq, List.map_map]
    refine List.map_congr_left fun x _ => ?_
    cases hx : x.inTx <;> simp [hx, oneMore]
  unfold failedQueue
  rw [attemptSpent_of_one h, endSending_of_one (filter_inTx_countedQueue h), filter_pending_countedQueue, hm]
  simp only [hs]

theorem failedQueue_inTx (q : List TxEntry) : ∀ e ∈ failedQueue q, e.inTx = false := by
  unfold failedQueue
  split
  · intro e he
    simpa using (List.mem_filter.1 he).2
  · exact endSending_inTx id _

/-- The line controller of a failed attempt before its send count rises. -/
def failedLine (lc : LC) : LC :=
  { attemptOver (failedQueue lc.queue) (failedNotes lc) with
    capture := none, decoding := false, quiet := if lc.bitError then lc.quiet else 0 }

theorem failedLine_eq (lc : LC) : failedLine lc =
    { lc with queue := failedQueue lc.queue, tally := (failedNotes lc).tally, lastErr := (failedNotes lc).lastErr,
              txBits := [], bitError := false, capture := none, decoding := false,
              quiet := if lc.bitError then lc.quiet else 0 } := by
  rw [failedLine, attemptOver, failedNotes_eq]

theorem attemptFailed_off {n : Node} (h : 255 < n.lc.send + 4) :
    attemptFailed n = recount (enterOff { n with lc := { failedLine n.lc with send := 255 } }) := by
  have hs : (failedLine n.lc).send = n.lc.send := by rw [failedLine_eq]
  rw [attemptFailed_eq, countFailure]
  exact if_pos (show 255 < (failedLine n.lc).send + 4 by rwa [hs])

theorem attemptFailed_on {n : Node} (h : n.lc.send + 4 ≤ 255) :
    attemptFailed n = recount { n with lc := { failedLine n.lc with send := n.lc.send + 4 } } := by
  have hs : (failedLine n.lc).send = n.lc.send := by rw [failedLine_eq]
  rw [attemptFailed_eq]
  change countFailure { n with lc := failedLine n.lc } = _
  rw [countFailure, if_neg (show ¬ 255 < (failedLine n.lc).send + 4 by rw [hs]; omega)]
  dsimp only
  rw [hs]

theorem attemptFailed_only (n : Node) : onlyChanges [.line, .conds] n (attemptFailed n) := by
  by_cases h : 255 < n.lc.send + 4
  · rw [attemptFailed_off h]
    exact onlyChanges_trans (onlyChanges_mono (by simp) (withLc_only _ n)) (recount_only _)
  · rw [attemptFailed_on (Nat.not_lt.1 h)]
    exact onlyChanges_trans (onlyChanges_mono (by simp) (withLc_only _ n)) (recount_only _)

/-- The line controller of a node that a failed attempt has taken to OFF (R19). -/
theorem attemptFailed_lc_off {n : Node} (h : 255 < n.lc.send + 4) :
    (finish (attemptFailed n)).lc.state = .off ∧ (finish (attemptFailed n)).lc.queue = [] ∧
      (finish (attemptFailed n)).lc.lastErr = .lineOff ∧ (finish (attemptFailed n)).lc.recovery = some 250 ∧
      (finish (attemptFailed n)).lc.send = 255 := by
  have hr : (attemptFailed n).lc = (enterOff { n with lc := { failedLine n.lc with send := 255 } }).lc := by
    rw [attemptFailed_off h]
    exact lineWarnTest_lc_offLine (.inr rfl) rfl
  have hf : (finish (attemptFailed n)).lc = (attemptFailed n).lc := finish_lc_offLine (.inr (by rw [hr]; rfl))
  rw [hf, hr]
  exact ⟨rfl, rfl, rfl, rfl, rfl⟩

/-- After a failed attempt no entry is in transmission. -/
theorem attemptFailed_all_pending (n : Node) : AllTx (fun e => e.inTx = false) (attemptFailed n) := by
  by_cases h : 255 < n.lc.send + 4
  · rw [attemptFailed_off h]
    exact recount_all (fun _ => takes_pending _) fun e he => absurd he (List.not_mem_nil)
  · rw [attemptFailed_on (Nat.not_lt.1 h)]
    refine recount_all (fun _ => takes_pending _) fun e he => failedQueue_inTx n.lc.queue e ?_
    rwa [failedLine_eq] at he

/-- With LINE_WARN standing as the counts have it, and no STATE asked for, the failure is the queue, the notes and the
count. -/
theorem attemptFailed_lc_stands {n : Node} (h : n.lc.send + 4 ≤ 255) (ha : asksNoState n)
    (hw : lineWarnStands (n.lc.send + 4) n.lc.recv n) :
    ∃ st, (finish (attemptFailed n)).lc = { failedLine n.lc with send := n.lc.send + 4, state := st } := by
  rw [attemptFailed_on h]
  exact ⟨_, finish_recount_lc (n := { n with lc := { failedLine n.lc with send := n.lc.send + 4 } })
    (by rw [failedLine_eq]; exact hw) ha⟩

/-- The notes of a failure, with the number of them (R11, R21). -/
theorem failedNotes_cases (lc : LC) :
    (attemptSpent lc.queue = true → (failedNotes lc).lastErr = .abandoned ∧
      (failedNotes lc).tally = min 65535 (lc.tally + (if lc.bitError then 0 else 1) + 1)) ∧
    (attemptSpent lc.queue = false →
      (failedNotes lc).lastErr = (if lc.bitError then lc.lastErr else .objected) ∧
      (failedNotes lc).tally =
        (if lc.bitError then lc.tally else min 65535 (lc.tally + (if lc.bitError then 0 else 1)))) := by
  refine ⟨fun h => ⟨?_, ?_⟩, fun h => ⟨?_, ?_⟩⟩ <;> cases hb : lc.bitError <;>
    simp [failedNotes, h, hb, noteLineError, satAdd_eq_min]
  omega

/-- Settles O36: the failure is the attempt over, its notes, and the send count, with OFF or the counts' line state
behind it; LINE_WARN and STATE requests leave the rest of the line controller. -/
theorem bitErrorsAndFailedAttempts : Obligations.BitErrorsAndFailedAttempts := by
  unfold Obligations.BitErrorsAndFailedAttempts
  refine ⟨fun released s hl hs => ⟨fun hb => ?_, fun hb => ?_⟩, fun s hl hs => ?_, rfl, rfl, rfl, rfl⟩
  · refine completes_live_if (f := bitErrorFound released.val) rfl hl (by simp [hs, hb]) ?_
    obtain ⟨q, t, e, hf⟩ := finish_sameLine (bitErrorFound released.val s.node)
    obtain ⟨k, hk⟩ := errorRun_eq
      (noteLineError .bit { s.node.lc with bitError := true, txBits := [], quiet := released.val })
    have hlc : (bitErrorFound released.val s.node).lc =
        { noteLineError .bit { s.node.lc with bitError := true, txBits := [], quiet := released.val } with
          errorRun := k } := hk
    have hrun : k = if s.node.lc.state = .active then 10 else s.node.lc.errorRun := by
      rw [show k = (errorRun _).errorRun by rw [hk], errorRun]
      split <;> simp_all [noteLineError]
    refine ⟨?_, ?_, ?_, ?_, ?_, ?_, finish_line_only (withLc_only _ _), fun ha => ?_⟩
    · rw [hf, hlc]; rfl
    · rw [hf, hlc]; rfl
    · rw [hf, hlc]; rfl
    · rw [hf, hlc]; exact hrun
    · rw [hf, hlc]; rfl
    · rw [hf, hlc]; rfl
    · rw [finish_lc (n := bitErrorFound released.val s.node) ha, hlc]
      exact ⟨rfl, rfl, satAdd_eq_min _ _ _⟩
  · exact completes_live_else (f := bitErrorFound released.val) rfl hl (by simp [hb]) (finish_only _)
  · refine completes_live_if (f := attemptFailed) rfl hl hs ⟨finish_line_only (attemptFailed_only _),
      attemptFailed_lc_off, fun h => ?_⟩
    have hall : AllTx (fun e => e.inTx = false) (finish (attemptFailed s.node)) :=
      finish_all (fun _ => takes_pending _) (fun _ => takes_pending _) (attemptFailed_all_pending _)
    have hline : SameLine { failedLine s.node.lc with
        send := s.node.lc.send + 4
        state := stateForCounts { failedLine s.node.lc with send := s.node.lc.send + 4 } }
        (finish (attemptFailed s.node)).lc := by
      rw [attemptFailed_on h]
      exact (recount_sameLine _).trans (finish_sameLine _)
    rw [failedLine_eq] at hline
    obtain ⟨q, t, e, hf⟩ := hline
    refine ⟨?_, ?_, ?_, ?_, ?_, ?_, hall, fun hst => ?_, fun hst => ?_, fun x hx ha hw => ?_⟩
    iterate 6 rw [hf]
    · rw [hf]; simp [stateForCounts, hst]
    · rw [hf]; simp [stateForCounts, hst]
    · obtain ⟨st, hst⟩ := attemptFailed_lc_stands h ha hw
      rw [hst, failedLine_eq]
      obtain ⟨hspent, hkept⟩ := failedNotes_cases s.node.lc
      rw [attemptSpent_of_one hx] at hspent hkept
      have hiff := spent_iff (oneMore x)
      refine ⟨fun hsp => ?_, fun hsp => ?_⟩
      · have hs1 : spent (oneMore x) = true := hiff.2 hsp
        obtain ⟨he, ht⟩ := hspent hs1
        exact ⟨he, ht, (failedQueue_of_one hx).trans (by rw [if_pos hs1])⟩
      · have hs1 : spent (oneMore x) = false := Bool.eq_false_iff.2 fun h => hsp (hiff.1 h)
        obtain ⟨he, ht⟩ := hkept hs1
        exact ⟨he, ht, (failedQueue_of_one hx).trans (by rw [if_neg (by simp [hs1])])⟩

end Sys2Proof.Machine
end

section
/-! PROOF. Receive errors, frames that are not accepted, and frames whose start bit the line controller has not joined
(R2, R4, R7 to R11, R17 to R19, R21, R30). -/

namespace Sys2Proof.Machine

-- The text is checked as one file under a data limit that many waiting threads would exceed.
set_option Elab.async false

theorem SameLine.erased {a b : LC} (h : SameLine a b) :
    { b with queue := [], tally := 0, lastErr := .none } = { a with queue := [], tally := 0, lastErr := .none } := by
  obtain ⟨q, t, e, rfl⟩ := h
  rfl

/-! ### A receive error (R7, R8, R17, R19, R21) -/

/-- The line controller at the end of a frame it has joined (R4, R8, R10). -/
def leftLine (q : Nat) (lc : LC) : LC :=
  { lc with decoding := false, capture := none, quiet := q, slotBusy := false, slotError := false, joined := true }

/-- The line controller after a receive error but for the notes: in OFF the recovery timer again, and otherwise the
receive count with the state it gives (R17, R19). -/
def errorLine (q : Nat) (lc : LC) : LC :=
  if lc.state = .off then { leftLine q lc with recovery := some 250 }
  else { leftLine q lc with
    recv := min 255 (lc.recv + 2)
    state := stateForCounts { lc with recv := min 255 (lc.recv + 2) } }

theorem receiveError_off {c : ErrCode} {q : Nat} {n : Node} (h : n.lc.state = .off) :
    receiveError c q n = { n with lc := { leftLine q (noteLineError c n.lc) with recovery := some 250 } } :=
  if_pos h

theorem receiveError_on {c : ErrCode} {q : Nat} {n : Node} (h : n.lc.state ≠ .off) :
    receiveError c q n =
      recount { n with lc := { leftLine q (noteLineError c n.lc) with recv := min 255 (n.lc.recv + 2) } } := by
  have hr : receiveError c q n =
      recount { n with lc := { leftLine q (noteLineError c n.lc) with recv := satAdd 255 n.lc.recv 2 } } := if_neg h
  rw [hr, satAdd_eq_min]

theorem receiveError_only (c : ErrCode) (q : Nat) (n : Node) : onlyChanges [.line, .conds] n (receiveError c q n) := by
  by_cases h : n.lc.state = .off
  · rw [receiveError_off h]
    exact onlyChanges_mono (by simp) (withLc_only _ n)
  · rw [receiveError_on h]
    exact onlyChanges_trans (onlyChanges_mono (by simp) (withLc_only _ n)) (recount_only _)

theorem receiveError_sameLine (c : ErrCode) (q : Nat) (n : Node) :
    SameLine (errorLine q n.lc) (receiveError c q n).lc := by
  by_cases h : n.lc.state = .off
  · rw [receiveError_off h, errorLine, if_pos h]
    exact ⟨_, _, _, rfl⟩
  · rw [receiveError_on h, errorLine, if_neg h]
    exact SameLine.trans ⟨_, _, _, rfl⟩ (recount_sameLine _)

/-- Where LINE_WARN stands as the counts have it, a receive error leaves its notes and the queue as it was. -/
theorem receiveError_stands {c : ErrCode} {q : Nat} {n : Node} (h : lineWarnStands n.lc.send (n.lc.recv + 2) n) :
    (receiveError c q n).lc =
        { errorLine q n.lc with tally := min 65535 (n.lc.tally + 1), lastErr := c } ∧
      (asksNoState (receiveError c q n) ↔ asksNoState n) := by
  by_cases ho : n.lc.state = .off
  · rw [receiveError_off ho, errorLine, if_pos ho, ← satAdd_eq_min]
    exact ⟨rfl, Iff.rfl⟩
  · have hw : lineWarnStands n.lc.send (min 255 (n.lc.recv + 2)) n := h.imp_left fun h => ⟨h.1, by omega⟩
    rw [receiveError_on ho, errorLine, if_neg ho, ← satAdd_eq_min 65535]
    exact lineWarnTest_stands (n := { n with lc := { leftLine q (noteLineError c n.lc) with
      recv := min 255 (n.lc.recv + 2)
      state := stateForCounts { noteLineError c n.lc with recv := min 255 (n.lc.recv + 2) } } }) hw

/-! ### An error partway through a frame or at its check -/

/-- A receive error with its reaction: the error run, or the error bit (R7, R8). -/
def errorFound (partway : Bool) (c : ErrCode) : Nat → Node → Node :=
  if partway then partwayError c else checkTimeError c

/-- The line controller after an error with its reaction, but for the notes. -/
def foundLine (partway : Bool) (q : Nat) (lc : LC) : LC :=
  if partway then errorLine q (errorRun lc)
  else { errorLine q lc with
    slotError := (errorLine q lc).state == .active
    quiet := if (errorLine q lc).state == .active then 0 else (errorLine q lc).quiet }

theorem errorRun_only (n : Node) : onlyChanges [.line] n { n with lc := errorRun n.lc } := withLc_only _ n

theorem errorFound_only (partway : Bool) (c : ErrCode) (q : Nat) (n : Node) :
    onlyChanges [.line, .conds] n (errorFound partway c q n) := by
  cases partway with
  | true => exact onlyChanges_trans (onlyChanges_mono (by simp) (errorRun_only n)) (receiveError_only c q _)
  | false => exact onlyChanges_trans (receiveError_only c q n) (onlyChanges_mono (by simp) (withLc_only _ _))

theorem errorFound_sameLine (partway : Bool) (c : ErrCode) (q : Nat) (n : Node) :
    SameLine (foundLine partway q n.lc) (errorFound partway c q n).lc := by
  cases partway with
  | true => exact receiveError_sameLine c q { n with lc := errorRun n.lc }
  | false =>
    obtain ⟨x, t, e, h⟩ := receiveError_sameLine c q n
    refine ⟨x, t, e, ?_⟩
    simp only [errorFound, foundLine, Bool.false_eq_true, if_false, checkTimeError, h]

theorem errorFound_stands {partway : Bool} {c : ErrCode} {q : Nat} {n : Node}
    (h : lineWarnStands n.lc.send (n.lc.recv + 2) n) :
    (errorFound partway c q n).lc =
      { foundLine partway q n.lc with tally := min 65535 (n.lc.tally + 1), lastErr := c } ∧
      (asksNoState (errorFound partway c q n) ↔ asksNoState n) := by
  cases partway with
  | true =>
    obtain ⟨k, hk⟩ := errorRun_eq n.lc
    have ht : (errorRun n.lc).tally = n.lc.tally := by rw [hk]
    rw [← ht]
    exact receiveError_stands (n := { n with lc := errorRun n.lc }) (by rw [hk]; exact h)
  | false =>
    obtain ⟨hlc, hno⟩ := receiveError_stands (c := c) (q := q) h
    refine ⟨?_, hno⟩
    simp only [errorFound, foundLine, Bool.false_eq_true, if_false, checkTimeError, hlc]

/-- The fields of the line controller after an error with its reaction. -/
theorem foundLine_fields (partway : Bool) (q : Nat) (lc : LC) :
    (foundLine partway q lc).decoding = false ∧ (foundLine partway q lc).capture = none ∧
    (foundLine partway q lc).joined = true ∧ (foundLine partway q lc).slotBusy = false ∧
    (lc.state = .off → (foundLine partway q lc).recovery = some 250 ∧ (foundLine partway q lc).recv = lc.recv) ∧
    (lc.state ≠ .off → (foundLine partway q lc).recv = min 255 (lc.recv + 2)) ∧
    (foundLine partway q lc).state = (match lc.state with
      | .active => if 128 ≤ lc.send ∨ 128 ≤ min 255 (lc.recv + 2) then .quiet else .active
      | .quiet => if lc.send < 96 ∧ min 255 (lc.recv + 2) < 96 then .active else .quiet
      | x => x) ∧
    (foundLine partway q lc).errorRun = (if partway = true ∧ lc.state = .active then 10 else lc.errorRun) ∧
    (foundLine partway q lc).slotError = (!partway && ((foundLine partway q lc).state == .active)) ∧
    (foundLine partway q lc).quiet = (if (foundLine partway q lc).slotError then 0 else q) := by
  cases partway <;> cases hs : lc.state <;>
    simp [foundLine, errorLine, leftLine, errorRun, stateForCounts, hs]

/-! ### A frame broken off (R10, R30) -/

theorem brokenOff_joined {t : Trail} {f : Nat → Node → Node} {n : Node} (hr : receives n = true)
    (hj : joins t.lead.val n = true) : brokenOff t f n = f t.released.val (atPhase t.phase n) := by
  simp [brokenOff, hr, hj]

theorem brokenOff_passed {t : Trail} {f : Nat → Node → Node} {n : Node} (hr : receives n = true)
    (hj : joins t.lead.val n = false) : brokenOff t f n = passedOver t.released.val (atPhase t.phase n) := by
  simp [brokenOff, hr, hj]

/-- The four rows of a receive error are one form. -/
theorem exec_errorFound {i : Instr} {trail : Trail} {code : ErrCode} {partway : Bool}
    (h : (i = .syncError trail ∧ code = .sync ∧ partway = true) ∨
      (i = .formError .lengthField trail ∧ code = .form ∧ partway = true) ∨
      (i = .formError .endOfCheck trail ∧ code = .form ∧ partway = false) ∨
      (i = .checkError trail ∧ code = .check ∧ partway = false)) (s : State) :
    exec i s = answer (live (brokenOff trail (errorFound partway code))) s := by
  obtain ⟨rfl, rfl, rfl⟩ | ⟨rfl, rfl, rfl⟩ | ⟨rfl, rfl, rfl⟩ | ⟨rfl, rfl, rfl⟩ := h <;> rfl

theorem atPhase_then_only {k : Phase} {n m : Node} {ps : List Part} (h : onlyChanges ps (atPhase k n) m)
    (hp : Part.path ∉ ps) : m.pg = (atPhase k n).pg := h .path hp (by decide)

theorem passedOver_sameLine (q : Nat) (n : Node) :
    SameLine { n.lc with quiet := q } (finish (passedOver q n)).lc := finish_sameLine (passedOver q n)

/-! ### Frames at the node, by their command (R9, R30) -/

/-- A command that is a frame is heard as one; BLOCK and RESTART have a test of their own before it. -/
theorem exec_frame {i : Instr} {rx : Rx} (h : frameRx i = some rx) (s : State) :
    (∃ f : Node → Node, exec i s = answer (live (heardFrame rx f)) s) ∨ (∃ b, i = .block rx b) ∨
      (∃ t k, i = .restart rx t k) := by
  have hf (unit : Moment → Node → Node) : ∃ f : Node → Node, frame rx unit s = answer (live (heardFrame rx f)) s :=
    ⟨_, rfl⟩
  cases i <;> cases h
  case block b => exact .inr (.inl ⟨b, rfl⟩)
  case restart t k => exact .inr (.inr ⟨t, k, rfl⟩)
  case announce b => exact .inl ⟨announceArrives rx b, rfl⟩
  case state b => exact .inl ⟨fun n => acceptState rx (sentStateAt n) b (accepted rx n), rfl⟩
  all_goals
    unfold exec
    exact .inl (hf _)

theorem heardFrame_notJoined {rx : Rx} {f : Node → Node} {n : Node} (hj : joins rx.lead.val n = false) :
    joinedFrame rx f n = atSlotEnd rx (passedOver (slotQuiet false rx) n) := by simp [joinedFrame, hj]

theorem heardFrame_notClear {rx : Rx} {f : Node → Node} {n : Node} (hj : joins rx.lead.val n = true)
    (hs : slotClear rx n = false) : heardFrame rx f n = notAccepted rx n := by
  simp [heardFrame, joinedFrame, takeFrame, hj, hs]

theorem restartArrives_heard {rx : Rx} {t k : Byte} {n : Node} (hl : loaded n = true)
    (h : joins rx.lead.val n = false ∨ slotClear rx n = false) :
    restartArrives rx t k n = finish (heardFrame rx (accepted rx) n) := by
  rcases h with h | h <;> simp [restartArrives, hl, h]

/-- A frame that the line controller has not joined is passed over, whatever its command (R30). -/
theorem completes_notJoined {i : Instr} {rx : Rx} {s : State} {P : Node → Prop} (hi : frameRx i = some rx)
    (hl : loaded s.node = true) (hj : joins rx.lead.val s.node = false)
    (h : P (finish (atSlotEnd rx (passedOver (slotQuiet false rx) s.node)))) : completes i s P := by
  obtain ⟨f, hf⟩ | ⟨b, rfl⟩ | ⟨t, k, rfl⟩ := exec_frame hi s
  · exact completes_live hf hl (by rwa [heardFrame, heardFrame_notJoined hj])
  · exact completes_live rfl hl (by rwa [heardFrame_notJoined hj])
  · exact completes_answer rfl (by rwa [restartArrives_heard hl (.inl hj), heardFrame, heardFrame_notJoined hj])

/-- A frame decoded whole that R9 does not accept, whatever its command. -/
theorem completes_notClear {i : Instr} {rx : Rx} {s : State} {P : Node → Prop} (hi : frameRx i = some rx)
    (hl : loaded s.node = true) (hj : joins rx.lead.val s.node = true) (hs : slotClear rx s.node = false)
    (hb : ∀ b, i = .block rx b → turnsAway rx b.num s.node = false)
    (h : P (finish (notAccepted rx s.node))) : completes i s P := by
  obtain ⟨f, hf⟩ | ⟨b, rfl⟩ | ⟨t, k, rfl⟩ := exec_frame hi s
  · exact completes_live hf hl (by rwa [heardFrame_notClear hj hs])
  · refine completes_live rfl hl ?_
    rw [joinedFrame_of_joins _ hj]
    simpa [blockArrives, hb b rfl, takeFrame, hs] using h
  · exact completes_answer rfl (by rwa [restartArrives_heard hl (.inr hs), heardFrame_notClear hj hs])

/-! ### The outcome of the node's own attempt (R11) -/

theorem ownOutcome_none {rx : Rx} {n : Node} (h : ¬(rx.own = true ∧ sending n.lc = true)) : ownOutcome rx n = n := by
  have : (rx.own && sending n.lc) = false := by simpa using h
  simp [ownOutcome, this]

theorem ownOutcome_busy {rx : Rx} {n : Node} (h : rx.own = true ∧ sending n.lc = true)
    (hf : ¬(rx.errorBit = true ∨ n.lc.bitError = true)) : ownOutcome rx n = refusedBusy n := by
  have : (rx.errorBit || n.lc.bitError) = false := by simpa using hf
  simp [ownOutcome, h, this]

theorem ownOutcome_failed {rx : Rx} {n : Node} (h : rx.own = true ∧ sending n.lc = true)
    (hf : rx.errorBit = true ∨ n.lc.bitError = true) : ownOutcome rx n = attemptFailed n := by
  simp [ownOutcome, h, hf]

theorem ownOutcome_only (rx : Rx) (n : Node) : onlyChanges [.line, .conds] n (ownOutcome rx n) := by
  unfold ownOutcome
  split_ifs
  · exact onlyChanges_refl _ n
  · exact attemptFailed_only n
  · exact onlyChanges_mono (by simp) (withLc_only _ n)

/-- What a failed attempt does to the counts (R17). -/
theorem attemptFailed_counts (n : Node) :
    (attemptFailed n).lc.recv = n.lc.recv ∧ (attemptFailed n).lc.send = min 255 (n.lc.send + 4) ∧
      (255 < n.lc.send + 4 → (attemptFailed n).lc.state = .off) := by
  by_cases h : 255 < n.lc.send + 4
  · rw [attemptFailed_off h, failedLine_eq]
    obtain ⟨q, t, e, hlc⟩ := recount_sameLine (enterOff { n with lc := { failedLine n.lc with send := 255 } })
    rw [failedLine_eq] at hlc
    rw [hlc]
    exact ⟨rfl, (Nat.min_eq_left (Nat.le_of_lt h)).symm, fun _ => rfl⟩
  · rw [attemptFailed_on (Nat.not_lt.1 h)]
    obtain ⟨q, t, e, hlc⟩ := recount_sameLine { n with lc := { failedLine n.lc with send := n.lc.send + 4 } }
    rw [failedLine_eq] at hlc
    rw [failedLine_eq, hlc]
    exact ⟨rfl, (Nat.min_eq_right (Nat.not_lt.1 h)).symm, fun hc => absurd hc h⟩

theorem ownOutcome_recv (rx : Rx) (n : Node) : (ownOutcome rx n).lc.recv = n.lc.recv := by
  unfold ownOutcome
  split_ifs
  · rfl
  · exact (attemptFailed_counts n).1
  · rfl

/-! ### A frame not accepted (R9 to R11) -/

theorem notAccepted_sameLine (rx : Rx) (n : Node) :
    SameLine (leftLine (slotQuiet false rx) (ownOutcome rx n).lc) (finish (notAccepted rx n)).lc :=
  finish_sameLine (notAccepted rx n)

theorem notAccepted_only {rx : Rx} {n : Node} {ps : List Part} (h : onlyChanges ps n (ownOutcome rx n))
    (hs : ∀ p ∈ [Part.line, .path], p ∈ ps) : onlyChanges ps n (finish (notAccepted rx n)) := by
  refine finish_line_only (onlyChanges_trans h ?_)
  exact onlyChanges_mono hs (onlyChanges_both (leaveFrame_only _ _) (atSlotEnd_only rx _) (by simp) (by simp))

theorem notAccepted_pg (rx : Rx) (n : Node) :
    (finish (notAccepted rx n)).pg = { n.pg with phase := phaseIn n.pg.tickLen rx.phase.val } := by
  have ho : (ownOutcome rx n).pg = n.pg := ownOutcome_only rx n .path (by simp) (by decide)
  rw [show (finish (notAccepted rx n)).pg = (notAccepted rx n).pg from finish_only _ .path (by simp) (by decide),
    ← ho]
  rfl

theorem slotClear_eq_false {rx : Rx} {n : Node}
    (h : rx.busyBit = true ∨ rx.errorBit = true ∨ (rx.own = true ∧ n.lc.bitError = true)) : slotClear rx n = false := by
  rcases h with h | h | ⟨h1, h2⟩
  · simp [slotClear, h]
  · simp [slotClear, h]
  · simp [slotClear, h1, h2]

/-- Settles O37: an error is the notes, the count and the reaction; a frame not accepted is its end, with the outcome
of the node's own attempt before it. -/
theorem receiveErrorsAndFramesNotAccepted : Obligations.ReceiveErrorsAndFramesNotAccepted := by
  unfold Obligations.ReceiveErrorsAndFramesNotAccepted
  refine ⟨fun trail s hl hs => ?_, fun i rx s hi hl hj hc hb => ?_⟩
  · have hr : receives s.node = true := by simp [receives, hl, hs]
    refine ⟨fun i code partway hi => ⟨fun hj => completes_live (exec_errorFound hi s) hl ?_,
      fun hj => completes_live (exec_errorFound hi s) hl ?_⟩, completes_live rfl hl ?_⟩
    · rw [brokenOff_joined hr hj]
      have honly := errorFound_only partway code trail.released.val (atPhase trail.phase s.node)
      have hfull := finish_line_only honly
      obtain ⟨q, t, e, hf⟩ := (errorFound_sameLine partway code trail.released.val
        (atPhase trail.phase s.node)).trans (finish_sameLine _)
      obtain ⟨hd, hca, hjo, hsb, hoff, hon, hst, hrun, hse, hq⟩ :=
        foundLine_fields partway trail.released.val (atPhase trail.phase s.node).lc
      refine ⟨?_, ?_, ?_, ?_, ?_, ?_, ?_, ?_, ?_, ?_, atPhase_then_only hfull (by simp), fun hw ha => ?_, ?_⟩
      iterate 10 rw [hf]; assumption
      · obtain ⟨hlc, hno⟩ := errorFound_stands (partway := partway) (c := code) (q := trail.released.val)
          (n := atPhase trail.phase s.node) hw
        rw [finish_lc (hno.2 ha), hlc]
        exact ⟨rfl, rfl⟩
      · exact onlyChanges_both (atPhase_only _ _) hfull (by simp) (by simp)
    · rw [brokenOff_passed hr hj]
      have honly := finish_line_only (passedOver_only trail.released.val (atPhase trail.phase s.node))
      exact ⟨(passedOver_sameLine _ _).erased, atPhase_then_only honly (by simp),
        onlyChanges_both (atPhase_only _ _) honly (by simp) (by simp)⟩
    · cases hj : joins trail.lead.val s.node with
      | true =>
        rw [brokenOff_joined hr hj]
        have honly := finish_line_only (leaveFrame_only trail.released.val (atPhase trail.phase s.node))
        refine ⟨(finish_sameLine _).erased.trans ?_, atPhase_then_only honly (by simp),
          onlyChanges_both (atPhase_only _ _) honly (by simp) (by simp)⟩
        simp [leaveFrame, atPhase]
      | false =>
        rw [brokenOff_passed hr hj]
        have honly := finish_line_only (passedOver_only trail.released.val (atPhase trail.phase s.node))
        refine ⟨(passedOver_sameLine _ _).erased.trans ?_, atPhase_then_only honly (by simp),
          onlyChanges_both (atPhase_only _ _) honly (by simp) (by simp)⟩
        simp [atPhase]
  · refine completes_notClear hi hl hj (slotClear_eq_false hc) hb ?_
    obtain ⟨q, t, e, hf⟩ := notAccepted_sameLine rx s.node
    have hrecv := ownOutcome_recv rx s.node
    refine ⟨notAccepted_pg rx s.node, ?_, ?_, ?_, ?_, ?_, ?_, ?_, fun hn => ⟨?_, ?_⟩,
      fun ha hnf => ⟨?_, ?_, fun hno => ?_⟩,
      fun ha hfail => ⟨notAccepted_only (onlyChanges_mono (by simp) (ownOutcome_only rx s.node)) (by simp), ?_, ?_, ?_⟩⟩
    iterate 5 rw [hf]; rfl
    · rw [hf]; exact hrecv
    · rw [hf]; simp [leftLine, slotQuiet]
    · exact notAccepted_only (by rw [ownOutcome_none hn]; exact onlyChanges_refl _ _) (by simp)
    · rw [hf, ownOutcome_none hn]; rfl
    · refine notAccepted_only ?_ (by simp)
      rw [ownOutcome_busy ha hnf]
      exact onlyChanges_mono (by simp) (withLc_only _ _)
    · rw [hf, ownOutcome_busy ha hnf]; rfl
    · have hn : notAccepted rx s.node = atSlotEnd rx (leaveFrame (slotQuiet false rx) (refusedBusy s.node)) := by
        rw [notAccepted, ownOutcome_busy ha hnf]
      rw [hn, finish_lc (n := atSlotEnd rx (leaveFrame (slotQuiet false rx) (refusedBusy s.node))) hno]
      rfl
    · rw [hf, ownOutcome_failed ha hfail]; exact (attemptFailed_counts s.node).2.1
    · rw [hf, ownOutcome_failed ha hfail]; exact (attemptFailed_counts s.node).2.2
    · refine finish_all (fun _ => takes_pending _) (fun _ => takes_pending _) ?_
      have := attemptFailed_all_pending s.node
      rwa [← ownOutcome_failed ha hfail] at this

end Sys2Proof.Machine
end

section
/-! PROOF. The end of JOINING with its requests (R20, R31), and the frames before it (R30). -/

namespace Sys2Proof.Machine

-- The text is checked as one file under a data limit that many waiting threads would exceed.
set_option Elab.async false

/-! ### Requests with room for them (R12, R13) -/

/-- A line controller on the line with at most `k` entries in its transmit queue. -/
structure Roomy (k : Nat) (n : Node) : Prop where
  on : onLine n.lc.state = true
  len : n.lc.queue.length ≤ k

theorem Roomy.mono {j k : Nat} {n : Node} (h : Roomy j n) (hjk : j ≤ k) : Roomy k n := ⟨h.on, h.len.trans hjk⟩

theorem length_insertTx_le (e : TxEntry) (q : List TxEntry) : (insertTx e q).length ≤ q.length + 1 :=
  (length_insertTx e q).le

/-- A request with room for it drops no frame. -/
theorem enqueue_room (p : Payload) (b : Bool) (k : Nat) {lc : LC} (h : lc.queue.length < 8) :
    (enqueue p b k lc).2 = false ∧ (enqueue p b k lc).1.queue.length ≤ lc.queue.length + 1 ∧
      (enqueue p b k lc).1.state = lc.state := by
  unfold enqueue
  split_ifs
  · exact ⟨rfl, Nat.le_succ _, rfl⟩
  · exact ⟨rfl, Nat.le_succ _, rfl⟩
  · exact ⟨rfl, (length_replaceTx _ _ _).le.trans (Nat.le_succ _), rfl⟩
  · exact ⟨rfl, length_insertTx_le _ _, rfl⟩

theorem askWith_room (p : Payload) (b : Bool) {n : Node} (h : n.lc.queue.length < 8) :
    askWith p b n = (enqueueAt p b n).1 := by
  have hf := (enqueue_room p b n.cu.reportSeq h).1
  unfold askWith enqueueAt
  simp only [hf, Bool.false_eq_true, if_false]

theorem enqueueAt_roomy (p : Payload) (b : Bool) {k : Nat} {n : Node} (h : Roomy k n) (hk : k < 8) :
    Roomy (k + 1) (enqueueAt p b n).1 := by
  obtain ⟨-, hl, hs⟩ := enqueue_room p b n.cu.reportSeq (h.len.trans_lt hk)
  exact ⟨(congrArg onLine hs).trans h.on, hl.trans (Nat.succ_le_succ h.len)⟩

theorem askWith_roomy (p : Payload) (b : Bool) {k : Nat} {n : Node} (h : Roomy k n) (hk : k < 8) :
    Roomy (k + 1) (askWith p b n) := by
  rw [askWith_room p b (h.len.trans_lt hk)]
  exact enqueueAt_roomy p b h hk

theorem withdrawPending_roomy (test : TxEntry → Bool) {k : Nat} {n : Node} (h : Roomy k n) :
    Roomy k (withdrawPending test n) := ⟨h.on, (List.length_filter_le _ _).trans h.len⟩

/-- A frame that waits goes on waiting behind a request that does not replace it. -/
theorem enqueueAt_waits {p r : Payload} (b : Bool) {n : Node} (hl : n.lc.queue.length < 8)
    (hr : replaces r p = false) (h : waiting p n) : waiting p (enqueueAt r b n).1 := by
  obtain ⟨e, he, hp⟩ := h
  have hm : meets r e = false := by simp [meets, hp, hr]
  unfold waiting enqueueAt enqueue
  dsimp only
  split_ifs
  · exact ⟨e, he, hp⟩
  · exact ⟨e, he, hp⟩
  · exact ⟨e, List.mem_map.2 ⟨e, he, by simp [hm]⟩, hp⟩
  · exact ⟨e, mem_insertTx.2 (.inr he), hp⟩

/-- A requested frame other than a GO waits, on the line and with room for it. -/
theorem enqueueAt_enters {p : Payload} (b : Bool) {n : Node} (ho : onLine n.lc.state = true)
    (hl : n.lc.queue.length < 8) (hg : ∀ x, dropsGo p x = false) : waiting p (enqueueAt p b n).1 := by
  have hj : ¬(n.lc.state = .joining ∨ n.lc.state = .off) := by
    rintro (h | h) <;> simp [h, onLine] at ho
  unfold waiting enqueueAt enqueue
  dsimp only
  rw [if_neg hj, if_neg (by simp [hg])]
  split_ifs with hm
  · obtain ⟨e, he, hme⟩ := List.any_eq_true.1 hm
    exact ⟨_, List.mem_map.2 ⟨e, he, rfl⟩, by simp [hme]⟩
  · exact ⟨_, mem_insertTx.2 (.inl rfl), rfl⟩

theorem askWith_waits {p r : Payload} (b : Bool) {n : Node} (hl : n.lc.queue.length < 8)
    (hr : replaces r p = false) (h : waiting p n) : waiting p (askWith r b n) := by
  rw [askWith_room r b hl]
  exact enqueueAt_waits b hl hr h

theorem askWith_enters {p : Payload} (b : Bool) {n : Node} (ho : onLine n.lc.state = true)
    (hl : n.lc.queue.length < 8) (hg : ∀ x, dropsGo p x = false) : waiting p (askWith p b n) := by
  rw [askWith_room p b hl]
  exact enqueueAt_enters b ho hl hg

/-! ### Reports with room for them -/

theorem askFault_room {n : Node} (h : n.lc.queue.length < 8) : askFault n = (requestFault n).1 := by
  have hw : (withdrawPending (fun e => isFault e.payload && !e.byClear) n).lc.queue.length < 8 :=
    (List.length_filter_le _ _).trans_lt h
  have hf : (requestFault n).2 = false := (enqueue_room _ _ _ hw).1
  unfold askFault
  simp only [hf, Bool.false_eq_true, if_false]

theorem askFault_roomy {k : Nat} {n : Node} (h : Roomy k n) (hk : k < 8) : Roomy (k + 1) (askFault n) := by
  rw [askFault_room (h.len.trans_lt hk)]
  exact enqueueAt_roomy _ _ (withdrawPending_roomy _ h) hk

theorem askFault_waits {p : Payload} {n : Node} (hl : n.lc.queue.length < 8) (hp : isFault p = false)
    (h : waiting p n) : waiting p (askFault n) := by
  obtain ⟨e, he, hpe⟩ := h
  rw [askFault_room hl]
  refine enqueueAt_waits false ((List.length_filter_le _ _).trans_lt hl) (by cases p <;> rfl) ⟨e, ?_, hpe⟩
  exact List.mem_filter.2 ⟨he, by simp [hpe, hp]⟩

theorem raiseCommon_roomy (c : Cond) (d : Byte) {k : Nat} {n : Node} (h : Roomy k n) (hk : k < 8) :
    Roomy (k + 1) (raiseCommon c d n) := by
  have hn : Roomy k (noteRaise c d n) := ⟨h.on, h.len⟩
  unfold raiseCommon
  dsimp only
  split
  · exact askFault_roomy hn hk
  · exact hn.mono (Nat.le_succ k)

theorem raiseCommon_waits {p : Payload} (c : Cond) (d : Byte) {n : Node} (hl : n.lc.queue.length < 8)
    (hp : isFault p = false) (h : waiting p n) : waiting p (raiseCommon c d n) := by
  have hn : waiting p (noteRaise c d n) := h
  unfold raiseCommon
  dsimp only
  split
  · exact askFault_waits hl hp hn
  · exact hn

theorem lineWarnTest_roomy {k : Nat} {n : Node} (h : Roomy k n) (hk : k < 8) : Roomy (k + 1) (lineWarnTest n) := by
  unfold lineWarnTest
  split_ifs
  · exact ⟨by simpa using h.on, by simpa using h.len.trans (Nat.le_succ k)⟩
  · exact h.mono (Nat.le_succ k)
  · exact raiseCommon_roomy _ _ h hk

theorem lineWarnTest_waits {p : Payload} {n : Node} (hl : n.lc.queue.length < 8) (hp : isFault p = false)
    (h : waiting p n) : waiting p (lineWarnTest n) := by
  unfold lineWarnTest
  split_ifs
  · simpa [waiting] using h
  · exact h
  · exact raiseCommon_waits _ _ hl hp h

theorem onLine_stateForCounts {lc : LC} (h : onLine lc.state = true) : onLine (stateForCounts lc) = true := by
  cases hs : lc.state <;> simp_all only [onLine, stateForCounts] <;> split <;> rfl

theorem recount_roomy {k : Nat} {n : Node} (h : Roomy k n) (hk : k < 8) : Roomy (k + 1) (recount n) :=
  lineWarnTest_roomy ⟨onLine_stateForCounts h.on, h.len⟩ hk

theorem recount_waits {p : Payload} {n : Node} (hl : n.lc.queue.length < 8) (hp : isFault p = false)
    (h : waiting p n) : waiting p (recount n) :=
  lineWarnTest_waits (n := { n with lc := { n.lc with state := stateForCounts n.lc } }) hl hp h

theorem finish_waits {p : Payload} {n : Node} (hl : n.lc.queue.length < 8) (hp : ∀ b, replaces (.state b) p = false)
    (h : waiting p n) : waiting p (finish n) := by
  have hn : waiting p (noteChange n) := by simpa [waiting] using h
  have hl' : (noteChange n).lc.queue.length < 8 := by simpa using hl
  have hc : waiting p (changeState (noteChange n)) := by
    unfold changeState
    split
    · exact askWith_waits (n := { noteChange n with nt := _ }) false hl' (hp _) hn
    · exact hn
  simpa [waiting, finish] using hc

/-! ### The frames of the end of JOINING (R31) -/

theorem askJoining_roomy {k : Nat} {n : Node} (h : Roomy k n) (hk : k < 8) : Roomy (k + 1) (askJoining n) :=
  askWith_roomy _ _ ⟨h.on, h.len⟩ hk

theorem askJoining_enters {k : Nat} {n : Node} (h : Roomy k n) (hk : k < 8) :
    waiting (.announce (announceBody true n)) (askJoining n) :=
  askWith_enters (n := { n with su := _ }) false h.on (h.len.trans_lt hk) fun _ => rfl

theorem askJoining_waits {p : Payload} {n : Node} (hl : n.lc.queue.length < 8)
    (h : waiting p n) : waiting p (askJoining n) :=
  askWith_waits (n := { n with su := _ }) false hl (by cases p <;> rfl) h

/-- The node after the STOPALL of the first entry into ACTIVE (R31). -/
def firstStopall (n : Node) : Node := if hasStop n.cu.own && !txHas isStopall n then ask .stopall n else n

theorem firstStopall_roomy {k : Nat} {n : Node} (h : Roomy k n) (hk : k < 8) : Roomy (k + 1) (firstStopall n) := by
  unfold firstStopall
  split
  · exact askWith_roomy _ _ h hk
  · exact h.mono (Nat.le_succ k)

theorem firstStopall_enters {n : Node} (ho : onLine n.lc.state = true) (hq : n.lc.queue = [])
    (hs : hasStop n.cu.own = true) : waiting .stopall (firstStopall n) := by
  unfold firstStopall
  rw [if_pos (by simp [hs, txHas, hq])]
  exact askWith_enters false ho (by simp [hq]) fun _ => rfl

/-- The node with the first two frames of the first entry asked for. -/
def firstTwo (n : Node) : Node :=
  askJoining { firstStopall n with su := { (firstStopall n).su with firstActive := false } }

theorem firstFrames_eq (n : Node) :
    firstFrames n =
      if (firstTwo n).cu.record.isSome then ask (.fault (faultBody (firstTwo n))) (firstTwo n) else firstTwo n := rfl

theorem firstTwo_roomy {k : Nat} {n : Node} (h : Roomy k n) (hk : k < 7) : Roomy (k + 2) (firstTwo n) := by
  have h1 := firstStopall_roomy h (by omega)
  exact askJoining_roomy ⟨h1.on, h1.len⟩ (by omega)

theorem firstFrames_roomy {k : Nat} {n : Node} (h : Roomy k n) (hk : k < 6) : Roomy (k + 3) (firstFrames n) := by
  have h2 := firstTwo_roomy h (by omega)
  rw [firstFrames_eq]
  split
  · exact askWith_roomy _ _ h2 (by omega)
  · exact h2.mono (Nat.le_succ _)

theorem firstFrames_waits {p : Payload} {k : Nat} {n : Node} (h : Roomy k n) (hk : k < 6)
    (hp : waiting p (firstTwo n)) : waiting p (firstFrames n) := by
  have h2 := firstTwo_roomy h (by omega)
  rw [firstFrames_eq]
  split
  · exact askWith_waits false (h2.len.trans_lt (by omega)) (by cases p <;> rfl) hp
  · exact hp

theorem announceBody_eq {n m : Node} (b : Bool) (hp : m.par = n.par) (hs : m.su.announceCause = n.su.announceCause) :
    announceBody b m = announceBody b n := by
  simp only [announceBody, hp, hs]

theorem firstStopall_only (n : Node) : onlyChanges [] n (firstStopall n) := by
  unfold firstStopall
  split
  · exact ask_only _ n
  · exact onlyChanges_refl _ n

theorem firstTwo_announces {n : Node} {k : Nat} (h : Roomy k n) (hk : k < 7) :
    waiting (.announce (announceBody true n)) (firstTwo n) := by
  have h1 := firstStopall_roomy h (by omega)
  have hs : (firstStopall n).su.announceCause = n.su.announceCause :=
    congrArg StartUp.announceCause
      (show (firstStopall n).su = n.su from firstStopall_only n .start (by simp) (by decide))
  have hb : announceBody true { firstStopall n with su := { (firstStopall n).su with firstActive := false } } =
      announceBody true n :=
    announceBody_eq true (firstStopall_only n .params (by simp) (by decide))
      hs
  have := askJoining_enters (n := { firstStopall n with su := { (firstStopall n).su with firstActive := false } })
    ⟨h1.on, h1.len⟩ (by omega)
  rwa [hb] at this

theorem firstTwo_stops {n : Node} (ho : onLine n.lc.state = true) (hq : n.lc.queue = [])
    (hs : hasStop n.cu.own = true) : waiting .stopall (firstTwo n) := by
  have h1 := firstStopall_roomy (k := 0) ⟨ho, by simp [hq]⟩ (by omega)
  exact askJoining_waits (n := { firstStopall n with su := _ }) (h1.len.trans_lt (by omega))
    (firstStopall_enters ho hq hs)

/-! ### The node that has left JOINING -/

theorem leftJoining_first {n : Node} (h : n.su.firstActive = true) :
    leftJoining n = firstFrames { n with lc := { n.lc with state := .active, recoveryMark := false } } := if_pos h

theorem leftJoining_recovery {n : Node} (h : n.su.firstActive = false) (hr : n.lc.recoveryMark = true) :
    leftJoining n = askJoining { n with lc := { n.lc with state := .active, recoveryMark := false } } := by
  simp [leftJoining, h, hr]

theorem leftJoining_quiet {n : Node} (h : n.su.firstActive = false) (hr : n.lc.recoveryMark = false) :
    leftJoining n = { n with lc := { n.lc with state := .active, recoveryMark := false } } := by
  simp [leftJoining, h, hr]

theorem leftJoining_roomy {n : Node} (hq : n.lc.queue = []) : Roomy 3 (leftJoining n) := by
  have h0 : Roomy 0 { n with lc := { n.lc with state := .active, recoveryMark := false } } := ⟨rfl, by simp [hq]⟩
  unfold leftJoining
  dsimp only
  split_ifs
  · exact firstFrames_roomy h0 (by omega)
  · exact (askJoining_roomy h0 (by omega)).mono (by omega)
  · exact h0.mono (by omega)

theorem leftJoining_announces {n : Node} (hq : n.lc.queue = [])
    (h : n.su.firstActive = true ∨ n.lc.recoveryMark = true) :
    waiting (.announce (announceBody true n)) (leftJoining n) := by
  have h0 : Roomy 0 { n with lc := { n.lc with state := .active, recoveryMark := false } } := ⟨rfl, by simp [hq]⟩
  cases hf : n.su.firstActive with
  | true =>
    rw [leftJoining_first hf]
    exact firstFrames_waits h0 (by omega) (firstTwo_announces h0 (by omega))
  | false =>
    rw [leftJoining_recovery hf (by simpa [hf] using h)]
    exact askJoining_enters h0 (by omega)

theorem leftJoining_stops {n : Node} (hq : n.lc.queue = []) (hf : n.su.firstActive = true)
    (hs : hasStop n.cu.own = true) : waiting .stopall (leftJoining n) := by
  rw [leftJoining_first hf]
  exact firstFrames_waits (k := 0) ⟨rfl, by simp [hq]⟩ (by omega) (firstTwo_stops rfl hq hs)

/-- What waits as JOINING is left waits after what follows the command. -/
theorem finish_enterActive_waits {n : Node} {p : Payload} (hq : n.lc.queue = []) (hp : isFault p = false)
    (hst : ∀ b, replaces (.state b) p = false) (h : waiting p (leftJoining n)) :
    waiting p (finish (enterActive n)) := by
  have h3 := leftJoining_roomy hq
  rw [enterActive_eq]
  exact finish_waits ((recount_roomy h3 (by omega)).len.trans_lt (by omega)) hst
    (recount_waits (h3.len.trans_lt (by omega)) hp h)

theorem leftJoining_su_joining {n : Node} (h : n.su.firstActive = true ∨ n.lc.recoveryMark = true) :
    (leftJoining n).su = { n.su with firstActive := false, joinPending := true } := by
  cases hf : n.su.firstActive with
  | true =>
    rw [leftJoining_first hf]
    exact firstFrames_su _
  | false =>
    rw [leftJoining_recovery hf (by simpa [hf] using h), askJoining_su, ← hf]

theorem startUp_eq_of_notFirst {su : StartUp} (h : su.firstActive = false) : su = { su with firstActive := false } := by
  cases su
  cases h
  rfl

theorem leftJoining_su_else {n : Node} (h : ¬(n.su.firstActive = true ∨ n.lc.recoveryMark = true)) :
    (leftJoining n).su = n.su ∧ n.su.firstActive = false := by
  simp only [not_or, Bool.not_eq_true] at h
  rw [leftJoining_quiet h.1 h.2]
  exact ⟨rfl, h.1⟩

/-- The line controller after the end of JOINING. -/
theorem enterActive_sameLine (n : Node) :
    SameLine { n.lc with recoveryMark := false, state := stateForCounts { n.lc with state := .active } }
      (enterActive n).lc := by
  obtain ⟨q, t, e, h⟩ := leftJoining_sameLine n
  refine SameLine.trans ?_ (recount_sameLine (leftJoining n))
  rw [h]
  exact ⟨q, t, e, rfl⟩

/-- Settles O38: the requests of the end of JOINING find room in an empty queue, and no report takes them away; a frame
not joined is passed over. -/
theorem quietCountLeavesJoining : Obligations.QuietCountLeavesJoining := by
  unfold Obligations.QuietCountLeavesJoining
  refine ⟨fun s hl => ⟨fun hj => ?_, fun hj => ?_⟩, fun i rx s hi hl hj => completes_notJoined hi hl hj ?_⟩
  · refine completes_live_if
      (f := fun n => enterActive { n with lc := { n.lc with quiet := max n.lc.quiet 128, joined := true } }) rfl hl hj
      ?_
    generalize hm : ({ s.node with
      lc := { s.node.lc with quiet := max s.node.lc.quiet 128, joined := true } } : Node) = m
    have hlc : m.lc = { s.node.lc with quiet := max s.node.lc.quiet 128, joined := true } := by rw [← hm]
    have hsu : m.su = s.node.su := by rw [← hm]
    have honly : onlyChanges [.line] s.node m := by rw [← hm]; exact withLc_only _ _
    have hfirst : m.su.firstActive = s.node.su.firstActive := by rw [hsu]
    have hmark : m.lc.recoveryMark = s.node.lc.recoveryMark := by rw [hlc]
    have hqueue : m.lc.queue = s.node.lc.queue := by rw [hlc]
    have hown : m.cu.own = s.node.cu.own := by rw [← hm]
    have hbody : announceBody true m = announceBody true s.node := by rw [← hm]; rfl
    have hfsu : (finish (enterActive m)).su = (leftJoining m).su := by
      rw [show (finish (enterActive m)).su = (enterActive m).su from finish_only _ .start (by simp) (by decide)]
      exact recount_only _ .start (by simp) (by decide)
    obtain ⟨q, t, e, hf⟩ := (enterActive_sameLine m).trans (finish_sameLine _)
    refine ⟨?_, ?_, ?_, fun h1 h2 => ?_, ?_, fun hjo => ⟨?_, fun hq => ?_⟩, fun hfa hst hq => ?_, fun hnj => ?_, ?_⟩
    · rw [hf]
    · rw [hf]; exact onLine_stateForCounts (lc := { m.lc with state := .active }) rfl
    · rw [hf, hlc]
    · rw [hf, hlc]; simp [stateForCounts, h1, h2]
    · rw [hfsu]
      by_cases hjo : m.su.firstActive = true ∨ m.lc.recoveryMark = true
      · rw [leftJoining_su_joining hjo, hsu]
      · obtain ⟨hl1, hl2⟩ := leftJoining_su_else hjo
        rw [hl1, hsu]
        exact startUp_eq_of_notFirst (hfirst.symm.trans hl2)
    · rw [hfsu, leftJoining_su_joining (by rwa [hfirst, hmark])]
    · rw [← hbody]
      exact finish_enterActive_waits (hqueue.trans hq) rfl (fun _ => rfl)
        (leftJoining_announces (hqueue.trans hq) (by rwa [hfirst, hmark]))
    · exact finish_enterActive_waits (hqueue.trans hq) rfl (fun _ => rfl)
        (leftJoining_stops (hqueue.trans hq) (hfirst.trans hfa) (by rwa [hown]))
    · rw [hfsu, (leftJoining_su_else (by rwa [hfirst, hmark])).1, hsu]
    · exact onlyChanges_trans (onlyChanges_mono (by simp) honly) (finish_line_only (enterActive_only m))
  · exact completes_live_else
      (f := fun n => enterActive { n with lc := { n.lc with quiet := max n.lc.quiet 128, joined := true } }) rfl hl hj
      (finish_only _)
  · obtain ⟨q, t, e, hf⟩ := finish_sameLine (atSlotEnd rx (passedOver (slotQuiet false rx) s.node))
    have honly := onlyChanges_both (passedOver_only (slotQuiet false rx) s.node) (atSlotEnd_only rx _)
      (ps := [.line, .path]) (by simp) (by simp)
    refine ⟨?_, ?_, finish_only _ .path (by simp) (by decide), finish_line_only honly⟩
    · rw [hf]; simp [slotQuiet]
    · rw [hf]; rfl

end Sys2Proof.Machine
end

section
/-! PROOF. What a chain of reactions keeps: the parts it does not see, the conditions it does not name, and what holds
of every entry of the transmit queue. -/

namespace Sys2Proof.Machine

-- The text is checked as one file under a data limit that many waiting threads would exceed.
set_option Elab.async false

/-! ### What no reaction touches -/

/-- A value that neither the requests and conditions nor the units see, and that the owed mark and the latch leave where
the reaction sets them, stands. -/
theorem Acts.stands {α : Type} {as : List Act} {n m : Node} (h : Acts as n m) (f : Node → α)
    (hu : ∀ {a b}, UnitChange a b → f b = f a) (hc : ∀ {a b}, onlyChanges [.conds] a b → f b = f a)
    (ho : Act.owe ∈ as → ∀ a : Node, f { a with cu := { a.cu with owed := true } } = f a)
    (hl : Act.latch ∈ as → ∀ a : Node, f { a with cu := { a.cu with stopped := true } } = f a) : f m = f n := by
  induction h with
  | refl => rfl
  | unit _ u ih => exact (hu u).trans ih
  | raise d _ _ ih => exact (hc (raiseCommon_only _ d _)).trans ih
  | clear _ _ ih => exact (hc (clearCond_only _ _)).trans ih
  | held _ _ ih => exact (hc (onlyChanges_nil (heldTest_only _))).trans ih
  | clampAsk _ _ ih => exact (hc (onlyChanges_nil (askClamp_only _))).trans ih
  | verdicts num _ _ ih => exact (hc (onlyChanges_nil (withdrawNamed_only _ _))).trans ih
  | owe _ ha ih => exact (hc (onlyChanges_nil (askStopall_only _))).trans ((ho ha _).trans ih)
  | latch _ ha ih => exact (hl ha _).trans ih

section
variable {as : List Act} {n m : Node}

theorem Acts.su (h : Acts as n m) : m.su = n.su :=
  h.stands Node.su (·.su) (fun g => g .start (by decide) (by decide)) (fun _ _ => rfl) fun _ _ => rfl

theorem Acts.par (h : Acts as n m) : m.par = n.par :=
  h.stands Node.par (·.par) (fun g => g .params (by decide) (by decide)) (fun _ _ => rfl) fun _ _ => rfl

theorem Acts.held_eq (h : Acts as n m) : m.cu.held = n.cu.held :=
  h.stands (fun n => n.cu.held) (fun u => by rw [u.cu]) (fun g => g .held (by decide) (by decide)) (fun _ _ => rfl)
    fun _ _ => rfl

theorem Acts.phase_eq (h : Acts as n m) : m.pg.phase = n.pg.phase :=
  h.stands (fun n => n.pg.phase) (·.phase)
    (fun g => congrArg PG.phase (show _ = _ from g .path (by decide) (by decide))) (fun _ _ => rfl) fun _ _ => rfl

theorem Acts.sameLine (h : Acts as n m) : SameLine n.lc m.lc :=
  sameLine_of_keeps (h.stands (fun n => ({ n.lc with queue := [], tally := 0, lastErr := .none } : LC))
    (fun u => by rw [u.lc]) (fun g => g .line (by decide) (by decide)) (fun _ _ => rfl) fun _ _ => rfl)

theorem Acts.stopped_eq (h : Acts as n m) (hl : Act.latch ∉ as) : m.cu.stopped = n.cu.stopped :=
  h.stands (fun n => n.cu.stopped) (fun u => by rw [u.cu]) (fun g => g .latch (by decide) (by decide))
    (fun _ _ => rfl) fun hx => absurd hx hl

theorem Acts.owed_eq (h : Acts as n m) (ho : Act.owe ∉ as) : m.cu.owed = n.cu.owed :=
  h.stands (fun n => n.cu.owed) (fun u => by rw [u.cu])
    (fun g => (show keeps .stopInfo _ _ from g .stopInfo (by decide) (by decide)).1) (fun hx => absurd hx ho)
    fun _ _ => rfl

end

/-! ### Conditions -/

/-- A condition that the reactions neither raise nor clear stands as it stood. -/
theorem Acts.condIn {as : List Act} {n m : Node} (h : Acts as n m) {x : Cond} (hx : x ≠ .txqOverflow)
    (hr : Act.raise x ∉ as) (hc : Act.clear x ∉ as) : condIn x m.cu.own = condIn x n.cu.own := by
  induction h with
  | refl => rfl
  | unit _ u ih => rw [u.cu, ih]
  | @raise m c d _ ha ih =>
    have hne : x ≠ c := fun h => hr (h ▸ ha)
    rw [raiseCommon_condIn _ _ _ hx, ih]
    simp [hne]
  | @clear m c _ ha ih =>
    have hne : x ≠ c := fun h => hc (h ▸ ha)
    rw [clearCond_condIn, ih]
    simp [hne]
  | held _ _ ih => exact (condIn_of_onlyChanges (heldTest_only _) (by simp) hx).trans ih
  | clampAsk _ _ ih => exact (condIn_of_onlyChanges (askClamp_only _) (by simp) hx).trans ih
  | verdicts num _ _ ih => exact (condIn_of_onlyChanges (withdrawNamed_only _ _) (by simp) hx).trans ih
  | owe _ _ ih => exact (condIn_of_onlyChanges (askStopall_only _) (by simp) hx).trans ih
  | latch _ _ ih => exact ih

/-! ### The transmit queue -/

section
variable {E : TxEntry → Prop}

/-- The mark of a withdrawal keeps `E` of an entry in transmission (R14). -/
def Dooms (E : TxEntry → Prop) : Prop := ∀ e, E e → e.inTx = true → E { e with doomed := true }

theorem withdrawNamed_all (hd : Dooms E) (test : Payload → Bool) {n : Node} (h : AllTx E n) :
    AllTx E (withdrawNamed test n) := by
  intro e he
  obtain ⟨x, hx, rfl⟩ := List.mem_map.1 he
  obtain ⟨hm, hk⟩ := List.mem_filter.1 hx
  split
  · rename_i ht
    exact hd x (h x hm) (by simpa [ht] using hk)
  · exact h x hm

theorem askClamp_all (hf : TakesFaults E) (hc : ∀ v, Takes E (.override 1 v)) {n : Node} (h : AllTx E n) :
    AllTx E (askClamp n) := askWith_all hf (hc _) false (withdrawPending_all _ h)

theorem askStopall_all (hf : TakesFaults E) (hs : Takes E .stopall) {n : Node} (h : AllTx E n) :
    AllTx E (askStopall n) := by
  unfold askStopall
  split
  · exact askWith_all hf hs false h
  · exact h

/-- What the requests of reactions keep holds of the queue after them. -/
theorem Acts.allTx {as : List Act} {n m : Node} (h : Acts as n m) (hf : TakesFaults E) (hh : Takes E .hold)
    (hc : Act.clampAsk ∈ as → ∀ v, Takes E (.override 1 v)) (hs : Takes E .stopall) (hd : Dooms E)
    (hn : AllTx E n) : AllTx E m := by
  induction h with
  | refl => exact hn
  | unit _ u ih => simpa only [AllTx, u.lc] using ih
  | raise d _ _ ih => exact raiseCommon_all hf _ d ih
  | clear _ _ ih => simpa only [AllTx, clearCond_lc] using ih
  | held _ _ ih => exact heldTest_all hf hh ih
  | clampAsk _ ha ih => exact askClamp_all hf (hc ha) ih
  | verdicts num _ _ ih => exact withdrawNamed_all hd _ ih
  | owe _ _ ih => exact askStopall_all hf hs ih
  | latch _ _ ih => exact ih

end

end Sys2Proof.Machine
end

section
/-! PROOF. What the removal of entries and the rest of the chain leave: the queue, the path, the kept frames, and the
places and drives of the channels (R52, R73, R75, R102). -/

namespace Sys2Proof.Machine

-- The text is checked as one file under a data limit that many waiting threads would exceed.
set_option Elab.async false

/-! ### Channels that stand where they stood -/

/-- A channel with its planned end, commanded position, drive and stop timer as before. -/
structure SamePlace (a b : Axis) : Prop where
  planned : b.planned = a.planned := by rfl
  commanded : b.commanded = a.commanded := by rfl
  drive : b.drive = a.drive := by rfl
  stopTimer : b.stopTimer = a.stopTimer := by rfl

theorem SamePlace.trans {a b c : Axis} (h : SamePlace a b) (g : SamePlace b c) : SamePlace a c :=
  ⟨g.planned.trans h.planned, g.commanded.trans h.commanded, g.drive.trans h.drive, g.stopTimer.trans h.stopTimer⟩

/-- Both channels stand where they stood. -/
def SamePlaces (n m : Node) : Prop := ∀ c, SamePlace (getAx c n) (getAx c m)

theorem SamePlaces.refl (n : Node) : SamePlaces n n := fun _ => {}

theorem SamePlaces.trans {n m k : Node} (h : SamePlaces n m) (g : SamePlaces m k) : SamePlaces n k :=
  fun c => (h c).trans (g c)

theorem SamePlaces.ite {c : Prop} [Decidable c] {n a b : Node} (h : SamePlaces n a) (g : SamePlaces n b) :
    SamePlaces n (if c then a else b) := by
  split
  · exact h
  · exact g

theorem samePlaces_of_only {ps : List Part} {n m : Node} (h : onlyChanges ps n m) (h0 : Part.channel0 ∉ ps)
    (h1 : Part.channel1 ∉ ps) : SamePlaces n m := by
  intro c
  cases c with
  | ax0 =>
    have e : m.ax0 = n.ax0 := h .channel0 h0 (by decide)
    exact { planned := by rw [getAx, getAx, e], commanded := by rw [getAx, getAx, e], drive := by rw [getAx, getAx, e]
            stopTimer := by rw [getAx, getAx, e] }
  | ax1 =>
    have e : m.ax1 = n.ax1 := h .channel1 h1 (by decide)
    exact { planned := by rw [getAx, getAx, e], commanded := by rw [getAx, getAx, e], drive := by rw [getAx, getAx, e]
            stopTimer := by rw [getAx, getAx, e] }

theorem samePlaces_onAx (c : Chan) {f : Axis → Axis} (hf : ∀ a, SamePlace a (f a)) (n : Node) :
    SamePlaces n (onAx c f n) := by
  intro d
  cases c <;> cases d
  · exact hf _
  · exact {}
  · exact {}
  · exact hf _

theorem samePlaces_forAxes {f : Chan → AxisParams → Node → Node} (h : ∀ c p m, SamePlaces m (f c p m)) (n : Node) :
    SamePlaces n (forAxes f n) := by
  have one (c : Chan) (m : Node) : SamePlaces m (match axParams c m with | some p => f c p m | none => m) := by
    split
    · exact h c _ m
    · exact .refl m
  exact (one .ax0 n).trans (one .ax1 _)

theorem restIfStill_place (rest : Bool) (a : Axis) : SamePlace a (restIfStill rest a) := by
  unfold restIfStill
  split <;> exact {}

theorem endJog_place (rest : Bool) (a : Axis) : SamePlace a (endJog rest a) := by
  unfold endJog
  split
  · exact SamePlace.trans {} (restIfStill_place rest _)
  · exact {}

theorem failReference_place (rest : Bool) (a : Axis) : SamePlace a (failReference rest a) := by
  unfold failReference
  split
  · exact SamePlace.trans {} (restIfStill_place rest _)
  · exact {}

/-! ### The mode's reaction (R119, R122) -/

theorem axEndJog_only (c : Chan) (p : AxisParams) (n : Node) :
    onlyChanges [.channel0, .channel1, .conds] n (axEndJog c p n) :=
  onlyChanges_mono (by cases c <;> simp [chanPart]) (onAx_only c _ n)

theorem axFailRaised_only (c : Chan) (p : AxisParams) (n : Node) :
    onlyChanges [.channel0, .channel1, .conds] n (axFailRaised c p n) := by
  unfold axFailRaised
  split
  · exact onlyChanges_both (onAx_only c _ n) (raiseWarn_only _ _ _) (by cases c <;> simp [chanPart]) (by simp)
  · exact onlyChanges_refl _ n

theorem modeReaction_only (m : Mode) (n : Node) :
    onlyChanges [.channel0, .channel1, .conds] n (modeReaction m n) := by
  have h : onlyChanges [.channel0, .channel1, .conds] n (if m = .auto then forAxes axEndJog n else n) := by
    split
    · exact forAxes_only axEndJog_only n
    · exact onlyChanges_refl _ n
  unfold modeReaction
  dsimp only
  split
  · exact h
  · exact onlyChanges_trans h (forAxes_only axFailRaised_only _)

theorem axEndJog_places (c : Chan) (p : AxisParams) (n : Node) : SamePlaces n (axEndJog c p n) :=
  samePlaces_onAx c (endJog_place _) n

theorem axFailQuiet_places (c : Chan) (p : AxisParams) (n : Node) : SamePlaces n (axFailQuiet c p n) :=
  samePlaces_onAx c (failReference_place _) n

theorem axFailRaised_places (c : Chan) (p : AxisParams) (n : Node) : SamePlaces n (axFailRaised c p n) :=
  .ite ((axFailQuiet_places c p n).trans (samePlaces_of_only (raiseWarn_only _ _ _) (by simp) (by simp))) (.refl n)

theorem modeReaction_places (m : Mode) (n : Node) : SamePlaces n (modeReaction m n) := by
  have h : SamePlaces n (if m = .auto then forAxes axEndJog n else n) :=
    .ite (samePlaces_forAxes axEndJog_places n) (.refl n)
  exact .ite h (h.trans (samePlaces_forAxes axFailRaised_places _))

/-! ### The chain at rest (R102) -/

theorem motionsAtRest_only (n : Node) : onlyChanges [.channel0, .channel1] n (motionsAtRest n) := by
  unfold motionsAtRest
  split
  · intro p hp hr
    cases p <;> simp_all [keeps, reporting]
  · exact onlyChanges_refl _ n

theorem restMotion_place (a : Axis) : SamePlace a (restMotion a) := by
  unfold restMotion
  split <;> exact {}

theorem motionsAtRest_places (n : Node) : SamePlaces n (motionsAtRest n) := by
  unfold motionsAtRest
  split
  · intro c
    cases c
    · exact restMotion_place _
    · exact restMotion_place _
  · exact .refl n

theorem clLoss_places (n : Node) : SamePlaces n (clLoss n) := samePlaces_of_only (clLoss_only n) (by simp) (by simp)

/-! ### The removal of entries (R73, R75) -/

theorem withdrawVerdicts_eq (es : List Entry) (n : Node) :
    ∃ lc, es.foldl (fun k e => withdrawVerdict e.num k) n = { n with lc := lc } := by
  induction es generalizing n with
  | nil => exact ⟨n.lc, rfl⟩
  | cons e es ih =>
    obtain ⟨lc, h⟩ := ih (withdrawVerdict e.num n)
    exact ⟨lc, h⟩

/-- The node with entries removed, before their READY and GO are withdrawn and a change of the head is noted. -/
def entriesLeft (gone : Entry → Bool) (n : Node) : Node :=
  { n with
    bq := { n.bq with entries := n.bq.entries.filter fun e => !gone e }
    kept := dropKeptGo (n.bq.entries.filter fun e => !gone e) n.kept
    pg := if n.bq.entries.any fun e => gone e && inChain e then
        { n.pg with run := none, stopMark := false, carry := none } else n.pg }

theorem removeEntries_eq (gone : Entry → Bool) (n : Node) :
    removeEntries gone n = noteHead (headNum n)
      ((n.bq.entries.filter gone).foldl (fun k e => withdrawVerdict e.num k) (entriesLeft gone n)) := rfl

theorem headChanged_places (n : Node) : SamePlaces n (headChanged n) := by
  have h : SamePlaces n (clearCond .startStall (presetHead n)) :=
    SamePlaces.trans (m := presetHead n) (fun c => by cases c <;> exact {})
      (samePlaces_of_only (clearCond_only _ _) (by simp) (by simp))
  refine h.trans fun c => ?_
  cases c <;> exact {}

theorem noteHead_places (old : Option BlockNo) (n : Node) : SamePlaces n (noteHead old n) :=
  .ite (.refl n) (headChanged_places n)

theorem headChanged_only (n : Node) :
    onlyChanges [.blocks, .channel0, .channel1, .spindle, .coolant, .conds] n (headChanged n) := by
  have h0 : onlyChanges [.blocks] n (presetHead n) := withBq_only _ n
  have h : onlyChanges [.blocks, .conds] n (clearCond .startStall (presetHead n)) :=
    onlyChanges_both h0 (clearCond_only _ _) (by simp) (by simp)
  refine onlyChanges_trans (onlyChanges_mono (by simp) h) ?_
  intro p hp hr
  cases p <;> simp_all [keeps, reporting, headChanged, clearAbandoned]

theorem noteHead_only (old : Option BlockNo) (n : Node) :
    onlyChanges [.blocks, .channel0, .channel1, .spindle, .coolant, .conds] n (noteHead old n) := by
  unfold noteHead
  split
  · exact onlyChanges_refl _ n
  · exact headChanged_only n

/-- What the removal of entries leaves of queue, path and kept frames. -/
theorem removeEntries_parts (gone : Entry → Bool) (n : Node) :
    (∃ k, (removeEntries gone n).bq =
      { n.bq with entries := n.bq.entries.filter (fun e => !gone e), headTimer := k }) ∧
    (removeEntries gone n).pg = (entriesLeft gone n).pg ∧
    (removeEntries gone n).kept = dropKeptGo (n.bq.entries.filter fun e => !gone e) n.kept := by
  obtain ⟨lc, hlc⟩ := withdrawVerdicts_eq (n.bq.entries.filter gone) (entriesLeft gone n)
  rw [removeEntries_eq, hlc]
  have ho := noteHead_only (headNum n) { entriesLeft gone n with lc := lc }
  exact ⟨noteHead_bq _ _, ho .path (by simp) (by decide), ho .kept (by simp) (by decide)⟩

theorem removeEntries_places (gone : Entry → Bool) (n : Node) : SamePlaces n (removeEntries gone n) := by
  obtain ⟨lc, hlc⟩ := withdrawVerdicts_eq (n.bq.entries.filter gone) (entriesLeft gone n)
  rw [removeEntries_eq, hlc]
  refine SamePlaces.trans (m := { entriesLeft gone n with lc := lc }) (fun c => ?_) (noteHead_places _ _)
  cases c <;> exact {}

/-- A removed chain entry takes the running block off the path. -/
theorem entriesLeft_run {gone : Entry → Bool} {n : Node} (h : ∃ e ∈ n.bq.entries, gone e = true ∧ inChain e = true) :
    (entriesLeft gone n).pg.run = none := by
  obtain ⟨e, he, hg, hc⟩ := h
  have : (n.bq.entries.any fun e => gone e && inChain e) = true := List.any_eq_true.2 ⟨e, he, by simp [hg, hc]⟩
  simp [entriesLeft, this]

theorem entriesLeft_run_none {gone : Entry → Bool} {n : Node} (h : n.pg.run = none) :
    (entriesLeft gone n).pg.run = none := by
  unfold entriesLeft
  dsimp only
  split
  · rfl
  · exact h

theorem entriesLeft_stopMark {gone : Entry → Bool} {n : Node} (h : n.pg.stopMark = false) :
    (entriesLeft gone n).pg.stopMark = false := by
  unfold entriesLeft
  dsimp only
  split
  · rfl
  · exact h

/-! ### Every entry removed (R75) -/

/-- The last entries' target for a channel, or the commanded position where none lists the axis (R73). -/
def plannedEnd (rec : Entry → Option AxisRec) (es : List Entry) (commanded : Int) : Int :=
  (lastTarget rec es).getD commanded

/-- The record of an entry for a channel. -/
def recordOf (c : Chan) (e : Entry) : Option AxisRec := match c with | .ax0 => e.rec0 | .ax1 => e.rec1

theorem setPlanned_ax (c : Chan) (n : Node) :
    getAx c (setPlanned n) = plannedAfter (recordOf c) n (getAx c n) := by cases c <;> rfl

theorem plannedAfter_rest {rec : Entry → Option AxisRec} {n : Node} (a : Axis) (h : chainAtRest n = true) :
    (plannedAfter rec n a).planned = a.commanded := by simp [plannedAfter, h]

theorem plannedAfter_chain {rec : Entry → Option AxisRec} {n : Node} (a : Axis) (h : chainAtRest n = false) :
    (plannedAfter rec n a).planned = plannedEnd rec n.bq.entries a.commanded := by simp [plannedAfter, h, plannedEnd]

/-- The emptied queue with its forgotten records (R73, R75). -/
def emptied (n : Node) : BQ :=
  { n.bq with entries := [], expected := none, headTimer := n.par.headWait, spindleForce := none, rangeForce := none,
              coolantForce := none }

/-- The node of an emptied queue before the coolant unit looks at its circuits. -/
def removedAll (n : Node) : Node :=
  motionsAtRest (emptyBlockSet (forgetForce (setPlanned { removeEntries (fun _ => true) n with
    bq := { (removeEntries (fun _ => true) n).bq with expected := none } })))

theorem removeAll_eq (n : Node) : removeAll n = clLoss (removedAll n) := rfl

theorem removeAll_bq (n : Node) : (removeAll n).bq = emptied n := by
  obtain ⟨⟨k, hk⟩, -, -⟩ := removeEntries_parts (fun _ => true) n
  have hpar := (removeEntries_acts (fun _ => true) n).par
  have h1 : (removeAll n).bq = (removedAll n).bq := clLoss_only _ .blocks (by simp) (by decide)
  have h2 : (removedAll n).bq = (emptyBlockSet (forgetForce (setPlanned { removeEntries (fun _ => true) n with
      bq := { (removeEntries (fun _ => true) n).bq with expected := none } }))).bq :=
    motionsAtRest_only _ .blocks (by simp) (by decide)
  rw [h1, h2]
  simp only [emptyBlockSet, forgetForce, presetHead, setPlanned, emptied, hk, hpar]
  simp

theorem removeAll_pg (n : Node) : (removeAll n).pg = (entriesLeft (fun _ => true) n).pg := by
  obtain ⟨-, hpg, -⟩ := removeEntries_parts (fun _ => true) n
  have h1 : (removeAll n).pg = (removedAll n).pg := clLoss_only _ .path (by simp) (by decide)
  have h2 : (removedAll n).pg = (removeEntries (fun _ => true) n).pg := motionsAtRest_only _ .path (by simp) (by decide)
  rw [h1, h2, hpg]

theorem removeAll_kept (n : Node) : (removeAll n).kept = dropKeptGo [] n.kept := by
  obtain ⟨-, -, hk⟩ := removeEntries_parts (fun _ => true) n
  have h1 : (removeAll n).kept = (removedAll n).kept := clLoss_only _ .kept (by simp) (by decide)
  have h2 : (removedAll n).kept = (removeEntries (fun _ => true) n).kept :=
    motionsAtRest_only _ .kept (by simp) (by decide)
  rw [h1, h2, hk]
  simp

/-- A channel after every entry was removed: its planned end is its commanded position. -/
theorem removeAll_ax (c : Chan) (n : Node) :
    (getAx c (removeAll n)).planned = (getAx c n).commanded ∧
      (getAx c (removeAll n)).commanded = (getAx c n).commanded ∧
      (getAx c (removeAll n)).drive = (getAx c n).drive ∧
      (getAx c (removeAll n)).stopTimer = (getAx c n).stopTimer := by
  obtain ⟨⟨k, hk⟩, -, -⟩ := removeEntries_parts (fun _ => true) n
  generalize hm : ({ removeEntries (fun _ => true) n with
    bq := { (removeEntries (fun _ => true) n).bq with expected := none } } : Node) = m
  have hrest : chainAtRest m = true := by
    rw [← hm]
    simp [chainAtRest, hk]
  have hplace : SamePlace (getAx c n) (getAx c m) := by
    have := removeEntries_places (fun _ => true) n c
    rw [← hm]
    cases c <;> exact this
  have hall : SamePlace (getAx c (setPlanned m)) (getAx c (removeAll n)) := by
    have h1 : SamePlaces (emptyBlockSet (forgetForce (setPlanned m))) (removeAll n) := by
      rw [removeAll_eq, removedAll, hm]
      exact (motionsAtRest_places _).trans (clLoss_places _)
    have h2 := h1 c
    cases c <;> exact h2
  have hp : (getAx c (setPlanned m)).planned = (getAx c m).commanded := by
    rw [setPlanned_ax]
    exact plannedAfter_rest _ hrest
  have hs : (getAx c (setPlanned m)).commanded = (getAx c m).commanded ∧
      (getAx c (setPlanned m)).drive = (getAx c m).drive ∧
      (getAx c (setPlanned m)).stopTimer = (getAx c m).stopTimer := by
    rw [setPlanned_ax]
    exact ⟨rfl, rfl, rfl⟩
  obtain ⟨hc, hd, ht⟩ := hs
  exact ⟨(hall.planned.trans hp).trans hplace.commanded, (hall.commanded.trans hc).trans hplace.commanded,
    (hall.drive.trans hd).trans hplace.drive, (hall.stopTimer.trans ht).trans hplace.stopTimer⟩

end Sys2Proof.Machine
end

section
/-! PROOF. What an accepted FLUSH removes and sets (R73). -/

namespace Sys2Proof.Machine

-- The text is checked as one file under a data limit that many waiting threads would exceed.
set_option Elab.async false

/-! ### The frames of a removed entry (R14, R73) -/

/-- A READY or GO for a number stands in the queue only in transmission and marked to leave. -/
def Withdrawn (num : BlockNo) (x : TxEntry) : Prop :=
  isReadyFor num x.payload = true ∨ isGoFor num x.payload = true → x.inTx = true ∧ x.doomed = true

theorem takes_withdrawn {num : BlockNo} {p : Payload} (hr : isReadyFor num p = false) (hg : isGoFor num p = false) :
    Takes (Withdrawn num) p :=
  have h {b : Prop} : isReadyFor num p = true ∨ isGoFor num p = true → b := by simp [hr, hg]
  ⟨fun _ _ => h, fun _ _ _ _ => h⟩

theorem dooms_withdrawn (num : BlockNo) : Dooms (Withdrawn num) := fun _ h _ hp => ⟨(h hp).1, rfl⟩

/-- The requests of reactions are for no READY and no GO. -/
theorem Acts.withdrawn {as : List Act} {n m : Node} (h : Acts as n m) {num : BlockNo} (hn : AllTx (Withdrawn num) n) :
    AllTx (Withdrawn num) m :=
  h.allTx (fun _ => takes_withdrawn rfl rfl) (takes_withdrawn rfl rfl)
    (fun _ _ => takes_withdrawn rfl rfl) (takes_withdrawn rfl rfl) (dooms_withdrawn num) hn

theorem finish_withdrawn {num : BlockNo} {n : Node} (h : AllTx (Withdrawn num) n) : AllTx (Withdrawn num) (finish n) :=
  finish_all (fun _ => takes_withdrawn rfl rfl) (fun _ => takes_withdrawn rfl rfl) h

theorem withdrawVerdict_withdrawn (num : BlockNo) (n : Node) : AllTx (Withdrawn num) (withdrawVerdict num n) := by
  intro e he
  obtain ⟨x, hx, rfl⟩ := List.mem_map.1 he
  have hk := (List.mem_filter.1 hx).2
  split
  · rename_i ht
    exact fun _ => ⟨by simpa [ht] using hk, rfl⟩
  · rename_i ht
    exact fun h => absurd (by simpa using h) ht

theorem withdrawVerdicts_withdrawn {es : List Entry} {e : Entry} (he : e ∈ es) (n : Node) :
    AllTx (Withdrawn e.num) (es.foldl (fun k e => withdrawVerdict e.num k) n) := by
  induction es generalizing n with
  | nil => cases he
  | cons x xs ih =>
    obtain rfl | he := List.mem_cons.1 he
    · exact (withdrawVerdicts_acts xs _).withdrawn (withdrawVerdict_withdrawn _ n)
    · exact ih he _

theorem removeEntries_withdrawn {gone : Entry → Bool} {n : Node} {e : Entry} (he : e ∈ n.bq.entries)
    (hg : gone e = true) : AllTx (Withdrawn e.num) (removeEntries gone n) := by
  rw [removeEntries_eq]
  exact (noteHead_acts _ _).withdrawn (withdrawVerdicts_withdrawn (List.mem_filter.2 ⟨he, hg⟩) _)

/-! ### The last target of an axis -/

theorem lastTarget_none {rec : Entry → Option AxisRec} {es : List Entry}
    (h : ∀ y ∈ es, ∀ a b d, rec y ≠ some (.resolved a b d)) : lastTarget rec es = none := by
  refine List.findSome?_eq_none_iff.2 fun y hy => ?_
  split
  · rename_i a t d hr
    exact absurd hr (h y (List.mem_reverse.1 hy) a t d)
  · rfl

theorem lastTarget_last {rec : Entry → Option AxisRec} {before after : List Entry} {e : Entry} {a t : Int} {w : Bool}
    (he : rec e = some (.resolved a t w)) (ha : ∀ y ∈ after, ∀ a b d, rec y ≠ some (.resolved a b d)) :
    lastTarget rec (before ++ e :: after) = some t := by
  have hn := lastTarget_none ha
  unfold lastTarget at hn ⊢
  simp [List.findSome?_append, hn, he]

/-- What a statement about planned ends asks is `plannedEnd`. -/
theorem plannedEnd_cases (rec : Entry → Option AxisRec) (es : List Entry) (commanded : Int) :
    (es = [] → plannedEnd rec es commanded = commanded) ∧
    (∀ before e after a t w, es = before ++ e :: after → rec e = some (.resolved a t w) →
      (∀ y ∈ after, ∀ a b d, rec y ≠ some (.resolved a b d)) → plannedEnd rec es commanded = t) ∧
    ((∀ y ∈ es, ∀ a b d, rec y ≠ some (.resolved a b d)) → plannedEnd rec es commanded = commanded) := by
  refine ⟨fun h => by subst h; rfl, fun before e after a t w h he ha => ?_, fun h => ?_⟩
  · rw [h, plannedEnd, lastTarget_last he ha]
    rfl
  · rw [plannedEnd, lastTarget_none h]
    rfl

/-! ### The node of a FLUSH before the rest of its chain is looked at -/

/-- The entries a FLUSH leaves. -/
def flushLeft (n : Node) : List Entry := n.bq.entries.filter fun e => !flushed n e

/-- The node with the entries removed, each planned end set and the FLUSH's number expected. -/
def flushRemoved (num : Option BlockNo) (n : Node) : Node :=
  let m := setPlanned (removeEntries (flushed n) n)
  forgetForce { m with bq := { m.bq with expected := flushExpected num m.bq.entries } }

/-- The node with SEQUENCE_GAP, PEER_REJOINED and BLOCK_REFUSED cleared. -/
def flushCleared (n : Node) : Node := clearCond .blockRefused (clearCond .peerRejoined (clearCond .sequenceGap n))

/-- The node of a FLUSH before the rest of its chain is looked at. -/
def flushedNode (num : Option BlockNo) (n : Node) : Node := emptyBlockSet (flushCleared (flushRemoved num n))

theorem acceptFlush_eq (num : Option BlockNo) (n : Node) : acceptFlush num n = afterRest (flushedNode num n) := rfl

/-- What a FLUSH clears (R46, R73). -/
abbrev flushClears : List Act := [.clear .sequenceGap, .clear .peerRejoined, .clear .blockRefused]

theorem flushRemoved_acts (num : Option BlockNo) (n : Node) : Acts headActs n (flushRemoved num n) :=
  ((removeEntries_acts _ n).unit (setPlanned_unit _)).unit {}

theorem flushCleared_acts (n : Node) : Acts flushClears n (flushCleared n) :=
  .clear (.clear (.clear .refl (by simp)) (by simp)) (by simp)

theorem flushedNode_acts (num : Option BlockNo) (n : Node) :
    Acts (headActs ++ flushClears) n (flushedNode num n) :=
  (((flushRemoved_acts num n).mono (by simp)).andThen (flushCleared_acts _)).unit (emptyBlockSet_unit _)

theorem flushCleared_only (n : Node) : onlyChanges [.conds] n (flushCleared n) :=
  onlyChanges_trans (clearCond_only _ n) (onlyChanges_trans (clearCond_only _ _) (clearCond_only _ _))

theorem emptyBlockSet_only (n : Node) : onlyChanges [.coolant] n (emptyBlockSet n) := by
  intro p hp _
  cases p <;> simp_all [keeps, emptyBlockSet]

theorem flushedNode_only (num : Option BlockNo) (n : Node) :
    onlyChanges [.coolant, .conds] (flushRemoved num n) (flushedNode num n) :=
  onlyChanges_both (flushCleared_only _) (emptyBlockSet_only _) (by simp) (by simp)

/-- What a FLUSH leaves of queue, path, kept frames and channels, the expected number apart. -/
structure FlushLeaves (n t : Node) : Prop where
  blocks : ∃ x, t.bq = { n.bq with
    entries := flushLeft n, expected := x, headTimer := n.par.headWait, spindleForce := none, rangeForce := none
    coolantForce := none }
  run : (∃ e ∈ n.bq.entries, flushed n e = true ∧ inChain e = true) → t.pg.run = none
  kept : t.kept = dropKeptGo (flushLeft n) n.kept
  planned : ∀ c, (getAx c t).planned = plannedEnd (recordOf c) (flushLeft n) (getAx c n).commanded
  commanded : ∀ c, (getAx c t).commanded = (getAx c n).commanded

theorem FlushLeaves.entries {n t : Node} (h : FlushLeaves n t) : t.bq.entries = flushLeft n := by
  obtain ⟨x, hx⟩ := h.blocks
  rw [hx]

/-- Parts that stand keep what a FLUSH left. -/
theorem FlushLeaves.stands {n m t : Node} (h : FlushLeaves n m) (hb : t.bq = m.bq) (hp : t.pg = m.pg)
    (hk : t.kept = m.kept) (hs : SamePlaces m t) : FlushLeaves n t where
  blocks := hb ▸ h.blocks
  run := hp ▸ h.run
  kept := hk.trans h.kept
  planned c := (hs c).planned.trans (h.planned c)
  commanded c := (hs c).commanded.trans (h.commanded c)

theorem FlushLeaves.of_only {n m t : Node} {ps : List Part} (h : FlushLeaves n m) (ho : onlyChanges ps m t)
    (hs : SamePlaces m t) (hp : ∀ p ∈ [Part.blocks, .path, .kept], p ∉ ps := by simp) : FlushLeaves n t :=
  h.stands (ho .blocks (hp _ (by simp)) (by decide)) (ho .path (hp _ (by simp)) (by decide))
    (ho .kept (hp _ (by simp)) (by decide)) hs

/-- Every entry that a FLUSH leaves is in the chain. -/
theorem inChain_of_mem_flushLeft {n : Node} {e : Entry} (h : e ∈ flushLeft n) : inChain e = true := by
  have := (List.mem_filter.1 h).2
  simp [flushed, uncommitted] at this
  exact this.1

theorem flushLeft_eq_nil {n t : Node} (h : t.bq.entries = flushLeft n) (hr : chainAtRest t = true) :
    flushLeft n = [] := by
  refine List.eq_nil_iff_forall_not_mem.2 fun e he => ?_
  have hn : t.bq.entries.any inChain = false := by simpa [chainAtRest] using hr
  simpa [inChain_of_mem_flushLeft he] using List.any_eq_false.1 hn e (h ▸ he)

theorem flushRemoved_leaves (num : Option BlockNo) (n : Node) : FlushLeaves n (flushRemoved num n) := by
  obtain ⟨⟨k, hk⟩, hpg, hkept⟩ := removeEntries_parts (flushed n) n
  have hpar := (removeEntries_acts (flushed n) n).par
  have hplace := removeEntries_places (flushed n) n
  refine ⟨⟨flushExpected num (flushLeft n), ?_⟩, fun ⟨e, he, hf, hc⟩ => ?_, hkept, fun c => ?_, fun c => ?_⟩
  · simp only [flushRemoved, forgetForce, presetHead, setPlanned, hk, hpar, flushLeft]
  · exact (congrArg PG.run hpg).trans (entriesLeft_run ⟨e, he, hf, hc⟩)
  · have h : getAx c (flushRemoved num n) = getAx c (setPlanned (removeEntries (flushed n) n)) := by cases c <;> rfl
    have he : (removeEntries (flushed n) n).bq.entries = flushLeft n := by rw [hk]; rfl
    rw [h, setPlanned_ax, ← (hplace c).commanded, ← he]
    cases hr : chainAtRest (removeEntries (flushed n) n) with
    | true =>
      rw [plannedAfter_rest _ hr, he, flushLeft_eq_nil he hr]
      rfl
    | false => exact plannedAfter_chain _ hr
  · have h : (getAx c (flushRemoved num n)).commanded = (getAx c (removeEntries (flushed n) n)).commanded := by
      cases c <;> rfl
    exact h.trans (hplace c).commanded

theorem flushedNode_leaves (num : Option BlockNo) (n : Node) : FlushLeaves n (flushedNode num n) :=
  (flushRemoved_leaves num n).of_only (flushedNode_only num n)
    (samePlaces_of_only (flushedNode_only num n) (by simp) (by simp))

/-! ### The rest of the chain after a FLUSH (R52, R102, R159) -/

/-- The node at rest before a mode is adopted. -/
def atRest (n : Node) : Node := clLoss (motionsAtRest n)

theorem afterRest_eq (n : Node) :
    afterRest n = if chainAtRest (atRest n) && condIn .modeSwitch (atRest n).cu.own then adoptMode (atRest n)
      else atRest n := rfl

theorem atRest_only (n : Node) : onlyChanges [.channel0, .channel1, .coolant, .conds] n (atRest n) :=
  onlyChanges_both (motionsAtRest_only n) (clLoss_only _) (by simp) (by simp)

theorem atRest_places (n : Node) : SamePlaces n (atRest n) := (motionsAtRest_places n).trans (clLoss_places _)

theorem atRest_acts (n : Node) : Acts lossActs n (atRest n) :=
  (Acts.ofUnit (motionsAtRest_unit n)).trans (clLoss_acts _)

/-- The adoption of a mode changes, beyond the removal of every entry, the mode, the channels' motions and
conditions. -/
theorem adoptMode_only (n : Node) :
    onlyChanges [.mode, .channel0, .channel1, .conds] (removeAll n) (adoptMode n) := by
  have h : onlyChanges [.mode] (removeAll n)
      { removeAll n with nt := { (removeAll n).nt with mode := (removeAll n).nt.sourceMode } } := by
    intro p hp hr
    cases p <;> simp_all [keeps, reporting]
  refine onlyChanges_trans (onlyChanges_mono (by simp) h) ?_
  exact onlyChanges_both (modeReaction_only _ _) (clearCond_only _ _) (by simp) (by simp)

theorem adoptMode_places (n : Node) : SamePlaces (removeAll n) (adoptMode n) := by
  have h : SamePlaces (removeAll n)
      { removeAll n with nt := { (removeAll n).nt with mode := (removeAll n).nt.sourceMode } } :=
    fun c => by cases c <;> exact {}
  exact (h.trans (modeReaction_places _ _)).trans (samePlaces_of_only (clearCond_only _ _) (by simp) (by simp))

/-- With no entry left to remove, what a FLUSH left stands through the removal of every entry. -/
theorem FlushLeaves.removeAll {n m : Node} (h : FlushLeaves n m) (hn : flushLeft n = []) (hp : m.par = n.par) :
    FlushLeaves n (removeAll m) := by
  obtain ⟨x, hx⟩ := h.blocks
  refine ⟨⟨none, ?_⟩, fun hc => ?_, ?_, fun c => ?_, fun c => ?_⟩
  · rw [removeAll_bq, emptied, hx, hp, hn]
  · rw [removeAll_pg]
    exact entriesLeft_run_none (h.run hc)
  · rw [removeAll_kept, h.kept, hn]
    simp [dropKeptGo]
  · rw [(removeAll_ax c m).1, h.commanded, hn]
    rfl
  · rw [(removeAll_ax c m).2.1, h.commanded]

theorem FlushLeaves.afterRest {n m : Node} (h : FlushLeaves n m) (hp : m.par = n.par) :
    FlushLeaves n (afterRest m) := by
  have hr : FlushLeaves n (atRest m) := h.of_only (atRest_only m) (atRest_places m)
  rw [afterRest_eq]
  split
  · rename_i hc
    simp only [Bool.and_eq_true] at hc
    have hn := flushLeft_eq_nil hr.entries hc.1
    exact (hr.removeAll hn ((atRest_acts m).par.trans hp)).of_only (adoptMode_only _) (adoptMode_places _)
  · exact hr

theorem acceptFlush_leaves (num : Option BlockNo) (n : Node) : FlushLeaves n (acceptFlush num n) :=
  (flushedNode_leaves num n).afterRest (flushedNode_acts num n).par

/-- With MODE_SWITCH clear no mode is adopted, and the FLUSH's number is expected. -/
theorem acceptFlush_expected {num : Option BlockNo} {n : Node} (h : condIn .modeSwitch n.cu.own = false) :
    (acceptFlush num n).bq.expected = flushExpected num (flushLeft n) := by
  have hm : condIn .modeSwitch (atRest (flushedNode num n)).cu.own = false :=
    ((atRest_acts _).condIn (by decide) (by decide) (by decide)).trans
      (((flushedNode_acts num n).condIn (by decide) (by decide) (by decide)).trans h)
  have hb : (atRest (flushedNode num n)).bq = (flushRemoved num n).bq :=
    (show (atRest (flushedNode num n)).bq = (flushedNode num n).bq from
      atRest_only _ .blocks (by simp) (by decide)).trans (flushedNode_only num n .blocks (by simp) (by decide))
  obtain ⟨⟨k, hk⟩, -, -⟩ := removeEntries_parts (flushed n) n
  rw [acceptFlush_eq, afterRest_eq, hm, Bool.and_false, if_neg (by simp), hb]
  simp only [flushRemoved, forgetForce, presetHead, setPlanned, hk, flushLeft]

theorem flushExpected_eq (flags : Byte) (num : BlockNo) (es : List Entry) :
    flushExpected (flushNumber flags num) es =
      match es.getLast? with
      | none => if flags.getLsbD 0 then none else some num
      | some l => if flags.getLsbD 0 = false ∧ ahead num l.num = true then some num else some (l.num + 1) := by
  unfold flushExpected flushNumber
  cases es.getLast? <;> cases flags.getLsbD 0 <;> simp

theorem acceptFlush_acts (num : Option BlockNo) (n : Node) :
    Acts (flushClears ++ restActs) n (acceptFlush num n) :=
  ((flushedNode_acts num n).mono (by simp)).andThen (afterRest_acts _)

theorem acceptFlush_withdrawn {num : Option BlockNo} {n : Node} {e : Entry} (he : e ∈ n.bq.entries)
    (hg : flushed n e = true) : AllTx (Withdrawn e.num) (acceptFlush num n) := by
  have h : AllTx (Withdrawn e.num) (flushRemoved num n) := removeEntries_withdrawn he hg
  have hc : AllTx (Withdrawn e.num) (flushedNode num n) := (flushCleared_acts _).withdrawn h
  exact (afterRest_acts _).withdrawn hc

/-- A condition that a FLUSH clears and no rest of the chain raises is clear. -/
theorem acceptFlush_clears (num : Option BlockNo) (n : Node) {x : Cond}
    (hx : x ∈ [Cond.sequenceGap, .peerRejoined, .blockRefused]) :
    condIn x (acceptFlush num n).cu.own = false := by
  have hc : condIn x (flushedNode num n).cu.own = false := by
    change condIn x (flushCleared (flushRemoved num n)).cu.own = false
    fin_cases hx <;> simp [flushCleared]
  rw [acceptFlush_eq, ← hc]
  fin_cases hx <;> exact (afterRest_acts _).condIn (by decide) (by decide) (by decide)

theorem mem_dropKeptGo {es : List Entry} {ks : List Kept} {k : Kept} :
    k ∈ dropKeptGo es ks ↔ k ∈ ks ∧ ∀ g, k.payload = .go g → ∃ e ∈ es, e.num = g := by
  rw [dropKeptGo, List.mem_filter]
  refine and_congr_right fun _ => ?_
  split
  · rename_i m hm
    simp [hasEntry, hm]
  · rename_i h
    simpa using fun g hg => absurd hg (h g)

/-! ### A frame accepted -/

/-- A frame of a unit that works on the accepted node. -/
theorem frameCompletes_of {i : Instr} {rx : Rx} {s : State} {unit : Moment → Node → Node} {P : Node → Node → Prop}
    (hi : exec i s = frame rx unit s)
    (h : P (accepted rx s.node) (finish (unit (captureOf rx s.node) (accepted rx s.node)))) :
    frameCompletes i rx s P := by
  intro hl hj hs
  refine completes_live (f := heardFrame rx fun n => unit (captureOf rx n) (accepted rx n)) hi hl ?_
  rw [heardFrame, joinedFrame_of_joins _ hj, takeFrame_of_slotClear _ hs]
  exact h

theorem not_flushed (n : Node) :
    (fun e => !flushed n e) = fun e => inChain e && !(n.cu.held && pathVelocity n == 0) :=
  funext fun e => by simp [flushed, uncommitted]

/-- Settles O26: what the removal leaves stands through the rest of the chain, the adoption of a mode at rest
included. -/
theorem flushEmptiesTheQueue : Obligations.FlushEmptiesTheQueue := by
  unfold Obligations.FlushEmptiesTheQueue
  intro rx flags num s hc
  refine frameCompletes_of
    (unit := fun _ n => if bqUsed n then acceptFlush (flushNumber flags num) n else clearFlush n) rfl ?_
  rw [if_pos (bqUsed_accepted hc)]
  generalize accepted rx s.node = m
  have hl : FlushLeaves m (finish (acceptFlush (flushNumber flags num) m)) :=
    (acceptFlush_leaves _ m).of_only (finish_only _) (samePlaces_of_only (finish_only _) (by simp) (by simp))
  have hcond {x : Cond} (hx : x ∈ [Cond.sequenceGap, .peerRejoined, .blockRefused]) (ho : x ≠ .txqOverflow) :
      condIn x (finish (acceptFlush (flushNumber flags num) m)).cu.own = false :=
    (condIn_of_onlyChanges (finish_only _) (by simp) ho).trans (acceptFlush_clears _ m hx)
  have hf := acceptFlush_expected (num := flushNumber flags num) (n := m)
  have hbq : (finish (acceptFlush (flushNumber flags num) m)).bq = (acceptFlush (flushNumber flags num) m).bq :=
    finish_only _ .blocks (by simp) (by decide)
  have hheld : (finish (acceptFlush (flushNumber flags num) m)).cu.held = m.cu.held :=
    (show _ = _ from finish_only _ .held (by simp) (by decide)).trans (acceptFlush_acts _ m).held_eq
  have htx (e : Entry) (he : e ∈ m.bq.entries) (hg : flushed m e = true) :
      AllTx (Withdrawn e.num) (finish (acceptFlush (flushNumber flags num) m)) :=
    finish_withdrawn (acceptFlush_withdrawn he hg)
  have hgone (e : Entry) : (inChain e && !(m.cu.held && pathVelocity m == 0)) = false → flushed m e = true := by
    rw [← congrFun (not_flushed m) e]
    simp
  have hleft : flushLeft m = m.bq.entries.filter fun e => inChain e && !(m.cu.held && pathVelocity m == 0) := by
    rw [flushLeft, not_flushed]
  generalize finish (acceptFlush (flushNumber flags num) m) = t at *
  obtain ⟨x, hx⟩ := hl.blocks
  refine ⟨hl.entries.trans hleft, fun ⟨e, he, hch, hst⟩ => hl.run ⟨e, he, hgone e hst, hch⟩, fun k => ?_,
    fun e he hst => htx e he (hgone e hst), fun c => ?_, hcond (by simp) (by decide), hcond (by simp) (by decide),
    hcond (by simp) (by decide), by rw [hx], by rw [hx], by rw [hx], by rw [hx], hheld, by rw [hx], fun hms => ?_⟩
  · rw [hl.kept, hl.entries]
    exact mem_dropKeptGo
  · rw [hl.entries, hl.planned]
    exact plannedEnd_cases (recordOf c) (flushLeft m) (getAx c m).commanded
  · rw [hl.entries, hbq, hf hms]
    exact flushExpected_eq flags num _

end Sys2Proof.Machine
end

section
/-! PROOF. What an accepted STOPALL, the end of the stop deceleration and the disable point leave (R92, R124, R178). -/

namespace Sys2Proof.Machine

-- The text is checked as one file under a data limit that many waiting threads would exceed.
set_option Elab.async false

/-! ### The transmit queue after the purge (R16, R161) -/

/-- A class-1 or class-2 entry is marked to leave in transmission, and pending the clamp OVERRIDE of 150 that
`asked` allows. -/
def Purged (asked : Prop) (e : TxEntry) : Prop :=
  txClass e = 1 ∨ txClass e = 2 →
    (e.inTx = false → e.payload = .override 1 150 ∧ asked) ∧ (e.inTx = true → e.doomed = true)

section
variable {asked : Prop}

theorem takes_purged {p : Payload} (h : (payloadClass p == 1 || payloadClass p == 2) = false) :
    Takes (Purged asked) p := by
  have hn {b : Prop} : payloadClass p = 1 ∨ payloadClass p = 2 → b := by
    rintro (hp | hp) <;> simp [hp] at h
  exact ⟨fun _ _ => hn, fun _ _ _ _ => hn⟩

theorem takesFaults_purged : TakesFaults (Purged asked) := fun _ => takes_purged rfl

theorem takes_purged_clamp (h : asked) : Takes (Purged asked) (.override 1 150) where
  new _ _ := fun _ => ⟨fun _ => ⟨rfl, h⟩, fun hx => by cases hx⟩
  replaced e _ _ hm := by simp [meets, replaces] at hm

theorem dooms_purged : Dooms (Purged asked) := fun e h hi hc =>
  ⟨fun hx => absurd (hi.symm.trans hx) (by decide), fun _ => rfl⟩

/-- Reactions that ask for no clamp OVERRIDE keep a purged queue. -/
theorem Acts.purged {as : List Act} {n m : Node} (h : Acts as n m) (hc : Act.clampAsk ∉ as)
    (hn : AllTx (Purged asked) n) : AllTx (Purged asked) m :=
  h.allTx takesFaults_purged (takes_purged rfl) (fun hx => absurd hx hc)
    (takes_purged rfl) dooms_purged hn

theorem purgeTx_purged (n : Node) : AllTx (Purged asked) (purgeTx n) := by
  intro e he
  obtain ⟨x, hx, rfl⟩ := List.mem_map.1 he
  have hk := (List.mem_filter.1 hx).2
  dsimp only
  split
  · rename_i ht
    have hi : x.inTx = true := by simpa [ht] using hk
    exact fun _ => ⟨fun h => absurd (hi.symm.trans h) (by decide), fun _ => rfl⟩
  · rename_i ht
    exact fun h => absurd h (by simpa using ht)

theorem leaveDegraded_purged {n : Node} (h : asked) (hn : AllTx (Purged asked) n) :
    AllTx (Purged asked) (leaveDegraded n) := by
  have hc : AllTx (Purged asked) (clearCond .coolantDegraded n) := by simpa [AllTx] using hn
  exact askWith_all takesFaults_purged (takes_purged_clamp h) false (withdrawPending_all _ hc)

theorem setTsc_purged {s : CircuitState} (t b : Nat) {n : Node} (h : n.cl.tsc = .degraded → asked)
    (hn : AllTx (Purged asked) n) : AllTx (Purged asked) (setTsc s t b n) := by
  unfold setTsc
  refine (clLoss_acts _).purged (by decide) ?_
  split
  · rename_i hd
    exact leaveDegraded_purged (h hd.1) hn
  · exact hn

end

/-! ### The coolant unit's loss marks leave the rest of its state (R159) -/

theorem raiseHold_cl (c : Cond) (d : Byte) (n : Node) : (raiseHold c d n).cl = n.cl :=
  raiseHold_only c d n .coolant (by simp) (by decide)

theorem clearCond_cl (c : Cond) (n : Node) : (clearCond c n).cl = n.cl :=
  clearCond_only c n .coolant (by simp) (by decide)

theorem lossTest_cl (c : Circ) (n : Node) : ∃ x, (lossTest c n).cl = { n.cl with loss := x } := by
  unfold lossTest
  split_ifs
  · exact ⟨_, rfl⟩
  · exact ⟨_, raiseHold_cl _ _ _⟩
  · exact ⟨n.cl.loss, rfl⟩

theorem clLoss_cl (n : Node) : ∃ x, (clLoss n).cl = { n.cl with loss := x } := by
  obtain ⟨x, hx⟩ := lossTest_cl .flood n
  obtain ⟨y, hy⟩ := lossTest_cl .tsc (lossTest .flood n)
  obtain ⟨z, hz⟩ := lossTest_cl .air (lossTest .tsc (lossTest .flood n))
  have h : (lossTest .air (lossTest .tsc (lossTest .flood n))).cl = { n.cl with loss := z } := by rw [hz, hy, hx]
  unfold clLoss
  dsimp only
  split_ifs
  · exact ⟨z, (clearCond_cl _ _).trans h⟩
  · exact ⟨z, h⟩
  · exact ⟨n.cl.loss, rfl⟩

theorem floodStop_tsc (n : Node) : (floodStop n).cl.tsc = n.cl.tsc := by
  unfold floodStop
  split
  · obtain ⟨x, hx⟩ := clLoss_cl { n with cl := { enterState .flood .stopping n.cl with floodTimer := 3000 } }
    rw [hx]
    rfl
  · rfl

/-! ### The latch set (R178) -/

section
variable {asked : Prop}

theorem clStopReaction_purged {n : Node} (h : n.cl.tsc = .degraded → asked) (hn : AllTx (Purged asked) n) :
    AllTx (Purged asked) (clStopReaction n) := by
  have loss {m : Node} (cl : CL) (hm : AllTx (Purged asked) m) : AllTx (Purged asked) (clLoss { m with cl := cl }) :=
    (clLoss_acts _).purged (by decide) hm
  have flood {m : Node} (hm : AllTx (Purged asked) m) : AllTx (Purged asked) (floodStop m) := by
    unfold floodStop
    split
    · exact loss _ hm
    · exact hm
  have air {m : Node} (hm : AllTx (Purged asked) m) : AllTx (Purged asked) (airOff m) := by
    unfold airOff
    split
    · exact loss _ hm
    · exact hm
  have tsc {m : Node} (ht : m.cl.tsc = .degraded → asked) (hm : AllTx (Purged asked) m) :
      AllTx (Purged asked) (tscStop m) := by
    unfold tscStop
    split
    · exact setTsc_purged _ _ ht hm
    · exact hm
  unfold clStopReaction
  split
  · refine air (tsc (fun hd => h ?_) (flood hn))
    rwa [floodStop_tsc] at hd
  · exact hn

/-- The latch as it becomes set, with the drives' and the spindle's reactions. -/
def latchedUnits (n : Node) : Node := sgStopReaction (forAxes latchDrive { n with cu := { n.cu with stopped := true } })

theorem setLatch_of_clear {n : Node} (h : n.cu.stopped = false) : setLatch n = clStopReaction (latchedUnits n) := by
  simp [setLatch, h, latchedUnits]

theorem setLatch_of_set {n : Node} (h : n.cu.stopped = true) : setLatch n = n := by simp [setLatch, h]

theorem latchedUnits_acts (n : Node) :
    Acts [.raise .gearFault, .held] { n with cu := { n.cu with stopped := true } } (latchedUnits n) :=
  (forAxes_acts latchDrive_acts _).trans (sgStopReaction_acts _)

theorem latchedUnits_tsc (n : Node) : (latchedUnits n).cl.tsc = n.cl.tsc := by
  have h1 : (latchedUnits n).cl = (forAxes latchDrive { n with cu := { n.cu with stopped := true } }).cl :=
    sgStopReaction_only _ .coolant (by simp) (by decide)
  have h2 : (forAxes latchDrive { n with cu := { n.cu with stopped := true } }).cl = n.cl :=
    forAxes_only latchDrive_only { n with cu := { n.cu with stopped := true } } .coolant (by simp) (by decide)
  rw [h1, h2]

theorem setLatch_purged {n : Node} (h : n.cl.tsc = .degraded → n.cu.stopped = false → asked)
    (hn : AllTx (Purged asked) n) : AllTx (Purged asked) (setLatch n) := by
  cases hs : n.cu.stopped with
  | true => rwa [setLatch_of_set hs]
  | false =>
    rw [setLatch_of_clear hs]
    refine clStopReaction_purged (fun hd => h ?_ hs) ((latchedUnits_acts n).purged (by decide) hn)
    rwa [latchedUnits_tsc] at hd

end

theorem setLatch_stopped (n : Node) : (setLatch n).cu.stopped = true := by
  cases hs : n.cu.stopped with
  | true => rwa [setLatch_of_set hs]
  | false =>
    rw [setLatch_of_clear hs]
    exact ((clStopReaction_acts _).stopped_eq (by decide)).trans ((latchedUnits_acts n).stopped_eq (by decide))

end Sys2Proof.Machine
end

section
/-! PROOF. The path and the drives at a STOPALL, at the end of the stop deceleration and at the disable point (R75, R92,
R124). -/

namespace Sys2Proof.Machine

-- The text is checked as one file under a data limit that many waiting threads would exceed.
set_option Elab.async false

/-! ### The emptied path (R75, R92) -/

/-- Queue, records in force, path and planned ends of a path that is empty; `cut` says when its running block has left
it. -/
structure PathEmptied (cut : Prop) (t : Node) : Prop where
  entries : t.bq.entries = []
  expected : t.bq.expected = none
  spindle : t.bq.spindleForce = none
  range : t.bq.rangeForce = none
  coolant : t.bq.coolantForce = none
  stopMark : t.pg.stopMark = false
  run : cut → t.pg.run = none
  blockSet : t.cl.blockSet = .empty
  planned : ∀ c, (getAx c t).planned = (getAx c t).commanded

section
variable {cut : Prop}

theorem PathEmptied.stands {n t : Node} (h : PathEmptied cut n) (hb : t.bq = n.bq) (hp : t.pg = n.pg)
    (hc : t.cl.blockSet = n.cl.blockSet) (hs : SamePlaces n t) : PathEmptied cut t where
  entries := hb ▸ h.entries
  expected := hb ▸ h.expected
  spindle := hb ▸ h.spindle
  range := hb ▸ h.range
  coolant := hb ▸ h.coolant
  stopMark := hp ▸ h.stopMark
  run := hp ▸ h.run
  blockSet := hc.trans h.blockSet
  planned c := (hs c).planned.trans ((h.planned c).trans (hs c).commanded.symm)

theorem PathEmptied.of_only {n t : Node} {ps : List Part} (h : PathEmptied cut n) (ho : onlyChanges ps n t)
    (hs : SamePlaces n t) (hp : ∀ p ∈ [Part.blocks, .path, .coolant], p ∉ ps := by simp) : PathEmptied cut t :=
  h.stands (ho .blocks (hp _ (by simp)) (by decide)) (ho .path (hp _ (by simp)) (by decide))
    (congrArg CL.blockSet (show t.cl = n.cl from ho .coolant (hp _ (by simp)) (by decide))) hs

theorem removeAll_blockSet (n : Node) : (removeAll n).cl.blockSet = .empty := by
  have hm : (removedAll n).cl.blockSet = .empty :=
    congrArg CL.blockSet (show (removedAll n).cl = _ from motionsAtRest_only _ .coolant (by simp) (by decide))
  obtain ⟨x, hx⟩ := clLoss_cl (removedAll n)
  rw [removeAll_eq, hx]
  exact hm

theorem removeAll_emptied {n : Node} (hs : n.pg.stopMark = false)
    (hc : cut → n.pg.run = none ∨ ∃ e ∈ n.bq.entries, inChain e = true) : PathEmptied cut (removeAll n) where
  entries := by rw [removeAll_bq]; rfl
  expected := by rw [removeAll_bq]; rfl
  spindle := by rw [removeAll_bq]; rfl
  range := by rw [removeAll_bq]; rfl
  coolant := by rw [removeAll_bq]; rfl
  stopMark := by rw [removeAll_pg]; exact entriesLeft_stopMark hs
  run h := by
    rw [removeAll_pg]
    exact (hc h).elim entriesLeft_run_none fun ⟨e, he, hi⟩ => entriesLeft_run ⟨e, he, rfl, hi⟩
  blockSet := removeAll_blockSet n
  planned c := (removeAll_ax c n).1.trans (removeAll_ax c n).2.1.symm

theorem atRest_blockSet (n : Node) : (atRest n).cl.blockSet = n.cl.blockSet := by
  have hm : (motionsAtRest n).cl = n.cl := motionsAtRest_only n .coolant (by simp) (by decide)
  obtain ⟨x, hx⟩ := clLoss_cl (motionsAtRest n)
  rw [atRest, hx, hm]

theorem PathEmptied.afterRest {n : Node} (h : PathEmptied cut n) : PathEmptied cut (afterRest n) := by
  have hr : PathEmptied cut (atRest n) := h.stands (atRest_only n .blocks (by simp) (by decide))
    (atRest_only n .path (by simp) (by decide)) (atRest_blockSet n) (atRest_places n)
  rw [afterRest_eq]
  split
  · exact (removeAll_emptied hr.stopMark fun hc => .inl (hr.run hc)).of_only (adoptMode_only _) (adoptMode_places _)
  · exact hr

theorem stopReached_emptied {n : Node} (hc : cut → ∃ e ∈ n.bq.entries, inChain e = true) :
    PathEmptied cut (stopReached n) :=
  (removeAll_emptied (n := { n with pg := { n.pg with stopMark := false } }) rfl fun h => .inr (hc h)).afterRest

end

/-! ### The drives -/

/-- A channel's drive state and stop timer as before. -/
def SameDrive (c : Chan) (n m : Node) : Prop :=
  (getAx c m).drive = (getAx c n).drive ∧ (getAx c m).stopTimer = (getAx c n).stopTimer

theorem SameDrive.trans {c : Chan} {n m k : Node} (h : SameDrive c n m) (g : SameDrive c m k) : SameDrive c n k :=
  ⟨g.1.trans h.1, g.2.trans h.2⟩

theorem SamePlaces.sameDrive {n m : Node} (h : SamePlaces n m) (c : Chan) : SameDrive c n m :=
  ⟨(h c).drive, (h c).stopTimer⟩

theorem sameDrive_of_only {c : Chan} {ps : List Part} {n m : Node} (h : onlyChanges ps n m) (h0 : Part.channel0 ∉ ps)
    (h1 : Part.channel1 ∉ ps) : SameDrive c n m := (samePlaces_of_only h h0 h1).sameDrive c

theorem removeAll_sameDrive (c : Chan) (n : Node) : SameDrive c n (removeAll n) := (removeAll_ax c n).2.2

theorem afterRest_sameDrive (c : Chan) (n : Node) : SameDrive c n (afterRest n) := by
  have h := (atRest_places n).sameDrive c
  rw [afterRest_eq]
  split
  · exact h.trans ((removeAll_sameDrive c _).trans ((adoptMode_places _).sameDrive c))
  · exact h

theorem stopReached_sameDrive (c : Chan) (n : Node) : SameDrive c n (stopReached n) := by
  have h : SameDrive c n { n with pg := { n.pg with stopMark := false } } := by cases c <;> exact ⟨rfl, rfl⟩
  exact h.trans ((removeAll_sameDrive c _).trans (afterRest_sameDrive c _))

theorem pathStop_sameDrive (c : Chan) (n : Node) : SameDrive c n (pathStop n) := by
  unfold pathStop
  split
  · exact stopReached_sameDrive c n
  · cases c <;> exact ⟨rfl, rfl⟩

@[simp] theorem getAx_onAx_same (c : Chan) (f : Axis → Axis) (n : Node) : getAx c (onAx c f n) = f (getAx c n) := by
  cases c <;> rfl

theorem getAx_onAx_other {c d : Chan} (h : d ≠ c) (f : Axis → Axis) (n : Node) : getAx d (onAx c f n) = getAx d n := by
  cases c <;> cases d
  · exact absurd rfl h
  · rfl
  · rfl
  · exact absurd rfl h

/-- A function of the channels at one channel, where it is used. -/
def onUsed (f : Chan → AxisParams → Node → Node) (c : Chan) (n : Node) : Node :=
  match axParams c n with | some p => f c p n | none => n

theorem forAxes_eq (f : Chan → AxisParams → Node → Node) (n : Node) :
    forAxes f n = onUsed f .ax1 (onUsed f .ax0 n) := rfl

theorem onUsed_some {f : Chan → AxisParams → Node → Node} {c : Chan} {p : AxisParams} {n : Node}
    (h : axParams c n = some p) : onUsed f c n = f c p n := by simp [onUsed, h]

theorem onUsed_induct {f : Chan → AxisParams → Node → Node} {P : Node → Prop} {c : Chan} {n : Node} (hn : P n)
    (h : ∀ p, P (f c p n)) : P (onUsed f c n) := by
  unfold onUsed
  split
  · exact h _
  · exact hn

/-- A function of the channels at a used channel, where it leaves the other channel and the parameters. -/
theorem forAxes_at {f : Chan → AxisParams → Node → Node} (ho : ∀ c d p m, d ≠ c → getAx d (f c p m) = getAx d m)
    (hp : ∀ c p m, (f c p m).par = m.par) {c : Chan} {p : AxisParams} {n : Node} (hc : axParams c n = some p) :
    ∃ k, getAx c k = getAx c n ∧ getAx c (forAxes f n) = getAx c (f c p k) := by
  have other {c d : Chan} {m : Node} (h : d ≠ c) : getAx d (onUsed f c m) = getAx d m :=
    onUsed_induct (P := fun t => getAx d t = getAx d m) rfl fun q => ho c d q m h
  cases c with
  | ax0 =>
    refine ⟨n, rfl, ?_⟩
    rw [forAxes_eq, other (by decide), onUsed_some hc]
  | ax1 =>
    have hpar : (onUsed f .ax0 n).par = n.par :=
      onUsed_induct (P := fun t => t.par = n.par) rfl fun q => hp .ax0 q n
    have hc1 : axParams .ax1 (onUsed f .ax0 n) = some p := (congrArg Params.axis1 hpar).trans hc
    refine ⟨onUsed f .ax0 n, other (by decide), ?_⟩
    rw [forAxes_eq, onUsed_some hc1]

/-- A channel whose jog and sequence a STOPALL has ended. -/
def motionEnded (c : Chan) (p : AxisParams) (n : Node) : Node := axFailQuiet c p (axEndJog c p n)

theorem axisStop_eq (c : Chan) (p : AxisParams) (n : Node) :
    axisStop c p n =
      if (getAx c (motionEnded c p n)).drive = .enabled ∧ (getAx c (motionEnded c p n)).stopTimer = none then
        onAx c (fun a => { a with stopTimer := some 500 }) (motionEnded c p n)
      else motionEnded c p n := rfl

theorem axisStop_other (c d : Chan) (p : AxisParams) (n : Node) (h : d ≠ c) :
    getAx d (axisStop c p n) = getAx d n := by
  have hm : getAx d (motionEnded c p n) = getAx d n :=
    (getAx_onAx_other h _ _).trans (getAx_onAx_other h _ _)
  rw [axisStop_eq]
  split
  · exact (getAx_onAx_other h _ _).trans hm
  · exact hm

theorem axisStop_only (c : Chan) (p : AxisParams) (n : Node) : onlyChanges [chanPart c] n (axisStop c p n) := by
  have hm : onlyChanges [chanPart c] n (motionEnded c p n) := onlyChanges_trans (onAx_only c _ n) (onAx_only c _ _)
  rw [axisStop_eq]
  split
  · exact onlyChanges_trans hm (onAx_only c _ _)
  · exact hm

theorem axisStop_enabled {c : Chan} {p : AxisParams} {n : Node} (h : (getAx c n).drive = .enabled) :
    (getAx c (axisStop c p n)).drive = .enabled ∧
      (getAx c (axisStop c p n)).stopTimer = some ((getAx c n).stopTimer.getD 500) := by
  obtain ⟨hd, ht⟩ : SameDrive c n (motionEnded c p n) :=
    ((axEndJog_places c p n).trans (axFailQuiet_places c p _)).sameDrive c
  rw [axisStop_eq, hd, ht]
  cases hn : (getAx c n).stopTimer with
  | none => simp [h, hd]
  | some k => simp [h, hd, ht, hn]

theorem forAxes_axisStop_enabled {c : Chan} {p : AxisParams} {n : Node} (hc : axParams c n = some p)
    (h : (getAx c n).drive = .enabled) :
    (getAx c (forAxes axisStop n)).drive = .enabled ∧
      (getAx c (forAxes axisStop n)).stopTimer = some ((getAx c n).stopTimer.getD 500) := by
  obtain ⟨k, hk, he⟩ := forAxes_at axisStop_other
    (fun c p m => axisStop_only c p m .params (by cases c <;> simp [chanPart]) (by decide)) hc
  rw [he, ← hk]
  exact axisStop_enabled (hk ▸ h)

theorem forAxes_axisStop_only (n : Node) : onlyChanges [.channel0, .channel1] n (forAxes axisStop n) :=
  forAxes_only (fun c p m => onlyChanges_mono (by simpa using chanPart_mem c) (axisStop_only c p m)) n

/-- The latch as it becomes set leaves an enabled drive. -/
theorem latchDrive_enabled (c d : Chan) (p : AxisParams) {n : Node} (h : (getAx c n).drive = .enabled) :
    getAx c (latchDrive d p n) = getAx c n := by
  unfold latchDrive
  split
  · rename_i hd
    exact getAx_onAx_other (fun hx => by subst hx; simp [h] at hd) _ _
  · rfl

theorem forAxes_latchDrive_enabled (c : Chan) {n : Node} (h : (getAx c n).drive = .enabled) :
    getAx c (forAxes latchDrive n) = getAx c n := by
  have one (d : Chan) {m : Node} (hm : (getAx c m).drive = .enabled) :
      getAx c (onUsed latchDrive d m) = getAx c m :=
    onUsed_induct (P := fun t => getAx c t = getAx c m) rfl fun p => latchDrive_enabled c d p hm
  have h0 := one .ax0 h
  exact (one .ax1 (h0 ▸ h)).trans h0

theorem setLatch_sameDrive {c : Chan} {n : Node} (h : (getAx c n).drive = .enabled) : SameDrive c n (setLatch n) := by
  cases hs : n.cu.stopped with
  | true =>
    rw [setLatch_of_set hs]
    exact ⟨rfl, rfl⟩
  | false =>
    rw [setLatch_of_clear hs]
    have h0 : getAx c { n with cu := { n.cu with stopped := true } } = getAx c n := by cases c <;> rfl
    have h1 := (forAxes_latchDrive_enabled c (h0 ▸ h)).trans h0
    have h2 : SameDrive c n (forAxes latchDrive { n with cu := { n.cu with stopped := true } }) :=
      ⟨by rw [h1], by rw [h1]⟩
    exact (h2.trans (sameDrive_of_only (sgStopReaction_only _) (by simp) (by simp))).trans
      (sameDrive_of_only (clStopReaction_only _) (by simp) (by simp))

end Sys2Proof.Machine
end

section
/-! PROOF. An accepted STOPALL, the end of the stop deceleration and the disable point as commands (R92, R124, R178). -/

namespace Sys2Proof.Machine

-- The text is checked as one file under a data limit that many waiting threads would exceed.
set_option Elab.async false

/-! ### The stages of an accepted STOPALL (R178) -/

/-- The node of a STOPALL with its flags set, before its latch. -/
def stopallFlags (n : Node) : Node := { n with cu := { n.cu with held := true, owed := false, stopallSince := true } }

/-- The node of a STOPALL with its queue purged and its latch set. -/
def stopallLatched (n : Node) : Node := setLatch (stopallFlags (purgeTx n))

theorem acceptStopall_eq (n : Node) :
    acceptStopall n = setDetents 0 (forAxes axisStop (pathStop (stopallLatched n))) := rfl

theorem stopallFlags_only (n : Node) : onlyChanges [.held, .stopInfo] n (stopallFlags n) := by
  intro p hp hr
  cases p <;> simp_all [keeps, reporting, stopallFlags]

theorem stopallLatched_only (n : Node) :
    onlyChanges ([.held] ++ stopParts) n (stopallLatched n) :=
  onlyChanges_both (onlyChanges_both (purgeTx_only n) (stopallFlags_only _) (by simp) fun _ h => h) (setLatch_only _)
    (by simp [stopParts]) fun _ h => List.mem_append_right _ h

/-- The reactions of the path and the channels to a STOPALL. -/
theorem afterLatch_acts (n : Node) : Acts restActs (stopallLatched n) (acceptStopall n) := by
  have h : Acts restActs (stopallLatched n) (forAxes axisStop (pathStop (stopallLatched n))) := by
    refine (pathStop_acts _).trans (forAxes_acts (fun c p m => ?_) _)
    have hm : Acts restActs m (motionEnded c p m) := (axEndJog_acts c p m).trans (axFailQuiet_acts c p _)
    rw [axisStop_eq]
    exact .ite (hm.unit (onAx_unit c _ _ fun _ => rfl)) hm
  exact h.unit {}

theorem acceptStopall_purged (n : Node) :
    AllTx (Purged (n.cl.tsc = .degraded ∧ n.cu.stopped = false)) (acceptStopall n) := by
  have h : AllTx (Purged (n.cl.tsc = .degraded ∧ n.cu.stopped = false)) (stopallLatched n) :=
    setLatch_purged (fun hd hs => ⟨hd, hs⟩) (purgeTx_purged (asked := n.cl.tsc = .degraded ∧ n.cu.stopped = false) n)
  exact (afterLatch_acts n).purged (by decide) h

theorem setLatch_acts_of (n : Node) : Acts latchActs (stopallFlags (purgeTx n)) (stopallLatched n) := setLatch_acts _

/-- The condition unit and the parameters after a STOPALL. -/
theorem acceptStopall_cu (n : Node) : (acceptStopall n).cu.stopped = true ∧ (acceptStopall n).cu.held = true ∧
    (acceptStopall n).cu.owed = false ∧ (acceptStopall n).par = n.par := by
  have hr := afterLatch_acts n
  have hl := setLatch_acts_of n
  exact ⟨(hr.stopped_eq (by decide)).trans (setLatch_stopped _), hr.held_eq.trans hl.held_eq,
    (hr.owed_eq (by decide)).trans (hl.owed_eq (by decide)), hr.par.trans hl.par⟩

theorem stopallLatched_pathVelocity (n : Node) : pathVelocity (stopallLatched n) = pathVelocity n := by
  have h : (stopallLatched n).pg = n.pg := stopallLatched_only n .path (by simp [stopParts]) (by decide)
  simp only [pathVelocity, h]

theorem setDetents_only (d : Int) (n : Node) : onlyChanges [.pendant] n (setDetents d n) := withPd_only _ n

theorem acceptStopall_only (n : Node) :
    onlyChanges [.channel0, .channel1, .pendant] (pathStop (stopallLatched n)) (acceptStopall n) :=
  onlyChanges_both (forAxes_axisStop_only _) (setDetents_only 0 _) (by simp) (by simp)

theorem acceptStopall_moving {n : Node} (h : 0 < pathVelocity n) :
    (acceptStopall n).pg.stopMark = true ∧ (acceptStopall n).bq = n.bq := by
  have hv : pathVelocity (stopallLatched n) ≠ 0 := by
    rw [stopallLatched_pathVelocity]
    exact h.ne'
  have hp : pathStop (stopallLatched n) =
      { stopallLatched n with pg := { (stopallLatched n).pg with stopMark := true } } := if_neg hv
  have ho := acceptStopall_only n
  rw [hp] at ho
  have hpg : (acceptStopall n).pg = { (stopallLatched n).pg with stopMark := true } :=
    ho .path (by simp) (by decide)
  have hbq : (acceptStopall n).bq = (stopallLatched n).bq := ho .blocks (by simp) (by decide)
  exact ⟨by rw [hpg], hbq.trans (stopallLatched_only n .blocks (by simp [stopParts]) (by decide))⟩

theorem acceptStopall_still {n : Node} (h : pathVelocity n = 0) :
    (acceptStopall n).bq.entries = [] ∧ (acceptStopall n).bq.expected = none := by
  have hp : pathStop (stopallLatched n) = stopReached (stopallLatched n) :=
    if_pos ((stopallLatched_pathVelocity n).trans h)
  have hbq : (acceptStopall n).bq = (stopReached (stopallLatched n)).bq := by
    rw [← hp]
    exact acceptStopall_only n .blocks (by simp) (by decide)
  have he : PathEmptied False (stopReached (stopallLatched n)) := stopReached_emptied False.elim
  rw [hbq]
  exact ⟨he.entries, he.expected⟩

theorem acceptStopall_drives {c : Chan} {p : AxisParams} {n : Node} (hc : axParams c n = some p)
    (h : (getAx c n).drive = .enabled) :
    (getAx c (acceptStopall n)).drive = .enabled ∧
      (getAx c (acceptStopall n)).stopTimer = some ((getAx c n).stopTimer.getD 500) := by
  have h0 : getAx c (stopallFlags (purgeTx n)) = getAx c n := by cases c <;> rfl
  have hl : SameDrive c n (stopallLatched n) := by
    have := setLatch_sameDrive (c := c) (n := stopallFlags (purgeTx n)) (h0 ▸ h)
    exact ⟨this.1.trans (by rw [h0]), this.2.trans (by rw [h0])⟩
  obtain ⟨hd, ht⟩ := hl.trans (pathStop_sameDrive c _)
  have hpar : (pathStop (stopallLatched n)).par = n.par :=
    (pathStop_acts _).par.trans (setLatch_acts_of n).par
  have hu : axParams c (pathStop (stopallLatched n)) = some p := by
    rw [← hc]
    cases c
    · exact congrArg Params.axis0 hpar
    · exact congrArg Params.axis1 hpar
  have ha : getAx c (acceptStopall n) = getAx c (forAxes axisStop (pathStop (stopallLatched n))) := by cases c <;> rfl
  rw [ha, ← ht]
  exact forAxes_axisStop_enabled hu (hd.trans h)

/-! ### The disable point (R124) -/

theorem dropMotion_commanded (rest : Bool) (a : Axis) : (dropMotion rest a).commanded = a.commanded := by
  unfold dropMotion
  split <;> rfl

/-- An enabled drive disabled (R109, R124). -/
theorem setDrive_disabled {rest : Bool} {a : Axis} (h : a.drive = .enabled) :
    (setDrive rest .disabled a).drive = .disabled ∧ (setDrive rest .disabled a).driveCommand = 0 ∧
      (setDrive rest .disabled a).stopTimer = none ∧ (setDrive rest .disabled a).commanded = a.commanded ∧
      (setDrive rest .disabled a).followRun = 0 ∧ (setDrive rest .disabled a).satRun = 0 := by
  simp [setDrive, h, dropMotion_commanded]

theorem finish_ax (c : Chan) (n : Node) : getAx c (finish n) = getAx c n := by
  cases c
  · exact finish_only n .channel0 (by simp) (by decide)
  · exact finish_only n .channel1 (by simp) (by decide)

/-- Settles O31: the purge and the latch leave what the queue may hold, the path stops or is emptied, and each channel's
stop timer is set. -/
theorem stopallStopsTheMachine : Obligations.StopallStopsTheMachine := by
  unfold Obligations.StopallStopsTheMachine
  refine ⟨fun rx s => frameCompletes_of (unit := fun _ n => acceptStopall n) rfl ?_,
    fun s hl => ⟨fun hm => ?_, fun hm => completes_live_else (c := fun n => n.pg.stopMark = true) (f := stopReached) rfl hl
      (by simp [hm]) (finish_only _)⟩,
    fun c s hl => ⟨fun hu hd ht => ?_, fun hn => ?_⟩⟩
  · generalize accepted rx s.node = m
    obtain ⟨hstopped, hheld, howed, hpar⟩ := acceptStopall_cu m
    have hf := finish_only (acceptStopall m)
    have hbq : (finish (acceptStopall m)).bq = (acceptStopall m).bq := hf .blocks (by simp) (by decide)
    have hpg : (finish (acceptStopall m)).pg = (acceptStopall m).pg := hf .path (by simp) (by decide)
    have hpd : (finish (acceptStopall m)).pd = (acceptStopall m).pd := hf .pendant (by simp) (by decide)
    have hinfo : keeps .stopInfo (acceptStopall m) (finish (acceptStopall m)) := hf .stopInfo (by simp) (by decide)
    refine ⟨(hf .latch (by simp) (by decide)).trans hstopped, (hf .held (by simp) (by decide)).trans hheld,
      hinfo.1.trans howed, by rw [hpd]; rfl, (hf .params (by simp) (by decide)).trans hpar, fun e he hc => ?_,
      fun hv => ?_, fun hv => ?_, fun c p hc hd => ?_⟩
    · exact finish_all takesFaults_purged (fun _ => takes_purged rfl) (acceptStopall_purged m) e he hc
    · rw [hbq, hpg]
      exact acceptStopall_moving hv
    · rw [hbq]
      exact acceptStopall_still hv
    · rw [finish_ax]
      exact acceptStopall_drives hc hd
  · refine completes_live_if (c := fun n => n.pg.stopMark = true) (f := stopReached) rfl hl hm ?_
    have h : PathEmptied (∃ e ∈ s.node.bq.entries, inChain e = true) (finish (stopReached s.node)) :=
      (stopReached_emptied id).of_only (finish_only _) (samePlaces_of_only (finish_only _) (by simp) (by simp))
    exact ⟨h.entries, h.expected, h.spindle, h.range, h.coolant, h.stopMark, h.run, h.blockSet, h.planned .ax0,
      h.planned .ax1⟩
  · refine completes_live_if (f := driveTo c .disabled) rfl hl ⟨hu, hd, ht⟩ ?_
    obtain ⟨h1, h2, h3, h4, h5, h6⟩ := setDrive_disabled (rest := chainAtRest s.node) hd
    rw [finish_ax, driveTo, getAx_onAx_same]
    exact ⟨h1, h2, h3, h4, h5, h6, finish_line_only (onAx_only c _ _)⟩
  · refine completes_live_else (f := driveTo c .disabled) rfl hl (fun ⟨hu, hd, ht⟩ => ?_) (finish_only _)
    rcases hn with hn | hn | hn
    · simp [hn] at hu
    · exact hn hd
    · simp [hn] at ht

end Sys2Proof.Machine
end

section
/-! PROOF. What the acceptance of a frame does before its unit takes it (R9, R11, R17, R35, R36, R40, R41). -/

namespace Sys2Proof.Machine

-- The text is checked as one file under a data limit that many waiting threads would exceed.
set_option Elab.async false

/-! ### The entries of the node table through a reaction -/

/-- The node entries as before. -/
def SameEntries (n m : Node) : Prop := m.nt.entries = n.nt.entries

theorem SameEntries.trans {n m k : Node} (h : SameEntries n m) (g : SameEntries m k) : SameEntries n k := Eq.trans g h

theorem SameEntries.ite {c : Prop} [Decidable c] {n a b : Node} (h : SameEntries n a) (g : SameEntries n b) :
    SameEntries n (if c then a else b) := by
  split
  · exact h
  · exact g

theorem sameEntries_of_only {ps : List Part} {n m : Node} (h : onlyChanges ps n m) (hp : Part.table ∉ ps := by decide) :
    SameEntries n m := (show keeps .table n m from h .table hp (by decide)).1

theorem removeEntries_sameEntries (gone : Entry → Bool) (n : Node) : SameEntries n (removeEntries gone n) := by
  obtain ⟨lc, hlc⟩ := withdrawVerdicts_eq (n.bq.entries.filter gone) (entriesLeft gone n)
  rw [removeEntries_eq, hlc]
  exact SameEntries.trans (m := { entriesLeft gone n with lc := lc }) rfl (sameEntries_of_only (noteHead_only _ _))

theorem removeAll_sameEntries (n : Node) : SameEntries n (removeAll n) := by
  have h : SameEntries n (emptyBlockSet (forgetForce (setPlanned { removeEntries (fun _ => true) n with
      bq := { (removeEntries (fun _ => true) n).bq with expected := none } }))) := removeEntries_sameEntries _ n
  exact (h.trans (sameEntries_of_only (motionsAtRest_only _))).trans (sameEntries_of_only (clLoss_only _))

theorem adoptMode_sameEntries (n : Node) : SameEntries n (adoptMode n) :=
  (removeAll_sameEntries n).trans (sameEntries_of_only (adoptMode_only n))

theorem enablingOff_sameEntries (n : Node) : SameEntries n (enablingOff n) :=
  (sameEntries_of_only (forAxes_only axEndJog_only n)).trans (sameEntries_of_only (forAxes_only axFailRaised_only _))

theorem compareMode_sameEntries (n : Node) : SameEntries n (compareMode n) :=
  .ite (sameEntries_of_only (clearCond_only _ n)) (.ite (adoptMode_sameEntries n)
    (.ite rfl (sameEntries_of_only (raiseHold_only _ _ n))))

theorem reformMode_sameEntries (n : Node) : SameEntries n (reformMode n) := by
  have h {m : Node} (b : Bool) (hm : SameEntries n m) : SameEntries n (compareMode (if b then enablingOff m else m)) :=
    (SameEntries.ite (hm.trans (enablingOff_sameEntries m)) hm).trans (compareMode_sameEntries _)
  exact h _ rfl

theorem raiseClashes_sameEntries (ps : List (Nat × Nat)) (n : Node) :
    SameEntries n (ps.foldl (fun k p => raiseStop .ownerClash (BitVec.ofNat 8 p.2) k) n) := by
  induction ps generalizing n with
  | nil => rfl
  | cons p ps ih => exact (sameEntries_of_only (raiseStop_only _ _ n)).trans (ih _)

theorem clashTest_sameEntries (n : Node) : SameEntries n (clashTest n) := by
  have h (ps : List (Nat × Nat)) : SameEntries n (ps.foldl (fun k p => raiseStop .ownerClash (BitVec.ofNat 8 p.2) k)
      { n with nt := { n.nt with clashes := clashPairs n } }) :=
    SameEntries.trans (m := { n with nt := { n.nt with clashes := clashPairs n } }) rfl (raiseClashes_sameEntries ps _)
  exact .ite ((h _).trans (sameEntries_of_only (clearCond_only _ _))) (h _)

theorem refillRoles_sameEntries (n : Node) : SameEntries n (refillRoles n) := by
  unfold refillRoles
  split <;> rfl

theorem tscInterlockTest_sameEntries (n : Node) : SameEntries n (tscInterlockTest n) := by
  unfold tscInterlockTest
  split
  · exact .ite (sameEntries_of_only (tscStop_only n)) rfl
  · rfl

theorem tableChanged_sameEntries (n : Node) : SameEntries n (tableChanged n) :=
  (((clashTest_sameEntries n).trans (reformMode_sameEntries _)).trans (refillRoles_sameEntries _)).trans
    (tscInterlockTest_sameEntries _)

theorem entryLive_sameEntries (i : Nat) (n : Node) : SameEntries n (entryLive i n) := by
  have h1 : SameEntries n (peerLostClear n) := .ite rfl (sameEntries_of_only (clearCond_only _ n))
  have h2 (m : Node) : SameEntries m (mismatchRaise i m) := .ite (sameEntries_of_only (raiseStop_only _ _ m)) rfl
  have h3 (m : Node) : SameEntries m (unexpectedRaise i m) := .ite rfl (sameEntries_of_only (raiseWarn_only _ _ m))
  exact ((h1.trans (h2 _)).trans (h3 _)).trans (tableChanged_sameEntries _)

/-! ### A stop learnt from a reported set (R38, R47) -/

/-- The node with the owed mark a learnt stop sets. -/
def stopOwed (n : Node) : Node := if n.cu.stopallSince then n else { n with cu := { n.cu with owed := true } }

theorem learnStop_eq (n : Node) : learnStop n = setLatch (stopOwed n) := rfl

theorem stopOwed_only (n : Node) : onlyChanges [.stopInfo] n (stopOwed n) := by
  unfold stopOwed
  split
  · exact onlyChanges_refl _ n
  · intro p hp hr
    cases p <;> simp_all [keeps, reporting]

theorem learnStop_only (n : Node) : onlyChanges stopParts n (learnStop n) :=
  onlyChanges_both (stopOwed_only n) (setLatch_only _) (by simp [stopParts]) fun _ h => h

theorem stopLearnt_only (i : Nat) (n : Node) : onlyChanges stopParts n (stopLearnt i n) := by
  unfold stopLearnt
  split
  · exact learnStop_only n
  · exact onlyChanges_refl _ n

/-- A learnt stop changes of the conditions what the coolant unit and the gearbox report. -/
theorem stopLearnt_condIn (i : Nat) (n : Node) {x : Cond} (hx : x ≠ .txqOverflow) (hr : Act.raise x ∉ latchActs)
    (hc : Act.clear x ∉ latchActs) : condIn x (stopLearnt i n).cu.own = condIn x n.cu.own := by
  unfold stopLearnt
  split
  · exact ((setLatch_acts (stopOwed n)).condIn hx hr hc).trans
      (condIn_of_onlyChanges (stopOwed_only n) (by simp) hx)
  · rfl

/-! ### Liveness (R35, R36, R40) -/

/-- An entry heard of: LIVE with its silence timer set. -/
def heardEntry (e : NodeEntry) : NodeEntry := { e with state := .live, silence := 120 }

/-- The node with an entry heard of. -/
def entryHeard (i : Nat) (n : Node) : Node := setEntry i (heardEntry (entryAt i n)) n

theorem heard_live {i : Nat} {n : Node} (h : (entryAt i n).state = .live) : heard i n = entryHeard i n := if_pos h

theorem heard_notLive {i : Nat} {n : Node} (h : (entryAt i n).state ≠ .live) :
    heard i n = if (entryAt i n).state = .lost then stopLearnt i (entryLive i (entryHeard i n))
      else entryLive i (entryHeard i n) := if_neg h

theorem entryHeard_only (i : Nat) (n : Node) : onlyChanges [.table] n (entryHeard i n) := by
  intro p hp hr
  cases p <;> simp_all [keeps, reporting, entryHeard, setEntry]

theorem heard_entries (i : Nat) (n : Node) :
    (heard i n).nt.entries = n.nt.entries.set i (heardEntry (entryAt i n)) := by
  by_cases h : (entryAt i n).state = .live
  · rw [heard_live h]
    rfl
  · have hl : SameEntries (entryHeard i n) (entryLive i (entryHeard i n)) := entryLive_sameEntries i _
    rw [heard_notLive h]
    exact SameEntries.ite (hl.trans (sameEntries_of_only (stopLearnt_only i _))) hl

end Sys2Proof.Machine
end

section
/-! PROOF. The acceptance of a frame at the line controller and in the node table (R9, R17, R20, R35, R41). -/

namespace Sys2Proof.Machine

-- The text is checked as one file under a data limit that many waiting threads would exceed.
set_option Elab.async false

/-! ### Start-up, line controller and phase through a reaction -/

/-- Start-up logic and phase as before, the line controller but for its queue and notes. -/
structure SameAtLine (n m : Node) : Prop where
  su : m.su = n.su
  line : SameLine n.lc m.lc
  phase : m.pg.phase = n.pg.phase

theorem SameAtLine.trans {n m k : Node} (h : SameAtLine n m) (g : SameAtLine m k) : SameAtLine n k :=
  ⟨g.su.trans h.su, h.line.trans g.line, g.phase.trans h.phase⟩

theorem Acts.sameAtLine {as : List Act} {n m : Node} (h : Acts as n m) : SameAtLine n m :=
  ⟨h.su, h.sameLine, h.phase_eq⟩

theorem sameAtLine_of_only {ps : List Part} {n m : Node} (h : onlyChanges ps n m)
    (hp : ∀ p ∈ [Part.start, .line, .path], p ∉ ps := by decide) : SameAtLine n m where
  su := h .start (hp _ (by decide)) (by decide)
  line := sameLine_of_onlyChanges h (hp _ (by decide))
  phase := congrArg PG.phase (show m.pg = n.pg from h .path (hp _ (by decide)) (by decide))

theorem heard_sameAtLine (i : Nat) (n : Node) : SameAtLine n (heard i n) := by
  have h := sameAtLine_of_only (entryHeard_only i n)
  by_cases hs : (entryAt i n).state = .live
  · rwa [heard_live hs]
  · have hl := h.trans (entryLive_acts i _).sameAtLine
    rw [heard_notLive hs]
    split
    · exact hl.trans (sameAtLine_of_only (stopLearnt_only i _))
    · exact hl

theorem tableAccept_sameAtLine (rx : Rx) (n : Node) : SameAtLine n (tableAccept rx n) := by
  unfold tableAccept
  split_ifs
  · exact sameAtLine_of_only (raiseStop_only _ _ n)
  · exact heard_sameAtLine _ n
  · exact sameAtLine_of_only (onlyChanges_refl [] n)

/-! ### A peer's frame at the line controller (R9, R17, R20) -/

theorem frameOver_only (rx : Rx) (n : Node) : onlyChanges [.line, .path] n (frameOver rx n) :=
  onlyChanges_both (leaveFrame_only _ n) (atSlotEnd_only rx _) (by simp) (by simp)

/-- A peer's frame counted (R17). -/
def countedPeer (n : Node) : Node := { n with lc := { n.lc with recv := n.lc.recv - 1 } }

theorem countAccepted_peer {rx : Rx} {n : Node} (h : rx.own = false) :
    countAccepted rx n = if n.lc.state = .off then n else recount (countedPeer n) := by
  simp [countAccepted, h, countedPeer]

theorem countAccepted_peer_only {rx : Rx} {n : Node} (h : rx.own = false) :
    onlyChanges [.line, .conds] n (countAccepted rx n) := by
  rw [countAccepted_peer h]
  split
  · exact onlyChanges_refl _ n
  · exact onlyChanges_trans (onlyChanges_mono (by simp) (withLc_only _ n)) (recount_only _)

theorem countAccepted_peer_condIn {rx : Rx} {n : Node} (h : rx.own = false) :
    sameButLineWarn (countAccepted rx n).cu.own n.cu.own := by
  rw [countAccepted_peer h]
  split
  · exact fun _ _ _ => rfl
  · exact recount_condIn (countedPeer n)

/-- The receive count after a peer's frame. -/
def peerCount (lc : LC) : Nat := if lc.state = .off then lc.recv else lc.recv - 1

theorem countAccepted_peer_line {rx : Rx} {n : Node} (h : rx.own = false) : ∃ st,
    SameLine { n.lc with recv := peerCount n.lc, state := st } (countAccepted rx n).lc ∧
      (st = .joining ↔ n.lc.state = .joining) := by
  rw [countAccepted_peer h]
  split
  · rename_i ho
    refine ⟨n.lc.state, ?_, Iff.rfl⟩
    rw [peerCount, if_pos ho]
    exact SameLine.refl n.lc
  · rename_i ho
    refine ⟨stateForCounts (countedPeer n).lc, ?_, ?_⟩
    · rw [peerCount, if_neg ho]
      exact recount_sameLine (countedPeer n)
    cases hs : n.lc.state <;> simp only [stateForCounts, countedPeer, hs] <;> split <;> simp

/-- What the line controller's part of the acceptance of a peer's frame leaves. -/
structure PeerTaken (rx : Rx) (n m : Node) : Prop where
  capture : m.lc.capture = none
  recv : m.lc.recv = peerCount n.lc
  path : m.pg = { n.pg with phase := phaseIn n.pg.tickLen rx.phase.val }
  node : m.su.node = n.su.node
  conds : sameButLineWarn m.cu.own n.cu.own
  only : onlyChanges [.start, .line, .path, .conds] n m

theorem countAccepted_peerTaken {rx : Rx} {n : Node} (h : rx.own = false) :
    PeerTaken rx n (countAccepted rx (frameOver rx n)) := by
  have ho := countAccepted_peer_only (n := frameOver rx n) h
  obtain ⟨st, ⟨q, t, e, hl⟩, -⟩ := countAccepted_peer_line (n := frameOver rx n) h
  refine ⟨by rw [hl]; rfl, by rw [hl]; rfl, ho .path (by simp) (by decide),
    congrArg StartUp.node (show _ = (frameOver rx n).su from ho .start (by simp) (by decide)),
    countAccepted_peer_condIn h, ?_⟩
  exact onlyChanges_both (frameOver_only rx n) ho (by simp) (by simp)

theorem PeerTaken.enterActive {rx : Rx} {n m : Node} (h : PeerTaken rx n m) : PeerTaken rx n (enterActive m) := by
  obtain ⟨q, t, e, hl⟩ := enterActive_sameLine m
  obtain ⟨j, f, hs⟩ := enterActive_su m
  refine ⟨by rw [hl]; exact h.capture, by rw [hl]; exact h.recv,
    (show _ = m.pg from enterActive_only m .path (by simp) (by decide)).trans h.path, by rw [hs]; exact h.node,
    fun c hc hx => (enterActive_condIn m c hc hx).trans (h.conds c hc hx), ?_⟩
  exact onlyChanges_trans h.only (onlyChanges_mono (by simp) (enterActive_only m))

theorem lineAccept_peer {rx : Rx} {n : Node} (h : rx.own = false) :
    lineAccept rx n =
      if n.lc.state = .joining then enterActive (countAccepted rx (frameOver rx n))
      else countAccepted rx (frameOver rx n) := by
  obtain ⟨st, ⟨q, t, e, hl⟩, hj⟩ := countAccepted_peer_line (n := frameOver rx n) h
  have hs : (countAccepted rx (frameOver rx n)).lc.state = .joining ↔ n.lc.state = .joining := by
    rw [hl]
    exact hj
  simp [lineAccept, h, hs]

theorem lineAccept_peerTaken {rx : Rx} {n : Node} (h : rx.own = false) : PeerTaken rx n (lineAccept rx n) := by
  have hc := countAccepted_peerTaken (n := n) h
  rw [lineAccept_peer h]
  split
  · exact hc.enterActive
  · exact hc

theorem lineAccept_peer_only {rx : Rx} {n : Node} (h : rx.own = false) (hj : n.lc.state ≠ .joining) :
    onlyChanges [.line, .path, .conds] n (lineAccept rx n) := by
  rw [lineAccept_peer h, if_neg hj]
  exact onlyChanges_both (frameOver_only rx n) (countAccepted_peer_only h) (by simp) (by simp)

theorem enterActive_firstActive (n : Node) : (enterActive n).su.firstActive = false := by
  have hs : (enterActive n).su = (leftJoining n).su := recount_only _ .start (by simp) (by decide)
  rw [hs]
  by_cases h : n.su.firstActive = true ∨ n.lc.recoveryMark = true
  · rw [leftJoining_su_joining h]
  · obtain ⟨h1, h2⟩ := leftJoining_su_else h
    rw [h1, h2]

theorem accepted_leavesJoining {rx : Rx} {n : Node} (h : rx.own = false) (hj : n.lc.state = .joining) :
    onLine (accepted rx n).lc.state = true ∧ (accepted rx n).lc.recoveryMark = false ∧
      (accepted rx n).su.firstActive = false := by
  have ht := tableAccept_sameAtLine rx (lineAccept rx n)
  rw [lineAccept_peer h, if_pos hj] at ht
  obtain ⟨q, t, e, hl⟩ := (enterActive_sameLine _).trans ht.line
  have ha : accepted rx n = tableAccept rx (enterActive (countAccepted rx (frameOver rx n))) := by
    rw [accepted, lineAccept_peer h, if_pos hj]
  rw [ha, hl, ht.su]
  exact ⟨onLine_stateForCounts (lc := { (countAccepted rx (frameOver rx n)).lc with state := .active }) rfl, rfl,
    enterActive_firstActive _⟩

/-! ### A peer's frame in the node table (R35, R36, R40, R41) -/

theorem accepted_peer {rx : Rx} {n : Node} (h : rx.own = false) (hs : rx.sender ≠ n.su.node) :
    accepted rx n = heard rx.sender.val (lineAccept rx n) := by
  have hn := (lineAccept_peerTaken (n := n) h).node
  simp [accepted, tableAccept, clashing, fromPeer, h, hn, hs]

theorem accepted_clash {rx : Rx} {n : Node} (h : rx.own = false) (hs : rx.sender = n.su.node) :
    accepted rx n = nodeClash (lineAccept rx n) := by
  have hn := (lineAccept_peerTaken (n := n) h).node
  simp [accepted, tableAccept, clashing, h, hn, hs]

theorem nodeClash_stops (n : Node) :
    condIn .nodeClash (nodeClash n).cu.own = true ∧ (nodeClash n).cu.stopped = true ∧ (nodeClash n).cu.owed = true := by
  have hm (m : Node) : condIn .nodeClash (setLatch (askStopall { m with cu := { m.cu with owed := true } })).cu.own =
      condIn .nodeClash m.cu.own := by
    have hl := (setLatch_acts (askStopall { m with cu := { m.cu with owed := true } })).condIn
      (x := .nodeClash) (by decide) (by decide) (by decide)
    exact hl.trans (condIn_of_onlyChanges (askStopall_only _) (by simp) (by decide))
  have ho (m : Node) : (setLatch (askStopall { m with cu := { m.cu with owed := true } })).cu.owed = true := by
    have ha : (askStopall { m with cu := { m.cu with owed := true } }).cu.owed = true :=
      (show keeps .stopInfo _ _ from askStopall_only { m with cu := { m.cu with owed := true } } .stopInfo (by simp)
        (by decide)).1
    exact ((setLatch_acts _).owed_eq (by decide)).trans ha
  refine ⟨(hm _).trans ?_, setLatch_stopped _, ho _⟩
  rw [raiseCommon_condIn _ _ _ (by decide)]
  simp

/-- What becoming LIVE brings leaves a condition that it neither raises nor clears. -/
theorem heard_condIn {i : Nat} {n : Node} {x : Cond} (hs : (entryAt i n).state ≠ .live) (hx : x ≠ .txqOverflow)
    (hr : Act.raise x ∉ liveActs) (hc : Act.clear x ∉ liveActs) : condIn x (heard i n).cu.own = condIn x n.cu.own := by
  have hl : condIn x (entryLive i (entryHeard i n)).cu.own = condIn x n.cu.own :=
    (entryLive_acts i _).condIn hx hr hc
  rw [heard_notLive hs]
  split
  · refine (stopLearnt_condIn i _ hx (fun h => hr ?_) (fun h => hc ?_)).trans hl
    · simp_all
    · simp_all
  · exact hl

theorem peerLostClear_condIn {n : Node} (h : ∀ j < 16, expects j n = true → (entryAt j n).state ≠ .lost) :
    condIn .peerLost (peerLostClear n).cu.own = false := by
  unfold peerLostClear
  rw [if_neg]
  · simp
  · simpa using h

/-- With no expected node LOST the liveness of an entry clears PEER_LOST. -/
theorem heard_peerLost {i : Nat} {n : Node} (hs : (entryAt i n).state ≠ .live)
    (h : ∀ j < 16, expects j (entryHeard i n) = true → (entryAt j (entryHeard i n)).state ≠ .lost) :
    condIn .peerLost (heard i n).cu.own = false := by
  have hl : condIn .peerLost (entryLive i (entryHeard i n)).cu.own = false := by
    have hc := peerLostClear_condIn h
    have hm := (mismatchRaise_acts i (peerLostClear (entryHeard i n))).condIn (x := .peerLost) (by decide) (by decide)
      (by decide)
    have hu := (unexpectedRaise_acts i (mismatchRaise i (peerLostClear (entryHeard i n)))).condIn (x := .peerLost)
      (by decide) (by decide) (by decide)
    exact (tableChanged_acts _).condIn (by decide) (by decide) (by decide) |>.trans (hu.trans (hm.trans hc))
  rw [heard_notLive hs]
  split
  · exact (stopLearnt_condIn i _ (by decide) (by decide) (by decide)).trans hl
  · exact hl

theorem entryAt_entryHeard {i j : Nat} {n : Node} (hi : i < n.nt.entries.length) :
    entryAt j (entryHeard i n) = if i = j then heardEntry (entryAt i n) else entryAt j n := by
  simp only [entryAt, entryHeard, setEntry, List.getD_eq_getElem?_getD, List.getElem?_set, hi, if_true]
  split <;> simp_all

/-! ### The node's own frame (R11, R17) -/

/-- The line controller of a node whose attempt has succeeded. -/
def succeededLine (e : TxEntry) (lc : LC) : LC :=
  { attemptOver (lc.queue.filter fun x => !x.inTx) lc with
    send := if lc.state = .off then lc.send else lc.send - 1, yield := lc.yield || 2 ≤ txClass e }

theorem attemptSucceeded_of_find {n : Node} {e : TxEntry} (h : n.lc.queue.find? TxEntry.inTx = some e) :
    attemptSucceeded n = { n with lc := succeededLine e n.lc } := by
  simp [attemptSucceeded, h, succeededLine]

theorem accepted_own {rx : Rx} {n : Node} (h : rx.own = true) :
    accepted rx n = recount (attemptSucceeded (frameOver rx n)) := by
  simp [accepted, lineAccept, countAccepted, tableAccept, clashing, fromPeer, h]

theorem find_of_filter_one {q : List TxEntry} {e : TxEntry} (h : q.filter TxEntry.inTx = [e]) :
    q.find? TxEntry.inTx = some e := by
  rw [← List.head?_filter, h]
  rfl

theorem attemptSucceeded_only (n : Node) : onlyChanges [.line] n (attemptSucceeded n) := by
  unfold attemptSucceeded
  split
  · exact withLc_only _ n
  · exact onlyChanges_refl _ n

theorem accepted_own_only {rx : Rx} {n : Node} (h : rx.own = true) :
    onlyChanges [.line, .path, .conds] n (accepted rx n) := by
  rw [accepted_own h]
  have hs := onlyChanges_both (frameOver_only rx n) (attemptSucceeded_only _) (ps := [.line, .path]) (by simp) (by simp)
  exact onlyChanges_both hs (recount_only _) (by simp) (by simp)

theorem accepted_own_line {rx : Rx} {n : Node} {e : TxEntry} (h : rx.own = true)
    (he : n.lc.queue.find? TxEntry.inTx = some e) :
    SameLine { succeededLine e (frameOver rx n).lc with state := stateForCounts (succeededLine e (frameOver rx n).lc) }
      (accepted rx n).lc ∧
    (lineWarnStands (accepted rx n).lc.send (accepted rx n).lc.recv n →
      (accepted rx n).lc.queue = n.lc.queue.filter fun x => !x.inTx) := by
  have hf := attemptSucceeded_of_find (n := frameOver rx n) (e := e) he
  have hl := recount_sameLine { frameOver rx n with lc := succeededLine e (frameOver rx n).lc }
  have ha := accepted_own (n := n) h
  rw [hf] at ha
  refine ⟨ha ▸ hl, fun hw => ?_⟩
  obtain ⟨q, t, x, hx⟩ := hl
  rw [ha, hx] at hw
  rw [ha]
  exact congrArg LC.queue (lineWarnTest_stands
    (n := { frameOver rx n with lc := { succeededLine e (frameOver rx n).lc with
      state := stateForCounts (succeededLine e (frameOver rx n).lc) } }) hw).1

end Sys2Proof.Machine
end

section
/-! PROOF. A short transmit queue has room for what reactions ask for, and what becomes of TXQ_OVERFLOW (R12, R13, R15,
R46, R183). -/

namespace Sys2Proof.Machine

-- The text is checked as one file under a data limit that many waiting threads would exceed.
set_option Elab.async false

/-! ### The frames that reactions ask for, each at most once more -/

/-- A FAULT that a raising withdraws as it asks for its own (R183). -/
def isReport (e : TxEntry) : Bool := isFault e.payload && !e.byClear

/-- A HOLD. -/
def isHoldTx (e : TxEntry) : Bool := isHold e.payload

/-- An OVERRIDE of the clamp form. -/
def isClampTx (e : TxEntry) : Bool := isClampOverride e.payload

/-- Whether an entry of a kind stands in a queue, as a number. -/
def one (t : TxEntry → Bool) (q : List TxEntry) : Nat := if q.any t then 1 else 0

/-- A queue without its pending entries of a kind. -/
def without (t : TxEntry → Bool) (q : List TxEntry) : List TxEntry := q.filter fun e => e.inTx || !t e

theorem one_le (t : TxEntry → Bool) (q : List TxEntry) : one t q ≤ 1 := by
  unfold one
  split <;> simp

theorem one_insertTx (t : TxEntry → Bool) (e : TxEntry) (q : List TxEntry) :
    one t (insertTx e q) = if t e then 1 else one t q := by
  have h : (insertTx e q).any t = (t e || q.any t) := by
    rw [Bool.eq_iff_iff]
    simp [List.any_eq_true, mem_insertTx]
  unfold one
  rw [h]
  cases t e <;> simp

theorem one_without_same {t : TxEntry → Bool} {q : List TxEntry} (hq : ∀ e ∈ q, e.inTx = false) :
    one t (without t q) = 0 := by
  have h : (without t q).any t = false := List.any_eq_false.2 fun e he => by
    obtain ⟨hm, hk⟩ := List.mem_filter.1 he
    simpa [hq e hm] using hk
  simp [one, h]

theorem one_without_other {t u : TxEntry → Bool} (q : List TxEntry) (h : ∀ e, u e = true → t e = false) :
    one u (without t q) = one u q := by
  have ha : (without t q).any u = q.any u := by
    rw [Bool.eq_iff_iff, List.any_eq_true, List.any_eq_true]
    exact ⟨fun ⟨e, he, hu⟩ => ⟨e, List.mem_of_mem_filter he, hu⟩,
      fun ⟨e, he, hu⟩ => ⟨e, List.mem_filter.2 ⟨he, by simp [h e hu]⟩, hu⟩⟩
  simp [one, ha]

theorem length_without {t : TxEntry → Bool} {q : List TxEntry} (hq : ∀ e ∈ q, e.inTx = false) :
    (without t q).length + one t q ≤ q.length := by
  unfold one
  split
  · rename_i h
    obtain ⟨e, he, ht⟩ := List.any_eq_true.1 h
    exact List.length_filter_lt_length_iff_exists.2 ⟨e, he, by simp [hq e he, ht]⟩
  · exact List.length_filter_le _ _

/-- A queue out of transmission with at most three entries beside one FAULT, one HOLD and one clamp OVERRIDE. -/
structure Spaced (q : List TxEntry) : Prop where
  pending : ∀ e ∈ q, e.inTx = false
  few : q.length ≤ 3 + one isReport q + one isHoldTx q + one isClampTx q

theorem Spaced.room {q : List TxEntry} (h : Spaced q) : q.length < 8 := by
  have hf := h.few
  have h1 := one_le isReport q
  have h2 := one_le isHoldTx q
  have h3 := one_le isClampTx q
  omega

/-- A request that replaces nothing leaves a queue with room for it, or adds its entry. -/
theorem enqueue_queue {p : Payload} (hr : ∀ x, replaces p x = false) (b : Bool) (k : Nat) {lc : LC}
    (h : lc.queue.length < 8) :
    (enqueue p b k lc).1.queue = lc.queue ∨ (enqueue p b k lc).1.queue = insertTx (newTx p b k) lc.queue := by
  have hm : lc.queue.any (meets p) = false := by simp [meets, hr]
  unfold enqueue
  simp only [hm, Bool.false_eq_true, if_false, h, if_true]
  split_ifs
  · exact .inl rfl
  · exact .inl rfl
  · exact .inr rfl

/-- An entry added to a queue out of transmission. -/
theorem Spaced.insert {e : TxEntry} {q : List TxEntry} (hq : ∀ x ∈ q, x.inTx = false) (he : e.inTx = false)
    (h : q.length + 1 ≤ 3 + (if isReport e then 1 else one isReport q) + (if isHoldTx e then 1 else one isHoldTx q) +
      (if isClampTx e then 1 else one isClampTx q)) : Spaced (insertTx e q) where
  pending x hx := (mem_insertTx.1 hx).elim (fun h => h ▸ he) (hq x)
  few := by
    rw [length_insertTx, one_insertTx, one_insertTx, one_insertTx]
    exact h

theorem pending_without (t : TxEntry → Bool) {q : List TxEntry} (hq : ∀ e ∈ q, e.inTx = false) :
    ∀ e ∈ without t q, e.inTx = false := fun e he => hq e (List.mem_of_mem_filter he)

theorem not_report_of_hold {e : TxEntry} (h : isHoldTx e = true) : isReport e = false := by
  cases hp : e.payload <;> simp_all [isHoldTx, isReport, isHold, isFault]

theorem not_report_of_clamp {e : TxEntry} (h : isClampTx e = true) : isReport e = false := by
  cases hp : e.payload <;> simp_all [isClampTx, isReport, isClampOverride, isFault]

theorem not_clamp_of_hold {e : TxEntry} (h : isHoldTx e = true) : isClampTx e = false := by
  cases hp : e.payload <;> simp_all [isHoldTx, isClampTx, isHold, isClampOverride]

theorem not_clamp_of_report {e : TxEntry} (h : isReport e = true) : isClampTx e = false := by
  cases hc : isClampTx e with
  | false => rfl
  | true => simp [not_report_of_clamp hc] at h

/-- A FAULT in the place of the one it withdraws. -/
theorem Spaced.fault {q : List TxEntry} (h : Spaced q) (b : FaultBody) (k : Nat) :
    Spaced (without isReport q) ∧ Spaced (insertTx (newTx (.fault b) false k) (without isReport q)) := by
  have hp := pending_without isReport h.pending
  have hf := h.few
  have hl := length_without (t := isReport) h.pending
  have h0 := one_without_same (t := isReport) h.pending
  have hh := one_without_other q fun e => not_report_of_hold (e := e)
  have hc := one_without_other q fun e => not_report_of_clamp (e := e)
  refine ⟨⟨hp, by omega⟩, .insert hp rfl ?_⟩
  change _ ≤ 3 + 1 + one isHoldTx _ + one isClampTx _
  omega

/-- A HOLD where none stands. -/
theorem Spaced.hold {q : List TxEntry} (h : Spaced q) (hn : one isHoldTx q = 0) (k : Nat) :
    Spaced (insertTx (newTx .hold false k) q) := by
  have hf := h.few
  refine .insert h.pending rfl ?_
  change _ ≤ 3 + one isReport _ + 1 + one isClampTx _
  omega

/-- A clamp OVERRIDE in the place of those it withdraws. -/
theorem Spaced.clamp {q : List TxEntry} (h : Spaced q) (v : Byte) (k : Nat) :
    Spaced (without isClampTx q) ∧ Spaced (insertTx (newTx (.override 1 v) false k) (without isClampTx q)) := by
  have hp := pending_without isClampTx h.pending
  have hf := h.few
  have hl := length_without (t := isClampTx) h.pending
  have h0 := one_without_same (t := isClampTx) h.pending
  have hh := one_without_other q fun e => not_clamp_of_hold (e := e)
  have hr := one_without_other q fun e => not_clamp_of_report (e := e)
  refine ⟨⟨hp, by omega⟩, .insert hp rfl ?_⟩
  change _ ≤ 3 + one isReport _ + one isHoldTx _ + 1
  omega

/-- The withdrawal of READY and GO from a queue out of transmission. -/
theorem Spaced.verdicts {test : Payload → Bool} {q : List TxEntry} (h : Spaced q)
    (hr : ∀ e, isReport e = true → test e.payload = false) (hh : ∀ e, isHoldTx e = true → test e.payload = false)
    (hc : ∀ e, isClampTx e = true → test e.payload = false) : Spaced (without (fun e => test e.payload) q) where
  pending := pending_without _ h.pending
  few := by
    have hf := h.few
    have hl := length_without (t := fun e => test e.payload) h.pending
    rw [one_without_other q hr, one_without_other q hh, one_without_other q hc]
    omega

/-! ### The reactions of a node whose queue is spaced -/

/-- The transmit queue is spaced and TXQ_OVERFLOW clear. -/
structure Calm (n : Node) : Prop where
  queue : Spaced n.lc.queue
  clear : condIn .txqOverflow n.cu.own = false

theorem Spaced.askWith {p : Payload} (hr : ∀ x, replaces p x = false) (b : Bool) {n : Node} (h : Spaced n.lc.queue)
    (hi : ∀ k, Spaced (insertTx (newTx p b k) n.lc.queue)) :
    Spaced (askWith p b n).lc.queue ∧ (askWith p b n).cu = n.cu := by
  rw [askWith_room p b h.room]
  refine ⟨?_, rfl⟩
  rcases enqueue_queue hr b n.cu.reportSeq h.room with hq | hq
  · exact hq ▸ h
  · exact hq ▸ hi _

theorem Spaced.askFault {n : Node} (h : Spaced n.lc.queue) :
    Spaced (askFault n).lc.queue ∧ (askFault n).cu = n.cu := by
  obtain ⟨hw, -⟩ := h.fault (faultBody n) 0
  generalize hm : withdrawPending (fun e => isFault e.payload && !e.byClear) n = m
  have hmq : m.lc.queue = without isReport n.lc.queue := by rw [← hm]; rfl
  rw [askFault_room h.room, requestFault, hm]
  refine ⟨?_, by rw [← hm]; rfl⟩
  rcases enqueue_queue (p := .fault (faultBody m)) (fun _ => rfl) false m.cu.reportSeq (hmq ▸ hw.room) with hq | hq
  · exact hq ▸ hmq ▸ hw
  · exact hq ▸ hmq ▸ (h.fault _ _).2

theorem raiseCommon_spaced (c : Cond) (d : Byte) {n : Node} (h : Spaced n.lc.queue) :
    Spaced (raiseCommon c d n).lc.queue ∧ (raiseCommon c d n).cu = (noteRaise c d n).cu := by
  unfold raiseCommon
  dsimp only
  split
  · exact Spaced.askFault (n := noteRaise c d n) h
  · exact ⟨h, rfl⟩

theorem Calm.raise {c : Cond} (d : Byte) {n : Node} (h : Calm n) (hc : c ≠ .txqOverflow) :
    Calm (raiseCommon c d n) := by
  obtain ⟨hq, hcu⟩ := raiseCommon_spaced c d h.queue
  refine ⟨hq, ?_⟩
  rw [hcu, noteRaise_condIn, h.clear]
  simpa using hc.symm

theorem Calm.clearCond (c : Cond) {n : Node} (h : Calm n) : Calm (clearCond c n) :=
  ⟨by simpa using h.queue, by simp [h.clear]⟩

theorem one_eq_zero {t : TxEntry → Bool} {q : List TxEntry} (h : q.any t = false) : one t q = 0 := by simp [one, h]

theorem Calm.heldTest {n : Node} (h : Calm n) : Calm (heldTest n) := by
  unfold Machine.heldTest
  split
  · rename_i hh
    have hn : txHas isHold n = false := by
      simp only [Bool.and_eq_true, Bool.not_eq_true'] at hh
      exact hh.1.2
    obtain ⟨hq, hcu⟩ := h.queue.askWith (p := .hold) (fun _ => rfl) false (h.queue.hold (one_eq_zero hn))
    exact ⟨hq, hcu ▸ h.clear⟩
  · exact h

theorem Calm.askClamp {n : Node} (h : Calm n) : Calm (askClamp n) := by
  obtain ⟨hw, -⟩ := h.queue.clamp 0 0
  obtain ⟨hq, hcu⟩ := Spaced.askWith (p := .override 1 (BitVec.ofNat 8 n.cl.clamp))
    (n := withdrawPending (fun e => isClampOverride e.payload) n) (fun _ => rfl) false hw fun k => (h.queue.clamp _ k).2
  exact ⟨hq, hcu ▸ h.clear⟩

theorem Calm.withdrawVerdict (num : BlockNo) {n : Node} (h : Calm n) : Calm (withdrawVerdict num n) := by
  have hs : Spaced (without (fun e => isReadyFor num e.payload || isGoFor num e.payload) n.lc.queue) :=
    h.queue.verdicts (test := fun p => isReadyFor num p || isGoFor num p)
      (fun e he => by cases hp : e.payload <;> simp_all [isReport, isFault, isReadyFor, isGoFor])
      (fun e he => by cases hp : e.payload <;> simp_all [isHoldTx, isHold, isReadyFor, isGoFor])
      (fun e he => by cases hp : e.payload <;> simp_all [isClampTx, isClampOverride, isReadyFor, isGoFor])
  refine ⟨?_, h.clear⟩
  have hq : (Machine.withdrawVerdict num n).lc.queue =
      without (fun e => isReadyFor num e.payload || isGoFor num e.payload) n.lc.queue := by
    refine (List.map_congr_left fun x hx => ?_).trans (List.map_id _)
    have hm := List.mem_filter.1 hx
    have ht : (isReadyFor num x.payload || isGoFor num x.payload) = false := by
      simpa [h.queue.pending x hm.1] using hm.2
    simp [ht]
  exact hq ▸ hs

/-- Reactions without a STOPALL, and without a raising of TXQ_OVERFLOW, find room for what they ask for. -/
theorem Acts.calm {as : List Act} {n m : Node} (h : Acts as n m) (ho : Act.owe ∉ as) (hr : Act.raise .txqOverflow ∉ as)
    (hn : Calm n) : Calm m := by
  induction h with
  | refl => exact hn
  | unit _ u ih => exact ⟨u.lc ▸ ih.queue, u.cu ▸ ih.clear⟩
  | raise d _ ha ih => exact ih.raise d fun hx => hr (hx ▸ ha)
  | clear _ _ ih => exact ih.clearCond _
  | held _ _ ih => exact ih.heldTest
  | clampAsk _ _ ih => exact ih.askClamp
  | verdicts num _ _ ih => exact ih.withdrawVerdict num
  | owe _ ha _ => exact absurd ha ho
  | latch _ _ ih => exact ⟨ih.queue, ih.clear⟩

/-! ### The node's own STATE (R46, R53) -/

theorem lineWarnTest_spaced {n : Node} (h : Spaced n.lc.queue) :
    Spaced (lineWarnTest n).lc.queue ∧ (lineWarnTest n).cu.txqSeq = n.cu.txqSeq := by
  unfold lineWarnTest
  split_ifs
  · refine ⟨by simpa using h, ?_⟩
    unfold Machine.clearCond
    split <;> rfl
  · exact ⟨h, rfl⟩
  · obtain ⟨hq, hcu⟩ := raiseCommon_spaced .lineWarn 0 h
    exact ⟨hq, (congrArg CU.txqSeq hcu).trans rfl⟩

theorem recount_spaced {n : Node} (h : Spaced n.lc.queue) :
    Spaced (recount n).lc.queue ∧ (recount n).cu.txqSeq = n.cu.txqSeq :=
  lineWarnTest_spaced (n := { n with lc := { n.lc with state := stateForCounts n.lc } }) h

theorem Spaced.of_short {q : List TxEntry} (hq : ∀ e ∈ q, e.inTx = false) (h : q.length ≤ 3) : Spaced q :=
  ⟨hq, by omega⟩

theorem clearReported_calm {n : Node} {k : Nat} (h : Spaced n.lc.queue) (hk : n.cu.txqSeq ≤ k) :
    Calm (clearReported (some k) n) := by
  generalize hm : (if n.cu.jogSeq ≤ k then clearCond .jogOverrun n else n) = m
  have hq : m.lc = n.lc := by
    rw [← hm]
    split
    · exact clearCond_lc _ n
    · rfl
  have hc : clearReported (some k) n = clearCond .txqOverflow m := by
    simp only [clearReported, hm, hk, if_true]
  rw [hc]
  exact ⟨by rw [clearCond_lc, hq]; exact h, by simp⟩

theorem stopLearnt_calm (i : Nat) {n : Node} (h : Calm n) : Calm (stopLearnt i n) := by
  have ho : Calm (stopOwed n) := by
    unfold stopOwed
    split
    · exact h
    · exact ⟨h.queue, h.clear⟩
  unfold stopLearnt
  split
  · exact (setLatch_acts (stopOwed n)).calm (by decide) (by decide) ho
  · exact h

theorem writeState_calm (i : Nat) (b : StateBody) {n : Node} (h : Calm n) : Calm (writeState i b n) := by
  have hset (e : NodeEntry) : Calm (setEntry i e n) := ⟨h.queue, h.clear⟩
  have hstop (e : NodeEntry) : Calm (if i = me n then setEntry i e n else stopLearnt i (setEntry i e n)) := by
    split
    · exact hset e
    · exact stopLearnt_calm i (hset e)
  unfold writeState
  dsimp only
  refine (tscInterlockTest_acts _).calm (by decide) (by decide) ?_
  split
  · exact (reformMode_acts _).calm (by decide) (by decide) (hstop _)
  · exact hstop _

theorem askState_cu {n : Node} (h : Spaced n.lc.queue) : (askState n).cu = n.cu := by
  rw [askState, ask, askWith_room]
  · rfl
  · exact h.room

theorem finish_calm {n : Node} (h : Calm n) : condIn .txqOverflow (finish n).cu.own = false := by
  have hn : Calm (noteChange n) := by
    unfold noteChange
    split
    · exact h
    · exact ⟨h.queue, h.clear⟩
  have hc : (changeState (noteChange n)).cu = (noteChange n).cu := by
    unfold changeState
    split
    · exact askState_cu hn.queue
    · rfl
  rw [finish, refresh_cu, hc]
  exact hn.clear

theorem length_pending_lt {q : List TxEntry} {e : TxEntry} (he : e ∈ q) (hi : e.inTx = true) :
    (q.filter fun x => !x.inTx).length < q.length :=
  List.length_filter_lt_length_iff_exists.2 ⟨e, he, by simp [hi]⟩

/-- After the node's own frame a short queue is spaced, and no report of TXQ_OVERFLOW has come. -/
theorem accepted_own_spaced {rx : Rx} {n : Node} {e : TxEntry} (h : rx.own = true) (he : e ∈ n.lc.queue)
    (hi : e.inTx = true) (hl : n.lc.queue.length ≤ 4) :
    Spaced (accepted rx n).lc.queue ∧ (accepted rx n).cu.txqSeq = n.cu.txqSeq := by
  obtain ⟨x, hx⟩ := Option.isSome_iff_exists.1 (List.find?_isSome.2 ⟨e, he, hi⟩)
  have hs := attemptSucceeded_of_find (n := frameOver rx n) hx
  have hq : Spaced (attemptSucceeded (frameOver rx n)).lc.queue := by
    rw [hs]
    refine .of_short (fun y hy => by simpa using (List.mem_filter.1 hy).2) ?_
    exact Nat.lt_succ_iff.1 ((length_pending_lt he hi).trans_le hl)
  rw [accepted_own h]
  obtain ⟨h1, h2⟩ := recount_spaced hq
  exact ⟨h1, h2.trans (by rw [hs]; rfl)⟩

end Sys2Proof.Machine
end

section
/-! PROOF. The acceptance of a frame in its parts (R5, R9, R11, R17, R20, R35, R36, R40, R41, R46). -/

namespace Sys2Proof.Machine

-- The text is checked as one file under a data limit that many waiting threads would exceed.
set_option Elab.async false

/-- A peer's frame makes its entry LIVE and counts at the line controller. -/
theorem accepted_peer_parts {rx : Rx} {n : Node} (h : rx.own = false) (hs : rx.sender ≠ n.su.node)
    (hlen : n.nt.entries.length = 16) :
    (accepted rx n).nt.entries = n.nt.entries.set rx.sender.val (heardEntry (entryAt rx.sender.val n)) ∧
      (accepted rx n).lc.capture = none ∧ (accepted rx n).lc.recv = peerCount n.lc ∧
      (accepted rx n).pg.phase = phaseIn n.pg.tickLen rx.phase.val ∧
      ((entryAt rx.sender.val n).state = .live → n.lc.state ≠ .joining →
        (accepted rx n).nt.clashes = n.nt.clashes ∧
        (accepted rx n).pg = { n.pg with phase := (accepted rx n).pg.phase } ∧
        sameButLineWarn (accepted rx n).cu.own n.cu.own ∧
        onlyChanges [.line, .table, .path, .conds] n (accepted rx n)) ∧
      ((entryAt rx.sender.val n).state ≠ .live →
        condIn .peerRejoined (accepted rx n).cu.own = condIn .peerRejoined n.cu.own ∧
        ((∀ j : NodeNo, j ≠ rx.sender → expects j.val n = true → (entryAt j.val n).state ≠ .lost) →
          condIn .peerLost (accepted rx n).cu.own = false)) := by
  have hp := lineAccept_peerTaken (n := n) h
  have hjoin := lineAccept_peer_only (n := n) h
  rw [accepted_peer h hs]
  generalize lineAccept rx n = m at hp hjoin
  obtain ⟨hent, hcl⟩ : keeps .table n m := hp.only .table (by simp) (by decide)
  have hat (j : Nat) : entryAt j m = entryAt j n := by simp only [entryAt, hent]
  have hpar : m.par = n.par := hp.only .params (by simp) (by decide)
  obtain ⟨q, t, e, hl⟩ := (heard_sameAtLine rx.sender.val m).line
  refine ⟨?_, by rw [hl]; exact hp.capture, by rw [hl]; exact hp.recv, ?_,
    fun hlive hj => ?_, fun hlive => ⟨?_, fun ho => ?_⟩⟩
  · rw [heard_entries, hent, hat]
  · rw [(heard_sameAtLine _ m).phase, hp.path]
  · rw [heard_live (by rwa [hat])]
    exact ⟨hcl, by rw [show (entryHeard rx.sender.val m).pg = m.pg from rfl, hp.path], hp.conds,
      onlyChanges_both (hjoin hj) (entryHeard_only _ m) (by simp) (by simp)⟩
  · exact (heard_condIn (by rwa [hat]) (by decide) (by decide) (by decide)).trans
      (hp.conds _ (by decide) (by decide))
  · refine heard_peerLost (by rwa [hat]) fun j hj16 hx => ?_
    rw [entryAt_entryHeard (by rw [hent, hlen]; exact rx.sender.isLt), hat, hat]
    split
    · simp [heardEntry]
    · rename_i hne
      have hexp : expects j n = true := by
        rw [← hx]
        simp only [expects, show (entryHeard rx.sender.val m).par = m.par from rfl, hpar]
      exact ho ⟨j, hj16⟩ (fun hx => hne (congrArg Fin.val hx).symm) hexp

/-- The node's own frame leaves the queue and counts at the line controller. -/
theorem accepted_own_parts {rx : Rx} {n : Node} {e : TxEntry} (h : rx.own = true)
    (he : n.lc.queue.filter TxEntry.inTx = [e]) :
    (accepted rx n).lc.send = (if n.lc.state = .off then n.lc.send else n.lc.send - 1) ∧
      (accepted rx n).lc.recv = n.lc.recv ∧
      (accepted rx n).lc.yield = (n.lc.yield || decide (2 ≤ txClass e)) ∧ (accepted rx n).lc.capture = none ∧
      (accepted rx n).lc.txBits = [] := by
  obtain ⟨⟨q, t, x, hl⟩, -⟩ := accepted_own_line h (find_of_filter_one he)
  rw [hl]
  exact ⟨rfl, rfl, rfl, rfl, rfl⟩

theorem sentStateAt_inTx {n : Node} {k : Nat} (h : sentStateAt n = some k) :
    ∃ e ∈ n.lc.queue, e.inTx = true := by
  obtain ⟨e, he, -⟩ := Option.map_eq_some_iff.1 h
  have hp := List.find?_some he
  simp only [Bool.and_eq_true] at hp
  exact ⟨e, List.mem_of_find?_eq_some he, hp.1⟩

/-- The node's own STATE at the unit clears TXQ_OVERFLOW, and the short queue it leaves brings no new one. -/
theorem acceptState_own_calm {rx : Rx} {b : StateBody} {n : Node} {k : Nat} (h : rx.own = true)
    (hk : sentStateAt n = some k) (hq : n.cu.txqSeq ≤ k) (hl : n.lc.queue.length ≤ 4) :
    Calm (acceptState rx (sentStateAt n) b (accepted rx n)) := by
  obtain ⟨e, he, hi⟩ := sentStateAt_inTx hk
  obtain ⟨hs, ht⟩ := accepted_own_spaced h he hi hl
  have ha : acceptState rx (sentStateAt n) b (accepted rx n) =
      writeState rx.sender.val b (clearReported (some k) (accepted rx n)) := by
    simp [acceptState, clashing, h, hk]
  rw [ha]
  exact writeState_calm _ b (clearReported_calm hs (ht.trans_le hq))

/-- Settles O39: the line controller's part of the acceptance, then the node table's, whose reactions leave entries and
line controller. -/
theorem acceptanceOfAFrame : Obligations.AcceptanceOfAFrame := by
  unfold Obligations.AcceptanceOfAFrame
  refine ⟨fun rx n h => ⟨fun hs hlen => accepted_peer_parts h hs hlen, accepted_leavesJoining h, fun hs => ?_⟩,
    fun rx n e h he => ?_, fun rx b s k hl hj hs h hk hq hlen => ?_⟩
  · rw [accepted_clash h hs]
    exact nodeClash_stops _
  · obtain ⟨h1, h2, h3, h4, h5⟩ := accepted_own_parts h he
    exact ⟨h1, h2, h3, h4, h5, (accepted_own_line h (find_of_filter_one he)).2, accepted_own_only h⟩
  · refine completes_live (f := heardFrame rx fun n => acceptState rx (sentStateAt n) b (accepted rx n)) rfl hl ?_
    rw [heardFrame, joinedFrame_of_joins _ hj, takeFrame_of_slotClear _ hs]
    exact finish_calm (acceptState_own_calm h hk hq hlen)

end Sys2Proof.Machine
end

section
/-! PROOF. What keeps the STOPPED latch set (R180): reactions, and the operations of the block queue, the node table and
the path. -/

namespace Sys2Proof.Machine

-- The text is checked as one file under a data limit that many waiting threads would exceed.
set_option Elab.async false

/-! ### The latch set, and what leaves it so -/

/-- The STOPPED latch is set. -/
def Latched (n : Node) : Prop := n.cu.stopped = true

theorem Latched.ite {c : Prop} [Decidable c] {a b : Node} (ha : Latched a) (hb : Latched b) :
    Latched (if c then a else b) := by
  split
  · exact ha
  · exact hb

/-- A last step that is made under a condition. -/
theorem Latched.thenIf {c : Prop} [Decidable c] {a b : Node} (hb : Latched a → Latched b) (ha : Latched a) :
    Latched (if c then b else a) := .ite (hb ha) ha

/-- A last step that is left out under a condition. -/
theorem Latched.elseIf {c : Prop} [Decidable c] {a b : Node} (hb : Latched a → Latched b) (ha : Latched a) :
    Latched (if c then a else b) := .ite ha (hb ha)

/-- An operation whose frame leaves out the latch. -/
theorem onlyChanges.latched {ps : List Part} {n m : Node} (g : onlyChanges ps n m) (h : Latched n)
    (hp : Part.latch ∉ ps := by decide) : Latched m :=
  (show m.cu.stopped = n.cu.stopped from g .latch hp (by decide)).trans h

/-- A reaction may set the latch, and never clears it. -/
theorem Acts.latched {as : List Act} {n m : Node} (g : Acts as n m) (h : Latched n) : Latched m := by
  induction g with
  | refl => exact h
  | unit _ u ih => exact (congrArg CU.stopped u.cu).trans ih
  | raise d _ _ ih => exact (raiseCommon_only _ d _).latched ih
  | clear _ _ ih => exact (clearCond_only _ _).latched ih
  | held _ _ ih => exact (heldTest_only _).latched ih
  | clampAsk _ _ ih => exact (askClamp_only _).latched ih
  | verdicts num _ _ ih => exact ih
  | owe _ _ ih => exact (askStopall_only _).latched ih
  | latch _ _ _ => rfl

theorem setLatch_latched (n : Node) : Latched (setLatch n) := setLatch_stopped n

/-- A STOP-class condition raised leaves the latch set, wherever it stood. -/
theorem raiseStop_latched (c : Cond) (d : Byte) (n : Node) : Latched (raiseStop c d n) := setLatch_stopped _

theorem driveFault_latched (c : Chan) (n : Node) : Latched (driveFault c n) := raiseStop_latched _ _ _

theorem forAxes_latched {f : Chan → AxisParams → Node → Node} {n : Node}
    (hf : ∀ {c p m}, Latched m → Latched (f c p m)) (h : Latched n) : Latched (forAxes f n) := by
  have one {c : Chan} {m : Node} (hm : Latched m) :
      Latched (match axParams c m with | some p => f c p m | none => m) := by
    split
    · exact hf hm
    · exact hm
  exact one (one h)

section
variable {n : Node}

theorem ask_latched {p : Payload} (h : Latched n) : Latched (ask p n) := (ask_only p n).latched h

theorem raiseWarn_latched {c : Cond} {d : Byte} (h : Latched n) : Latched (raiseWarn c d n) :=
  (raiseWarn_only c d n).latched h

theorem raiseHold_latched {c : Cond} {d : Byte} (h : Latched n) : Latched (raiseHold c d n) :=
  (raiseHold_only c d n).latched h

theorem clearCond_latched {c : Cond} (h : Latched n) : Latched (clearCond c n) := (clearCond_only c n).latched h

theorem heldTest_latched (h : Latched n) : Latched (heldTest n) := (heldTest_only n).latched h

theorem askState_latched (h : Latched n) : Latched (askState n) := (askState_only n).latched h

theorem finish_latched (h : Latched n) : Latched (finish n) := (finish_only n).latched h

theorem setAx_latched {c : Chan} {a : Axis} (h : Latched n) : Latched (setAx c a n) := by simpa [Latched] using h

theorem onAx_latched {c : Chan} {f : Axis → Axis} (h : Latched n) : Latched (onAx c f n) := setAx_latched h

/-! ### The block queue (chapter 5) -/

theorem clActOn_latched {e : Entry} (h : Latched n) : Latched (clActOn e n) := by
  unfold clActOn
  split
  · exact .ite h h
  · exact h

theorem clActHead_latched (h : Latched n) : Latched (clActHead n) := by
  unfold clActHead
  split
  · exact clActOn_latched h
  · exact h

theorem noteSettled_latched {r : Gear} {c : Bool} (h : Latched n) : Latched (noteSettled r c n) :=
  .ite (raiseWarn_latched h) (clearCond_latched h)

theorem dropCommand_latched {p : SpindleParams} (h : Latched n) : Latched (dropCommand p n) := .ite h h

theorem sgActOn_latched {t : SpindleTarget} (h : Latched n) : Latched (sgActOn t n) := by
  cases hr : t.range with
  | none => simp only [sgActOn, hr]; exact clearCond_latched h
  | some r => simp only [sgActOn, hr]; exact noteSettled_latched h

theorem sgActHead_latched (h : Latched n) : Latched (sgActHead n) := by
  unfold sgActHead
  split
  · split
    · exact .ite (dropCommand_latched (sgActOn_latched h)) h
    · exact h
  · exact h

theorem askReady_latched {num : BlockNo} {v : Verdict} (h : Latched n) : Latched (askReady num v n) :=
  ask_latched h

theorem verdictTick_latched (h : Latched n) : Latched (verdictTick n) := by
  unfold verdictTick
  split
  · exact .ite (.ite (askReady_latched h) h) h
  · exact h

theorem evaluateHead_latched (h : Latched n) : Latched (evaluateHead n) := by
  unfold evaluateHead
  split
  · split
    · exact .thenIf askReady_latched (clActOn_latched h)
    · exact h
  · exact h

theorem forgetVerdict_latched {i : Nat} (h : Latched n) : Latched (forgetVerdict i n) := by
  unfold forgetVerdict
  split
  · exact h
  · exact h

theorem goTest_latched (h : Latched n) : Latched (goTest n) := by
  unfold goTest
  split
  · exact .ite (.ite h (ask_latched h)) h
  · exact h

theorem recordReady_latched {i : Nat} {num : BlockNo} {v : Verdict} (h : Latched n) :
    Latched (recordReady i num v n) := by
  refine goTest_latched ?_
  split
  · split_ifs
    · split
      · exact raiseWarn_latched h
      · exact h
    · exact h
  · exact h

theorem manualSpeed_latched {r : Nat} {ccw : Bool} (h : Latched n) : Latched (manualSpeed r ccw n) := .ite h h

theorem manualFromBlock_latched {f : BlockFields} (h : Latched n) : Latched (manualFromBlock f n) := by
  unfold manualFromBlock
  split
  · exact manualSpeed_latched h
  · exact h

theorem commit_latched {e : Entry} {f : BlockFields} {g : Tick} (h : Latched n) : Latched (commit e f g n) := by
  refine evaluateHead_latched (forAxes_latched onAx_latched ((headChanged_acts _).latched ?_))
  exact manualFromBlock_latched h

theorem applyGo_latched {num : BlockNo} {g : Tick} {i : Nat} (h : Latched n) : Latched (applyGo num g i n) := by
  unfold applyGo
  split
  · split
    · exact .ite h (.ite (raiseHold_latched h) (commit_latched h))
    · exact h
  · exact h

theorem startTick_latched (h : Latched n) : Latched (startTick n) := by
  unfold startTick
  split
  · exact .ite h h
  · exact h

theorem endOfTick_latched (h : Latched n) : Latched (endOfTick n) := by
  unfold endOfTick
  split
  · exact .ite ((afterRest_acts _).latched h) h
  · exact h

theorem resolveAx_latched {c : Chan} {f : BlockFields} (h : Latched n) : Latched (resolveAx c f n).2 := by
  unfold resolveAx
  split
  · split
    · exact onAx_latched h
    · exact h
  · exact h

theorem takenEntry_latched {b : BlockBody} (h : Latched n) : Latched (takenEntry b n).2 := by
  unfold takenEntry
  split_ifs
  · exact resolveAx_latched (resolveAx_latched h)
  · exact h

theorem acceptBlock_latched {b : BlockBody} (h : Latched n) : Latched (acceptBlock b n) := by
  refine .ite (.ite (evaluateHead_latched ((noteHead_acts _ _).latched ?_)) h) (.ite h (raiseHold_latched h))
  exact takenEntry_latched h

theorem headTimerTick_latched (h : Latched n) : Latched (headTimerTick n) := .ite (.ite (raiseWarn_latched h) h) h

theorem clearFlush_latched (h : Latched n) : Latched (clearFlush n) :=
  clearCond_latched (clearCond_latched (clearCond_latched h))

theorem adoptionTest_latched (h : Latched n) : Latched (adoptionTest n) := .ite ((adoptMode_acts n).latched h) h

/-! ### The node table (chapter 4) -/

theorem stopLearnt_latched {i : Nat} (h : Latched n) : Latched (stopLearnt i n) := .ite (setLatch_latched _) h

theorem entryLost_latched {i : Nat} (h : Latched n) : Latched (entryLost i n) := by
  refine (tableChanged_acts _).latched ((unexpectedClear_acts _).latched ((mismatchClear_acts _).latched ?_))
  exact .ite (raiseHold_latched h) h

theorem silenceTicks_latched (h : Latched n) (k : Nat) : Latched (silenceTicks k n) := by
  induction k with
  | zero => exact h
  | succ k ih => exact .ite (.ite (entryLost_latched ih) ih) ih

theorem heard_latched {i : Nat} (h : Latched n) : Latched (heard i n) :=
  .ite h (.thenIf stopLearnt_latched ((entryLive_acts _ _).latched h))

theorem writeAnnounce_latched {i : Nat} {b : AnnounceBody} (h : Latched n) : Latched (writeAnnounce i b n) := by
  refine .thenIf stopLearnt_latched ((tableChanged_acts _).latched (.elseIf (unexpectedRaise_acts _ _).latched ?_))
  refine (mismatchClear_acts _).latched ((mismatchRaise_acts _ _).latched ((peerLostClear_acts _).latched ?_))
  exact .thenIf raiseHold_latched (.thenIf (fun hj => forgetVerdict_latched hj) (.thenIf id h))

theorem writeState_latched {i : Nat} {b : StateBody} (h : Latched n) : Latched (writeState i b n) :=
  (tscInterlockTest_acts _).latched (.thenIf (reformMode_acts _).latched (.elseIf stopLearnt_latched h))

theorem clearReported_latched {sent : Option Nat} (h : Latched n) : Latched (clearReported sent n) := by
  cases sent with
  | none => exact h
  | some t => exact .thenIf clearCond_latched (.thenIf clearCond_latched h)

/-! ### The path (chapter 6) -/

theorem pathTick_latched (h : Latched n) : Latched (pathTick n) := by
  unfold pathTick
  split
  · exact h
  · exact h

theorem applyPace_latched {stamp : Tick} {i : NodeNo} {own : Bool} {r : Option BlockNo} {e : BitVec 16}
    (h : Latched n) :
    Latched (applyPace stamp i own r e n) := by
  unfold applyPace
  refine .ite h ?_
  split
  · exact .ite h (raiseHold_latched h)
  · exact h

theorem applyKept_latched {k : Kept} (h : Latched n) : Latched (applyKept k n) := by
  unfold applyKept
  split
  · exact h
  · exact heldTest_latched h
  · exact applyGo_latched h
  · exact .ite h (.ite h h)
  · exact applyPace_latched h
  · exact h

theorem applyAll_latched (h : Latched n) (ks : List Kept) : Latched (applyAll ks n) := by
  induction ks generalizing n with
  | nil => exact h
  | cons k ks ih => exact ih (applyKept_latched h)

theorem applyFirst_latched {test : Payload → Bool} (h : Latched n) : Latched (applyFirst test n) := by
  unfold applyFirst
  split
  · exact applyKept_latched h
  · exact h

theorem placeFrame_latched {k : Kept} {t : Tick} (h : Latched n) : Latched (placeFrame k t n) := by
  unfold placeFrame
  split
  · exact h
  · exact .thenIf raiseHold_latched (applyKept_latched h)

end

/-- Something that stands around a step that keeps the latch keeps it too. -/
def KeepsLatch (under : (Node → Node) → Node → Node) : Prop :=
  ∀ f, (∀ {n}, Latched n → Latched (f n)) → ∀ {n}, Latched n → Latched (under f n)

theorem keepsLatch_bare : KeepsLatch (fun f m => f m) := fun _ hf _ h => hf h

theorem keepsLatch_beneath (k : Kept) : KeepsLatch (beneath k) := fun _ hf _ h => hf h

theorem applyDueBy_latched {under} (hu : KeepsLatch under) {n : Node} (h : Latched n) :
    Latched (applyDueBy under n) := hu _ (applyAll_latched · _) h

theorem alignTimeBy_latched {under} (hu : KeepsLatch under) {rx : Rx} {c : Moment} {s : Stamp} {n : Node}
    (h : Latched n) : Latched (alignTimeBy under rx c s n).1 := by
  unfold alignTimeBy
  simp only
  split_ifs
  · exact applyDueBy_latched hu h
  · exact .ite (hu _ raiseHold_latched h) h
  · exact h

end Sys2Proof.Machine
end

section
/-! PROOF. What keeps the STOPPED latch set (R180): the operations of the axis channels, the spindle, coolant and pendant
units and the line controller. -/

namespace Sys2Proof.Machine

-- The text is checked as one file under a data limit that many waiting threads would exceed.
set_option Elab.async false

section
variable {n : Node}

/-! ### The axis channels (chapter 7) -/

theorem limitTest_latched {c : Chan} {side : Side} (h : Latched n) : Latched (limitTest c side n) :=
  .ite (raiseStop_latched _ _ _) (.ite (onAx_latched h) h)

theorem driveTick_latched {c : Chan} {p : AxisParams} (h : Latched n) : Latched (driveTick c p n) := by
  have hd {d : DriveState} : Latched (driveTo c d n) := onAx_latched h
  have hf := driveFault_latched c n
  unfold driveTick
  split
  · exact h
  · exact .ite hf (.ite h hd)
  · exact .ite hf (.ite hd (.ite hd (.ite hf (onAx_latched h))))
  · exact .ite hf h

theorem clampTick_latched {c : Chan} {p : AxisParams} (h : Latched n) : Latched (clampTick c p n) := by
  have hx {f : Axis → Axis} : Latched (onAx c f n) := onAx_latched h
  unfold clampTick
  refine .ite h ?_
  split
  · exact .ite hx h
  · exact .ite hx (.ite hx (.ite hx hx))
  · exact .ite h hx
  · exact .ite hx (.ite hx (.ite hx hx))

theorem acceptJog_latched {i : NodeNo} {t : Bool} {d u : Int} {c : Chan} {p : AxisParams} (h : Latched n) :
    Latched (acceptJog i t d u c p n) :=
  .ite h (.thenIf (fun hm => .thenIf raiseWarn_latched (onAx_latched hm)) (onAx_latched h))

theorem refFailed_latched {c : Chan} (h : Latched n) : Latched (refFailed c n) := raiseWarn_latched (onAx_latched h)

theorem raiseParity_latched {c : Chan} (h : Latched n) (k : Nat) : Latched (raiseParity c k n) := by
  induction k generalizing n with
  | zero => exact h
  | succ k ih => exact ih (raiseStop_latched _ _ _)

theorem endTest_latched {c : Chan} {p : AxisParams} (h : Latched n) : Latched (endTest c p n) :=
  have hp := raiseParity_latched (setAx_latched h) _
  .ite (onAx_latched hp) (refFailed_latched hp)

theorem phaseArrived_latched {c : Chan} {p : AxisParams} (h : Latched n) : Latched (phaseArrived c p n) := by
  unfold phaseArrived
  split
  · exact .ite (refFailed_latched h) (onAx_latched h)
  · exact refFailed_latched h
  · exact refFailed_latched h
  · exact onAx_latched h

theorem phaseStopped_latched {c : Chan} {p : AxisParams} (h : Latched n) : Latched (phaseStopped c p n) := by
  unfold phaseStopped
  split
  · exact onAx_latched h
  · exact endTest_latched h
  · exact onAx_latched h

theorem refFollow_latched {c : Chan} {p : AxisParams} (h : Latched n) : Latched (refFollow c p n) :=
  .ite (.ite (phaseStopped_latched h) (phaseArrived_latched h)) h

theorem acceptReference_latched {c : Chan} {p : AxisParams} (h : Latched n) : Latched (acceptReference c p n) :=
  .ite (onAx_latched (clearCond_latched h)) h

theorem commandStep_latched {c : Chan} {p : AxisParams} (h : Latched n) : Latched (commandStep c p n) := by
  have hx {f : Axis → Axis} : Latched (onAx c f n) := onAx_latched h
  unfold commandStep
  refine .ite ?_ (.ite (raiseParity_latched (setAx_latched h) _) ?_)
  · split
    · exact hx
    · exact refFollow_latched h
    · exact h
  · split
    · exact hx
    · exact hx
    · exact refFollow_latched (.ite (setAx_latched h) h)
    · exact hx

theorem servoStep_latched {c : Chan} {p : AxisParams} (h : Latched n) : Latched (servoStep c p n) :=
  limitTest_latched (limitTest_latched (.thenIf raiseHold_latched
    (.thenIf (fun _ => raiseStop_latched _ _ _) (setAx_latched h))))

theorem disableTick_latched {c : Chan} (h : Latched n) : Latched (disableTick c n) :=
  .thenIf onAx_latched (onAx_latched h)

theorem axisTick_latched {c : Chan} {p : AxisParams} (h : Latched n) : Latched (axisTick c p n) := by
  refine onAx_latched (disableTick_latched (servoStep_latched (raiseParity_latched (setAx_latched ?_) _)))
  exact commandStep_latched (onAx_latched (.thenIf onAx_latched (clampTick_latched (driveTick_latched h))))

theorem axisStop_latched {c : Chan} {p : AxisParams} (h : Latched n) : Latched (axisStop c p n) :=
  .thenIf onAx_latched ((axFailQuiet_acts (as := []) c p _).latched ((axEndJog_acts (as := []) c p n).latched h))

/-! ### The spindle and gearbox unit (chapter 8) -/

theorem endShift_latched {p : SpindleParams} (h : Latched n) : Latched (endShift p n) := by
  unfold endShift
  split_ifs
  · split
    · exact clearCond_latched h
    · exact h
  · exact h

theorem beginStepB_latched {p : SpindleParams} (h : Latched n) : Latched (beginStepB p n) :=
  .ite (endShift_latched h) h

theorem beginStepA_latched {p : SpindleParams} (h : Latched n) : Latched (beginStepA p n) :=
  .ite (beginStepB_latched h) h

theorem beginStep_latched {p : SpindleParams} {sh : Shifter} (h : Latched n) : Latched (beginStep p sh n) := by
  cases sh
  · exact beginStepA_latched h
  · exact beginStepB_latched h

theorem stepConfirmed_latched {p : SpindleParams} (h : Latched n) : Latched (stepConfirmed p n) := by
  unfold stepConfirmed
  split
  · exact beginStepB_latched h
  · exact endShift_latched h

theorem shiftGivenUp_latched (h : Latched n) : Latched (shiftGivenUp n) := raiseHold_latched h

theorem neutralReached_latched {p : SpindleParams} (h : Latched n) : Latched (neutralReached p n) :=
  .ite (beginStep_latched (raiseWarn_latched h)) (shiftGivenUp_latched h)

theorem speedTick_latched {p : SpindleParams} (h : Latched n) : Latched (speedTick p n) :=
  have hf {m : Node} (hm : Latched m) : Latched (faultRunTick m) := .thenIf raiseHold_latched hm
  hf (m := atSpeedTick { formCommand p (estimateTick p n) with sg := _ }) h

theorem atRestTest_latched {p : SpindleParams} (h : Latched n) : Latched (atRestTest p n) :=
  .ite (.ite (beginStepA_latched h) (.ite h h)) h

theorem conflictTest_latched {sh : Shifter} {before : SG} (h : Latched n) :
    Latched (conflictTest sh before n) := by
  refine .ite ?_ h
  unfold shifterConflict
  simp only
  split
  · exact .thenIf (fun _ => raiseStop_latched _ _ _) (raiseHold_latched h)
  · exact raiseHold_latched h

theorem patternWatch_latched {p : SpindleParams} (h : Latched n) : Latched (patternWatch p n) := by
  have hl {r : Gear} : Latched (if turning n.sg then gearLost r n else n) := .ite (raiseStop_latched _ _ _) h
  unfold patternWatch
  split
  · exact .ite h hl
  · exact hl
  · exact h
  · exact h

theorem gearTest_latched {p : SpindleParams} (h : Latched n) : Latched (gearTest p n) := by
  unfold gearTest
  split
  · exact .ite (stepConfirmed_latched h) h
  · exact .ite (stepConfirmed_latched h) h
  · exact .ite (neutralReached_latched h) h
  · exact h
  · exact h
  · exact patternWatch_latched h
  · exact patternWatch_latched h

theorem shiftTimerOut_latched (h : Latched n) : Latched (shiftTimerOut n) := by
  unfold shiftTimerOut
  split
  · exact h
  · exact h
  · exact shiftGivenUp_latched h
  · exact h

theorem gearTick_latched {p : SpindleParams} (h : Latched n) : Latched (gearTick p n) :=
  .thenIf shiftTimerOut_latched (gearTest_latched (conflictTest_latched (conflictTest_latched h)))

theorem spindleTick_latched (h : Latched n) : Latched (spindleTick n) := by
  unfold spindleTick
  split
  · exact atRestTest_latched (gearTick_latched (speedTick_latched h))
  · exact h

theorem obeyStop_latched {p : SpindleParams} (h : Latched n) : Latched (obeyStop p n) :=
  .thenIf raiseHold_latched (dropCommand_latched (clearCond_latched h))

theorem spindleStart_latched {p : SpindleParams} {r : Nat} {ccw : Bool} (h : Latched n) :
    Latched (spindleStart p r ccw n) :=
  .ite h (.ite (obeyStop_latched h) (dropCommand_latched (noteSettled_latched h)))

theorem sgFrame_latched {f : SpindleParams → Node → Node} (h : Latched n)
    (hf : ∀ {p n}, Latched n → Latched (f p n)) : Latched (sgFrame f n) := by
  unfold sgFrame
  split
  · exact hf h
  · exact h

theorem acceptSpindle_latched {form : Byte} {speed : BitVec 16} {dir value : Byte} (h : Latched n) :
    Latched (acceptSpindle form speed dir value n) := by
  unfold acceptSpindle
  refine .ite ?_ (.ite (sgFrame_latched h obeyStop_latched) (.ite ?_ h))
  · split
    · exact manualSpeed_latched (sgFrame_latched h spindleStart_latched)
    · exact h
  · exact .thenIf id (sgFrame_latched h id)

/-! ### The coolant unit (chapter 9) -/

theorem withCl_loss_latched {cl : CL} (h : Latched n) : Latched (clLoss { n with cl :=
  cl }) := (withCl_loss_acts cl n).latched h

theorem setTsc_latched {s : CircuitState} {t b : Nat} (h : Latched n) : Latched (setTsc s t b n) :=
  (setTsc_acts s t b n).latched h

theorem tscStop_latched (h : Latched n) : Latched (tscStop n) := (tscStop_acts n).latched h

theorem floodStop_latched (h : Latched n) : Latched (floodStop n) := (floodStop_acts n).latched h

theorem tscDegrade_latched {p : CoolantParams} (h : Latched n) : Latched (tscDegrade p n) :=
  (askClamp_only _).latched (raiseWarn_latched (setTsc_latched h))

theorem tankTo_latched {l : Level} (h : Latched n) : Latched (tankTo l n) := by
  have hr : Latched (tankLowRaised { n with cl := { n.cl with tank := l } }) :=
    (tscInterlockTest_acts _).latched (floodStop_latched (raiseWarn_latched h))
  have hc : Latched (tankLowCleared { n with cl := { n.cl with tank := l } }) :=
    (tscInterlockTest_acts _).latched (clearCond_latched h)
  exact .ite hr (.ite hc h)

theorem compareFlood_latched (h : Latched n) : Latched (compareFlood n) :=
  .ite (.ite (withCl_loss_latched h) h) (.ite (floodStop_latched h) h)

theorem compareTsc_latched {p : CoolantParams} (h : Latched n) : Latched (compareTsc p n) :=
  .ite (.ite (setTsc_latched h) h) (.ite (tscStop_latched h) h)

theorem compareAir_latched (h : Latched n) : Latched (compareAir n) :=
  .ite (.ite (withCl_loss_latched h) h) (.ite ((airOff_acts n).latched h) h)

theorem floodTick_latched (h : Latched n) : Latched (floodTick n) := by
  have hl {cl : CL} : Latched (clLoss { n with cl := cl }) := withCl_loss_latched h
  unfold floodTick
  split
  · exact compareFlood_latched h
  · exact .ite (floodStop_latched h) (.ite hl (.ite hl h))
  · exact .ite (floodStop_latched h) (.ite hl h)
  · exact .ite hl h
  · exact h
  · exact h

theorem tscTick_latched {p : CoolantParams} (h : Latched n) : Latched (tscTick p n) := by
  have hs {s : CircuitState} {t b : Nat} : Latched (setTsc s t b n) := setTsc_latched h
  unfold tscTick
  refine .ite (tscStop_latched h) ?_
  split
  · exact compareTsc_latched h
  · exact .ite hs (.ite hs h)
  · exact .ite (tscDegrade_latched h) h
  · exact .ite hs h
  · exact .ite hs h
  · exact h

theorem coolantTick_latched (h : Latched n) : Latched (coolantTick n) := by
  unfold coolantTick
  split
  · rename_i p _
    have hs : Latched (lossRunTick p (pressureTick p (switchesTick n))) := tankTo_latched h
    exact (clLoss_acts _).latched (compareAir_latched (tscTick_latched (floodTick_latched hs)))
  · exact h

theorem compareAll_latched (h : Latched n) : Latched (compareAll n) := by
  unfold compareAll
  split
  · exact compareAir_latched (compareTsc_latched (compareFlood_latched h))
  · exact h

theorem obeyPart_latched {c : Circ} {part : Option Bool} (h : Latched n) : Latched (obeyPart c part n) := by
  unfold obeyPart
  split
  · exact h
  · exact .ite h h
  · exact .ite h h

theorem acceptCoolant_latched {f t a : Byte} (h : Latched n) : Latched (acceptCoolant f t a n) := by
  unfold acceptCoolant
  split
  · exact Latched.ite (obeyPart_latched (obeyPart_latched (obeyPart_latched h))) h
  · exact h

/-! ### The pendant unit (chapter 10) -/

theorem wheelGate_latched (h : Latched n) : Latched (wheelGate n) := .ite h h

theorem selectorGate_latched {before : PD} (h : Latched n) : Latched (selectorGate before n) := .ite h h

theorem jogRequest_latched (h : Latched n) : Latched (jogRequest n) := .ite (ask_latched h) h

theorem knobRequest_latched (h : Latched n) : Latched (knobRequest n) := .ite (ask_latched h) h

theorem spindleKnobRequest_latched (h : Latched n) : Latched (spindleKnobRequest n) := .ite (ask_latched h) h

theorem panelRequest_latched (h : Latched n) : Latched (panelRequest n) := by
  unfold panelRequest
  split
  · exact h
  · exact .ite h (ask_latched h)

theorem pressed_latched {b : Button} (h : Latched n) : Latched (pressed b n) := by
  have ha {p : Payload} : Latched (ask p n) := ask_latched h
  cases b with
  | cycleStart => exact .ite ha h
  | feedHold => exact h
  | spindleStop => exact ha
  | reset => exact .ite h ha
  | spindleStart =>
    change Latched (pressStart n)
    unfold pressStart
    split
    · exact .ite h ha
    · exact h
  | coolant =>
    change Latched (pressCoolant n)
    unfold pressCoolant
    split
    · exact ha
    · exact ha
    · exact .ite h ha
    · exact .ite h ha
    · exact .ite h ha
    · exact h
    · exact h
  | ref =>
    change Latched (pressRef n)
    unfold pressRef
    split
    · exact ha
    · exact h

theorem feedHoldTick_latched (h : Latched n) : Latched (feedHoldTick n) := .ite (ask_latched h) h

theorem buttonTo_latched {b : Button} {d : Bool} (h : Latched n) : Latched (buttonTo b d n) :=
  .ite (pressed_latched h) h

theorem pressesTick_latched {before : PD} (h : Latched n) : Latched (pressesTick before n) := by
  unfold pressesTick
  generalize buttonOrder = bs
  induction bs generalizing n with
  | nil => exact h
  | cons b bs ih => exact ih (.ite (pressed_latched h) h)

theorem pendantTick_latched (h : Latched n) : Latched (pendantTick n) := by
  refine .ite (pressesTick_latched (panelRequest_latched (spindleKnobRequest_latched ?_))) h
  exact knobRequest_latched (jogRequest_latched (.thenIf id (wheelGate_latched (selectorGate_latched h))))

theorem controlTo_latched {r : ControlReading} (h : Latched n) : Latched (controlTo r n) := by
  cases r with
  | mode m => exact h
  | axisSel x => exact wheelGate_latched (selectorGate_latched h)
  | increment i => exact wheelGate_latched (selectorGate_latched h)
  | enable e => exact wheelGate_latched h
  | button b d => exact buttonTo_latched h

/-! ### The line controller (chapter 2) -/

theorem recount_latched (h : Latched n) : Latched (recount n) := (recount_only n).latched h

theorem enterActive_latched (h : Latched n) : Latched (enterActive n) := (enterActive_only n).latched h

theorem recoveryOver_latched (h : Latched n) : Latched (recoveryOver n) := (recoveryOver_only n).latched h

theorem recoveryTick_latched (h : Latched n) : Latched (recoveryTick n) := by
  unfold recoveryTick
  split
  · exact .ite (recoveryOver_latched h) h
  · exact h

theorem receiveError_latched {c : ErrCode} {q : Nat} (h : Latched n) : Latched (receiveError c q n) :=
  (receiveError_only c q n).latched h

theorem brokenOff_latched {t : Trail} {f : Nat → Node → Node}
    (h : Latched n) (hf : ∀ {q n}, Latched n → Latched (f q n)) :
    Latched (brokenOff t f n) := .ite h (.ite (hf h) h)

theorem notAccepted_latched {rx : Rx} (h : Latched n) : Latched (notAccepted rx n) :=
  show Latched (ownOutcome rx n) from (ownOutcome_only rx n).latched h

theorem takeFrame_latched {rx : Rx} {f : Node → Node} (h : Latched n) (hf : Latched (f n)) :
    Latched (takeFrame rx f n) :=
  .ite hf (notAccepted_latched h)

theorem heardFrame_latched {rx : Rx} {f : Node → Node} (h : Latched n) (hf : Latched (f n)) :
    Latched (heardFrame rx f n) :=
  .ite (takeFrame_latched h hf) h

theorem attemptSucceeded_latched (h : Latched n) : Latched (attemptSucceeded n) := (attemptSucceeded_only n).latched h

theorem countAccepted_latched {rx : Rx} (h : Latched n) : Latched (countAccepted rx n) :=
  .ite (recount_latched (attemptSucceeded_latched h)) (.ite h (recount_latched h))

theorem lineAccept_latched {rx : Rx} (h : Latched n) : Latched (lineAccept rx n) :=
  .thenIf enterActive_latched (countAccepted_latched h)

theorem accepted_latched {rx : Rx} (h : Latched n) : Latched (accepted rx n) :=
  have hl := lineAccept_latched h
  .ite (raiseStop_latched _ _ _) (.ite (heard_latched hl) hl)

end

end Sys2Proof.Machine
end

section
/-! PROOF. Only an applied FAULTCLR clears the STOPPED latch (R25, R180): the frames, the events, the tick, the start-up
and the dispatch. -/

namespace Sys2Proof.Machine

-- The text is checked as one file under a data limit that many waiting threads would exceed.
set_option Elab.async false

section
variable {n : Node}

/-! ### The frames' operations -/

theorem acceptStopall_latched : Latched (acceptStopall n) :=
  forAxes_latched axisStop_latched ((pathStop_acts _).latched (setLatch_latched _))

theorem stamped_latched {rx : Rx} {s : Stamp} {use : Moment → Node → Node}
    (hu : ∀ {c n}, Latched n → Latched (use c n)) {c : Moment} (h : Latched n) : Latched (stamped rx s use c n) :=
  hu (alignTimeBy_latched keepsLatch_bare h)

theorem acceptHold_latched (rx : Rx) (s : Stamp) {c : Moment} (h : Latched n) : Latched (acceptHold rx s c n) :=
  placeFrame_latched (alignTimeBy_latched (keepsLatch_beneath _) (.ite h h))

theorem acceptGo_latched (rx : Rx) (s : Stamp) (num : BlockNo) {c : Moment} (h : Latched n) :
    Latched (acceptGo rx s num c n) := by
  unfold acceptGo
  split
  · exact h
  · exact raiseHold_latched h
  · exact placeFrame_latched h

theorem goArrives_latched (rx : Rx) (s : Stamp) (num : BlockNo) {c : Moment} (h : Latched n) :
    Latched (stamped rx s (acceptGo rx s num) c (goWithdraw rx num n)) :=
  stamped_latched (acceptGo_latched rx s num) (.ite h h)

theorem acceptReady_latched (rx : Rx) (num : BlockNo) (v a : Byte) (h : Latched n) :
    Latched (acceptReady rx num v a n) := by
  unfold acceptReady
  split
  · exact recordReady_latched h
  · exact h

theorem blockArrives_latched {rx : Rx} {b : BlockBody} (h : Latched n) : Latched (blockArrives rx b n) :=
  .ite h (takeFrame_latched h (.thenIf acceptBlock_latched (accepted_latched h)))

theorem acceptFlush_latched {num : Option BlockNo} (h : Latched n) : Latched (acceptFlush num n) :=
  (acceptFlush_acts num n).latched h

theorem acceptOverride_latched (rx : Rx) (s : Stamp) (f v : Byte) {c : Moment} (h : Latched n) :
    Latched (acceptOverride rx s f v c n) := .ite (placeFrame_latched (.ite h h)) h

theorem acceptPace_latched (rx : Rx) (s : Stamp) (p : Payload) {c : Moment} (h : Latched n) :
    Latched (acceptPace rx s p c n) := .ite h (placeFrame_latched h)

theorem toChannel_latched {axis : Byte} {f : Chan → AxisParams → Node → Node}
    (hf : ∀ {c p n}, Latched n → Latched (f c p n)) (h : Latched n) : Latched (toChannel axis f n) := by
  unfold toChannel
  split
  · exact hf h
  · exact h

theorem ownJogAccepted_latched {t : Bool} (h : Latched n) : Latched (ownJogAccepted t n) := by
  unfold ownJogAccepted
  split
  · exact .ite h h
  · exact h

theorem acceptJogFrame_latched (rx : Rx) (a i d t : Byte) (h : Latched n) : Latched (acceptJogFrame rx a i d t n) := by
  unfold acceptJogFrame
  split
  · exact .ite h (toChannel_latched acceptJog_latched (.thenIf ownJogAccepted_latched h))
  · exact h

theorem acceptPanel_latched (rx : Rx) (b : PanelBody) (h : Latched n) : Latched (acceptPanel rx b n) := by
  unfold acceptPanel
  split
  · exact .ite h ((reformMode_acts _).latched h)
  · exact h

theorem acceptState_latched (rx : Rx) (sent : Option Nat) (b : StateBody) (h : Latched n) :
    Latched (acceptState rx sent b n) := .ite h (writeState_latched (.thenIf clearReported_latched h))

theorem forgetJoining_latched {i : Nat} {b : AnnounceBody} (h : Latched n) : Latched (forgetJoining i b n) :=
  .thenIf (fun hm => forgetVerdict_latched hm) h

theorem peerAnnounce_latched {rx : Rx} {b : AnnounceBody} (h : Latched n) : Latched (peerAnnounce rx b n) :=
  .thenIf (.elseIf ask_latched) (.thenIf (.thenIf id) (.ite (writeAnnounce_latched h) (forgetJoining_latched h)))

theorem ownAnnounce_latched {b : AnnounceBody} (h : Latched n) : Latched (ownAnnounce b n) :=
  .ite (askState_latched (forgetJoining_latched h)) h

theorem announceArrives_latched {rx : Rx} {b : AnnounceBody} (h : Latched n) : Latched (announceArrives rx b n) :=
  have hl := lineAccept_latched h
  .ite (ownAnnounce_latched hl) (peerAnnounce_latched (.ite (raiseStop_latched _ _ _) hl))

/-! ### The events' operations -/

theorem blockStarts_latched (h : Latched n) : Latched (blockStarts n) := by
  unfold blockStarts
  split
  · exact compareAll_latched (clActHead_latched h)
  · exact h

theorem dwellEnds_latched (h : Latched n) : Latched (dwellEnds n) := by
  unfold dwellEnds
  split
  · exact .ite h h
  · exact h

theorem moverArrives_latched {c : Chan} {p : AxisParams} (h : Latched n) : Latched (moverArrives c p n) := by
  unfold moverArrives
  refine .ite h ?_
  split
  · exact onAx_latched h
  · exact phaseArrived_latched (onAx_latched h)
  · exact h
  · exact h

theorem moverRests_latched {c : Chan} {p : AxisParams} (h : Latched n) : Latched (moverRests c p n) := by
  unfold moverRests
  refine .ite h ?_
  split
  · exact onAx_latched h
  · exact phaseStopped_latched (onAx_latched h)
  · exact h
  · exact h

theorem flowOn_latched {p : CoolantParams} (h : Latched n) : Latched (flowOn p n) :=
  .ite (withCl_loss_latched (n := { n with pins := _, cl := _ }) h) h

theorem flowOff_latched {p : CoolantParams} (h : Latched n) : Latched (flowOff p n) := by
  unfold flowOff
  dsimp only
  split
  · exact withCl_loss_latched (n := { n with pins := _, cl := _ }) h
  · exact withCl_loss_latched (n := { n with pins := _, cl := _ }) h
  · exact h

theorem floodTimerOut_latched {p : CoolantParams} (h : Latched n) : Latched (floodTimerOut p n) := by
  unfold floodTimerOut
  split
  · exact withCl_loss_latched h
  · exact withCl_loss_latched h
  · exact h

theorem bleedOut_latched {p : CoolantParams} (h : Latched n) : Latched (bleedOut p n) := by
  unfold bleedOut
  split
  · exact setTsc_latched h
  · exact h
  · exact h

theorem shiftExpires_latched {p : SpindleParams} (h : Latched n) : Latched (shiftExpires p n) := by
  unfold shiftExpires
  split
  · exact shiftTimerOut_latched h
  · exact shiftTimerOut_latched h
  · exact h

theorem neutralExpires_latched {p : SpindleParams} (h : Latched n) : Latched (neutralExpires p n) := by
  unfold neutralExpires
  split
  · exact shiftTimerOut_latched h
  · exact h

theorem sensorTakes_latched {sh : Shifter} {pos : ForkPos} {l : Bool} {p : SpindleParams} (h : Latched n) :
    Latched (sensorTakes sh pos l p n) := .ite h (gearTest_latched (conflictTest_latched h))

theorem chainOpens_latched : Latched (chainOpens n) := raiseStop_latched _ _ _

theorem chainCloses_latched (h : Latched n) : Latched (chainCloses n) := clearCond_latched h

/-! ### The tick -/

theorem chainTick_latched (h : Latched n) : Latched (chainTick n) :=
  .ite (.ite h chainOpens_latched) (.ite h (.ite (chainCloses_latched h) h))

theorem tickStart_latched {inputs : Pins} (h : Latched n) : Latched (tickStart inputs n) := by
  refine silenceTicks_latched (applyDueBy_latched keepsLatch_bare ?_) _
  change Latched (joinTick _)
  refine .thenIf (fun h => ask_latched h) ?_
  change Latched (circuitTimers _)
  refine .thenIf id ?_
  change Latched (endOfTick _)
  exact endOfTick_latched (.ite h h)

theorem tickHead_latched (h : Latched n) : Latched (tickHead n) := by
  have hr {m : Node} (hm : Latched m) : Latched (clampRepeat m) := .thenIf (askClamp_only _).latched hm
  exact goTest_latched (sgActHead_latched (verdictTick_latched (hr (clActHead_latched (headTimerTick_latched h)))))

theorem tickRequests_latched (h : Latched n) : Latched (tickRequests n) :=
  .thenIf feedHoldTick_latched ((askStopall_only _).latched (heldTest_latched h))

theorem tickPath_latched (h : Latched n) : Latched (tickPath n) := .thenIf id (pathTick_latched (.thenIf ask_latched h))

theorem tickEnd_latched (h : Latched n) : Latched (tickEnd n) := by
  have hs : Latched (stopEndTest n) := .thenIf (stopReached_acts n).latched h
  have hr := recoveryTick_latched (adoptionTest_latched hs)
  exact .ite (.thenIf askState_latched hr) hr

theorem workTick_latched {inputs : Pins} (h : Latched n) : Latched (workTick inputs n) := by
  refine tickEnd_latched (coolantTick_latched (spindleTick_latched (forAxes_latched axisTick_latched ?_)))
  refine tickPath_latched (tickRequests_latched (tickHead_latched (pendantTick_latched (startTick_latched ?_))))
  exact chainTick_latched (tickStart_latched h)

theorem motionTick_latched {inputs : Pins} (h : Latched n) : Latched (motionTick inputs n) := by
  unfold motionTick
  split
  · exact h
  · exact h
  · exact finish_latched (workTick_latched h)
  · exact finish_latched (workTick_latched h)

/-! ### Start-up and bit time -/

theorem chainAtStart_latched (h : Latched n) : Latched (chainAtStart n) := .thenIf (fun _ => raiseStop_latched _ _ _) h

theorem axisAtStart_latched {c : Chan} {p : AxisParams} (h : Latched n) : Latched (axisAtStart c p n) :=
  limitTest_latched (limitTest_latched (.thenIf (fun _ => driveFault_latched _ _) (onAx_latched h)))

theorem spindleAtStart_latched (h : Latched n) : Latched (spindleAtStart n) := by
  unfold spindleAtStart
  split
  · exact (gearFromPattern_acts _ _).latched h
  · exact h

theorem coolantAtStart_latched (h : Latched n) : Latched (coolantAtStart n) := .ite (.thenIf raiseWarn_latched h) h

theorem ownLive_latched (h : Latched n) : Latched (ownLive n) :=
  (reformMode_acts _).latched ((clashTest_acts _).latched ((unexpectedRaise_acts _ _).latched h))

theorem configured_latched {l : Loaded} (h : Latched n) : Latched (configured l n) := by
  refine ownLive_latched (.thenIf id (coolantAtStart_latched (spindleAtStart_latched ?_)))
  exact forAxes_latched axisAtStart_latched (chainAtStart_latched h)

theorem limited_latched {r : Nat} : Latched (limited r n) :=
  ownLive_latched (chainAtStart_latched (raiseStop_latched _ _ _))

theorem readingDone_latched {bytes : List Byte} {inputs : Pins} (h : Latched n) :
    Latched (readingDone bytes inputs n) := by
  unfold readingDone
  split
  · exact configured_latched h
  · exact .ite h limited_latched

theorem lineBit_latched (h : Latched n) : Latched (lineBit n) := .thenIf (beginAttempt_only n).latched h

theorem bitTime_latched (h : Latched n) : Latched (bitTime n) := by
  have hb : Latched (phaseBit (lineBit n)) := lineBit_latched h
  exact .ite h (.ite h (.ite (finish_latched (enterActive_latched hb)) hb))

theorem restartArrives_latched {rx : Rx} {t s : Byte} (h : Latched n) : Latched (restartArrives rx t s n) :=
  .ite h (.ite rfl (finish_latched (heardFrame_latched h (accepted_latched h))))

/-! ### The commands -/

variable {s t : State}

theorem answer_latched {f : Node → Node} (ht : answer f s = .next t) (h : Latched s.node)
    (hf : ∀ {n}, Latched n → Latched (f n)) : Latched t.node := by
  cases ht
  exact hf h

theorem live_latched {f : Node → Node} (ht : answer (live f) s = .next t) (h : Latched s.node)
    (hf : ∀ {n}, Latched n → Latched (f n)) : Latched t.node :=
  answer_latched ht h fun hn => .ite (finish_latched (hf hn)) hn

theorem frame_latched {rx : Rx} {unit : Moment → Node → Node} (ht : frame rx unit s = .next t) (h : Latched s.node)
    (hu : ∀ {c n}, Latched n → Latched (unit c n)) : Latched t.node :=
  live_latched ht h fun hn => heardFrame_latched hn (hu (accepted_latched hn))

theorem axEvent_latched {c : Chan} {f : AxisParams → Node → Node} (ht : axEvent c f s = .next t)
    (h : Latched s.node) (hf : ∀ {p n}, Latched n → Latched (f p n)) : Latched t.node :=
  live_latched ht h fun {n} hn => by
    cases axParams c n with
    | none => exact hn
    | some p => exact hf hn

theorem clEvent_latched {f : CoolantParams → Node → Node} (ht : clEvent f s = .next t) (h : Latched s.node)
    (hf : ∀ {p n}, Latched n → Latched (f p n)) : Latched t.node :=
  live_latched ht h fun {n} hn => by
    cases n.par.coolant with
    | none => exact hn
    | some p => exact hf hn

theorem sgEvent_latched {f : SpindleParams → Node → Node} (ht : sgEvent f s = .next t) (h : Latched s.node)
    (hf : ∀ {p n}, Latched n → Latched (f p n)) : Latched t.node :=
  live_latched ht h fun hn => sgFrame_latched hn hf

theorem pdEvent_latched {f : Node → Node} (ht : pdEvent f s = .next t) (h : Latched s.node)
    (hf : ∀ {n}, Latched n → Latched (f n)) : Latched t.node := live_latched ht h (.thenIf hf)

theorem formErrorAt_latched (place : FormPlace) {q : Nat} (h : Latched n) :
    Latched ((match place with
      | .lengthField => partwayError .form
      | .endOfCheck => checkTimeError .form) q n) := by
  cases place with
  | lengthField => exact receiveError_latched h
  | endOfCheck => exact receiveError_latched h

theorem resetRelease_latched {st : BitVec 4} {r : Bool} (h : Latched n) :
    Latched (if n.su.start = .inReset ∧ n.su.supplyOk = true then released st r n else n) := .ite h h

theorem imageReadDone_latched {bytes : List Byte} {inputs : Pins} (h : Latched n) :
    Latched (if n.su.start = .loading then
      let m := readingDone (memoryAnswers (loaderSends n) bytes) inputs n
      if loaded m then finish m else m
    else n) := .ite (.thenIf finish_latched (readingDone_latched h)) h

/-- The commands one by one: each arm of the dispatch is a change that the lemmas of its unit speak of. -/
theorem exec_latched {i : Instr} (hi : ∀ rx, i ≠ .faultclr rx) (h : Latched s.node) (ht : exec i s = .next t) :
    Latched t.node := by
  unfold exec at ht
  cases i with
  | powerOn => exact answer_latched ht h fun _ => rfl
  | resetPin => exact answer_latched ht h fun _ => rfl
  | supplyBelowThreshold => exact answer_latched ht h fun _ => rfl
  | resetRelease st r => exact answer_latched ht h resetRelease_latched
  | imageReadDone bytes inputs =>
    exact answer_latched ht h imageReadDone_latched
  | motionTick inputs => exact answer_latched ht h motionTick_latched
  | restart rx target serial => exact answer_latched ht h restartArrives_latched
  | blockStart => exact live_latched ht h blockStarts_latched
  | dwellEnd => exact live_latched ht h dwellEnds_latched
  | statePeriod => exact live_latched ht h (.thenIf askState_latched)
  | attemptStart phase => exact live_latched ht h (.thenIf id)
  | contentionLoss => exact live_latched ht h (.thenIf id)
  | bitError released => exact live_latched ht h (.thenIf id)
  | syncError trail => exact live_latched ht h (brokenOff_latched · fun hn => receiveError_latched hn)
  | formError place trail => exact live_latched ht h (brokenOff_latched · (formErrorAt_latched place))
  | checkError trail => exact live_latched ht h (brokenOff_latched · fun hn => receiveError_latched hn)
  | frameNotAccepted trail => exact live_latched ht h (brokenOff_latched · id)
  | refusedBusy => exact live_latched ht h (.thenIf id)
  | failure => exact live_latched ht h (.thenIf (attemptFailed_only _).latched)
  | recoveryTimerExpiry => exact live_latched ht h (.thenIf recoveryOver_latched)
  | quietCountJoin => exact live_latched ht h (.thenIf fun hn => enterActive_latched hn)
  | stopall rx => exact frame_latched ht h (unit := fun _ => acceptStopall) (fun _ => acceptStopall_latched)
  | stopDecelerationEnd => exact live_latched ht h (.thenIf (stopReached_acts _).latched)
  | disablePoint c => exact live_latched ht h (.thenIf onAx_latched)
  | hold rx stamp => exact frame_latched ht h (acceptHold_latched rx stamp)
  | holdApply => exact live_latched ht h applyFirst_latched
  | resume rx stamp => exact frame_latched ht h (stamped_latched placeFrame_latched)
  | resumeApply => exact live_latched ht h applyFirst_latched
  | go rx stamp num => exact frame_latched ht h (goArrives_latched rx stamp num)
  | goApply => exact live_latched ht h applyFirst_latched
  | ready rx num verdict arg => exact frame_latched ht h (acceptReady_latched rx num verdict arg)
  | headWaitExpiry => exact live_latched ht h (.thenIf fun hn => raiseWarn_latched hn)
  | block rx b => exact live_latched ht h fun hn => .ite (blockArrives_latched hn) hn
  | flush rx flags expected => exact frame_latched ht h fun hn => .ite (acceptFlush_latched hn) (clearFlush_latched hn)
  | override rx stamp form value =>
    exact frame_latched ht h (stamped_latched (acceptOverride_latched rx stamp form value))
  | overrideApply => exact live_latched ht h applyFirst_latched
  | pace rx stamp flags running elapsed => exact frame_latched ht h (stamped_latched (acceptPace_latched rx stamp _))
  | paceApply => exact live_latched ht h applyFirst_latched
  | offset rx b => exact frame_latched ht h (toChannel_latched (.thenIf onAx_latched))
  | jog rx axis increment detents toggle =>
    exact frame_latched ht h (acceptJogFrame_latched rx axis increment detents toggle)
  | panel rx b => exact frame_latched ht h (acceptPanel_latched rx b)
  | modeAdoptionAtRest => exact live_latched ht h adoptionTest_latched
  | spindle rx form speed dir value => exact frame_latched ht h acceptSpindle_latched
  | coolant rx flood tsc air => exact frame_latched ht h acceptCoolant_latched
  | reference rx axis => exact frame_latched ht h (toChannel_latched acceptReference_latched)
  | faultclr rx => exact absurd rfl (hi rx)
  | announce rx b => exact live_latched ht h fun hn => heardFrame_latched hn (announceArrives_latched hn)
  | state rx b =>
    exact live_latched ht h fun hn => heardFrame_latched hn (acceptState_latched rx _ b (accepted_latched hn))
  | fault rx b => exact frame_latched ht h id
  | silenceTimeout peer => exact live_latched ht h (.thenIf entryLost_latched)
  | moverArrive c => exact axEvent_latched ht h moverArrives_latched
  | moverAtRest c => exact axEvent_latched ht h moverRests_latched
  | followingRunLimit c => exact axEvent_latched ht h (.thenIf fun _ => raiseStop_latched _ _ _)
  | saturationRunLimit c => exact axEvent_latched ht h (.thenIf fun hn => raiseHold_latched (onAx_latched hn))
  | driveFaultInput c => exact axEvent_latched ht h fun hn => .ite hn (driveFault_latched _ _)
  | driveReadyOn c => exact axEvent_latched ht h fun hn => .ite (onAx_latched hn) hn
  | driveReadyOff c => exact axEvent_latched ht h fun hn => .ite (driveFault_latched _ _) hn
  | driveTimerExpiry c => exact axEvent_latched ht h (.thenIf fun _ => driveFault_latched _ _)
  | limitActive c side => exact axEvent_latched ht h fun hn => limitTest_latched hn
  | limitInactive c side => exact axEvent_latched ht h fun hn => limitTest_latched hn
  | unclampConfirmed c => exact axEvent_latched ht h (.thenIf fun hn => onAx_latched hn)
  | clampConfirmed c => exact axEvent_latched ht h (.thenIf fun hn => onAx_latched hn)
  | unclampTimeout c => exact axEvent_latched ht h (.thenIf onAx_latched)
  | clampTimeout c => exact axEvent_latched ht h (.thenIf onAx_latched)
  | referenceSwitchActive c => exact axEvent_latched ht h fun hn => onAx_latched hn
  | markEdge c => exact axEvent_latched ht h onAx_latched
  | encoderEdge c up => exact axEvent_latched ht h onAx_latched
  | spindleAtRest => exact sgEvent_latched ht h (.thenIf fun hn => atRestTest_latched hn)
  | atSpeed => exact sgEvent_latched ht h (.thenIf id)
  | spindleFaultRun => exact sgEvent_latched ht h (.thenIf fun hn => raiseHold_latched hn)
  | spindleStopTimerExpiry => exact sgEvent_latched ht h (.thenIf id)
  | sgAct => exact live_latched ht h sgActHead_latched
  | shifterSensorChange sh pos level => exact sgEvent_latched ht h sensorTakes_latched
  | shiftTimeout => exact sgEvent_latched ht h shiftExpires_latched
  | neutralTimeout => exact sgEvent_latched ht h neutralExpires_latched
  | nudgeReverse => exact sgEvent_latched ht h (.thenIf id)
  | clAct => exact live_latched ht h clActHead_latched
  | flowSwitchOn => exact clEvent_latched ht h flowOn_latched
  | flowSwitchOff => exact clEvent_latched ht h flowOff_latched
  | floodTimerExpiry => exact clEvent_latched ht h floodTimerOut_latched
  | tankLowActive => exact clEvent_latched ht h fun hn => tankTo_latched hn
  | tankLowInactive => exact clEvent_latched ht h fun hn => tankTo_latched hn
  | tscStartTimeout => exact clEvent_latched ht h (.thenIf setTsc_latched)
  | tscDegraded => exact clEvent_latched ht h (.thenIf fun hn => tscDegrade_latched hn)
  | bleedTimerExpiry => exact clEvent_latched ht h bleedOut_latched
  | lossRunLimit => exact clEvent_latched ht h (.thenIf withCl_loss_latched)
  | stopChainOpen => exact live_latched ht h fun hn => .ite hn chainOpens_latched
  | stopChainClosed => exact live_latched ht h fun hn => .ite (chainCloses_latched hn) hn
  | handwheelEdge up => exact pdEvent_latched ht h fun hn => wheelGate_latched hn
  | enablingSwitchRelease pressedThrough => exact pdEvent_latched ht h (.thenIf fun hn => wheelGate_latched hn)
  | controlDebounce r => exact pdEvent_latched ht h controlTo_latched
  | cycleStart => exact pdEvent_latched ht h buttonTo_latched
  | feedHold => exact pdEvent_latched ht h fun hn => feedHoldTick_latched (buttonTo_latched hn)
  | resetButton => exact pdEvent_latched ht h buttonTo_latched
  | refButton => exact pdEvent_latched ht h buttonTo_latched
  | spindleStart => exact pdEvent_latched ht h buttonTo_latched
  | spindleStop => exact pdEvent_latched ht h buttonTo_latched
  | coolantButton => exact pdEvent_latched ht h buttonTo_latched

/-- A step with no command waiting keeps the latch. -/
theorem emptyStep_latched (hp : s.pending = []) (h : Latched s.node) (ht : step s = .next t) : Latched t.node := by
  unfold step at ht
  rw [hp] at ht
  cases ht
  exact bitTime_latched h

end

/-- Settles O33: every operation that stands behind a command other than FAULTCLR, and a bit time, leaves the latch
set where it is set (`Latched`). -/
theorem onlyFaultclrClearsTheStoppedLatch : Obligations.OnlyFaultclrClearsTheStoppedLatch := by
  unfold Obligations.OnlyFaultclrClearsTheStoppedLatch
  exact ⟨fun _ _ _ hc ht h => exec_latched hc h ht, fun _ _ hp ht h => emptyStep_latched hp h ht⟩

end Sys2Proof.Machine
end

section
/-! PROOF. The start-up logic: the rows that arrive before the end of LOADING, the reset causes, and the release (R23 to
R26). -/

namespace Sys2Proof.Machine

-- The text is checked as one file under a data limit that many waiting threads would exceed.
set_option Elab.async false

/-! ### Before the end of LOADING -/

theorem answer_of_fixed {f : Node → Node} {s : State} (h : f s.node = s.node) : answer f s = .next s := by
  simp [answer, h]

theorem live_of_notLoaded {f : Node → Node} {n : Node} (h : loaded n = false) : live f n = n := by simp [live, h]

theorem restartArrives_of_notLoaded {rx : Rx} {t k : Byte} {n : Node} (h : loaded n = false) :
    restartArrives rx t k n = n := by simp [restartArrives, h]

/-- Settles O3: but for the listed rows and RESTART every arm is a change of a node whose LOADING is over, and RESTART
tests that itself. -/
theorem commandsBeforeEndOfLoadingDoNothing : Obligations.CommandsBeforeEndOfLoadingDoNothing := by
  unfold Obligations.CommandsBeforeEndOfLoadingDoNothing
  intro c s hl hc
  have hlive {f : Node → Node} : answer (live f) s = .next s := answer_of_fixed (live_of_notLoaded hl)
  unfold exec
  cases c with
  | powerOn | resetPin | supplyBelowThreshold | resetRelease | imageReadDone | motionTick => cases hc
  | restart rx target serial => exact answer_of_fixed (restartArrives_of_notLoaded hl)
  | _ => exact hlive

/-! ### The resets (R24, R25) -/

/-- A RESTART that R25 does not take is an accepted frame and no more. -/
theorem restartArrives_of_notTaken {rx : Rx} {t k : Byte} {n : Node} (hl : loaded n = true)
    (hj : joins rx.lead.val n = true) (hs : slotClear rx n = true) (ht : restartTaken t k (accepted rx n) = false) :
    restartArrives rx t k n = finish (accepted rx n) := by
  simp [restartArrives, heardFrame, joinedFrame, takeFrame, hl, hj, hs, ht]

theorem restartTaken_eq_false {t k : Byte} {n : Node}
    (h : t.toNat ≠ n.su.node.val ∨ n.cu.stopped = false ∨ n.su.serial = some k) : restartTaken t k n = false := by
  rcases h with h | h | h
  · simp [restartTaken, me, h]
  · simp [restartTaken, h]
  · simp [restartTaken, h]

/-- Settles O6: the resets carry their causes by their definitions, and a RESTART not taken ends as its acceptance
does. -/
theorem resetCauses : Obligations.ResetCauses := by
  unfold Obligations.ResetCauses
  refine ⟨fun s => ?_, fun s => ?_, fun rx t k s hl hj hs ht => ?_, fun rx t k s hl hj hs ht => ?_⟩
  · exact completes_answer rfl ⟨rfl, rfl, rfl, rfl⟩
  · exact completes_answer rfl ⟨rfl, rfl, rfl, rfl⟩
  · refine completes_answer rfl ?_
    rw [restartArrives_of_taken hl hj hs ht]
    exact ⟨rfl, rfl, rfl⟩
  · refine completes_answer rfl ?_
    rw [restartArrives_of_notTaken hl hj hs (restartTaken_eq_false ht)]
    exact finish_only _

/-! ### The release (R23, R24) -/

theorem released_leaves (straps : BitVec 4) (rate : Bool) (n : Node) :
    { released straps rate n with su := n.su } = n := rfl

/-- No release ends a reset whose supply is down. -/
theorem exec_resetRelease_of_supplyDown {straps : BitVec 4} {rate : Bool} {s : State}
    (h : s.node.su.supplyOk = false) : exec (.resetRelease straps rate) s = .next s :=
  answer_of_fixed (by simp [h])

/-- Settles O7: the release by its two cases, and the reset of a fallen supply as one that the release finds with its
supply down. -/
theorem releaseBeginsLoading : Obligations.ReleaseBeginsLoading := by
  unfold Obligations.ReleaseBeginsLoading
  refine fun straps rate s => ⟨completes_answer rfl ?_, completes_answer rfl ⟨rfl, rfl⟩, ?_⟩
  · by_cases h : s.node.su.start = .inReset ∧ s.node.su.supplyOk = true
    · rw [if_pos h, if_pos h]
      exact ⟨rfl, rfl, rfl, rfl, rfl, released_leaves _ _ _⟩
    · rw [if_neg h, if_neg h]
  · rintro t ⟨⟩
    exact ⟨exec_resetRelease_of_supplyDown rfl, completes_answer rfl ⟨rfl, rfl⟩⟩

end Sys2Proof.Machine
end

section
/-! PROOF. What an ANNOUNCE writes into the node table, and what the node's own joining one ends (R31, R37, R43). -/

namespace Sys2Proof.Machine

-- The text is checked as one file under a data limit that many waiting threads would exceed.
set_option Elab.async false

/-! ### What the reactions to an ANNOUNCE leave -/

/-- Node entries, clamp values and the conditions `cs` as before, and a latch that was set still set. -/
structure Leaves (cs : List Cond) (n m : Node) : Prop where
  entries : SameEntries n m
  clamps : m.pg.clamps = n.pg.clamps
  conds : ∀ c ∈ cs, condIn c m.cu.own = condIn c n.cu.own
  latched : Latched n → Latched m

section
variable {cs : List Cond} {n m k : Node}

theorem Leaves.refl (n : Node) : Leaves cs n n := ⟨rfl, rfl, fun _ _ => rfl, id⟩

theorem Leaves.trans (h : Leaves cs n m) (g : Leaves cs m k) : Leaves cs n k where
  entries := h.entries.trans g.entries
  clamps := g.clamps.trans h.clamps
  conds := fun c hc => (g.conds c hc).trans (h.conds c hc)
  latched := g.latched ∘ h.latched

theorem Leaves.ite {c : Prop} [Decidable c] (h : Leaves cs n m) (g : Leaves cs n k) :
    Leaves cs n (if c then m else k) := by
  split
  · exact h
  · exact g

theorem Acts.clamps_eq {as : List Act} (h : Acts as n m) : m.pg.clamps = n.pg.clamps :=
  h.stands (fun n => n.pg.clamps) (·.clamps)
    (fun g => congrArg PG.clamps (show _ = _ from g .path (by decide) (by decide))) (fun _ _ => rfl) fun _ _ => rfl

theorem Acts.leaves {as : List Act} (h : Acts as n m) (he : SameEntries n m)
    (hc : ∀ c ∈ cs, c ≠ .txqOverflow ∧ Act.raise c ∉ as ∧ Act.clear c ∉ as := by decide) : Leaves cs n m where
  entries := he
  clamps := h.clamps_eq
  conds := fun c hx => by
    obtain ⟨ho, hr, hl⟩ := hc c hx
    exact h.condIn ho hr hl
  latched := h.latched

theorem leaves_of_only {ps : List Part} (h : onlyChanges ps n m)
    (hp : ∀ p ∈ [Part.table, .path, .conds, .latch], p ∉ ps := by decide)
    (hc : ∀ c ∈ cs, c ≠ .txqOverflow := by decide) : Leaves cs n m where
  entries := sameEntries_of_only h (hp _ (by decide))
  clamps := congrArg PG.clamps (show _ = _ from h .path (hp _ (by decide)) (by decide))
  conds := fun c hx => condIn_of_onlyChanges h (hp _ (by decide)) (hc c hx)
  latched := fun hl => h.latched hl (hp _ (by decide))

end

/-- The two conditions that an ANNOUNCE may leave raised for its sender. -/
abbrev senderConds : List Cond := [.peerRejoined, .machineMismatch]

theorem unexpectedRaise_leaves (i : Nat) (n : Node) : Leaves senderConds n (unexpectedRaise i n) :=
  (unexpectedRaise_acts i n).leaves (.ite rfl (sameEntries_of_only (raiseWarn_only _ _ n)))

theorem tableChanged_leaves (n : Node) : Leaves senderConds n (tableChanged n) :=
  (tableChanged_acts n).leaves (tableChanged_sameEntries n)

theorem stopLearnt_leaves (i : Nat) (n : Node) : Leaves senderConds n (stopLearnt i n) :=
  .ite ((leaves_of_only (stopOwed_only n)).trans ((setLatch_acts _).leaves (sameEntries_of_only (setLatch_only _))))
    (.refl n)

theorem peerLostClear_leaves (n : Node) : Leaves senderConds n (peerLostClear n) :=
  (peerLostClear_acts n).leaves (.ite rfl (sameEntries_of_only (clearCond_only _ n)))

theorem mismatchRaise_leaves (i : Nat) (n : Node) : Leaves [.peerRejoined] n (mismatchRaise i n) :=
  (mismatchRaise_acts i n).leaves (.ite (sameEntries_of_only (raiseStop_only _ _ n)) rfl)

theorem mismatchClear_leaves (n : Node) : Leaves [.peerRejoined] n (mismatchClear n) :=
  (mismatchClear_acts n).leaves (.ite rfl (sameEntries_of_only (clearCond_only _ n)))

theorem pendantRejoin_leaves (n : Node) : Leaves senderConds n (pendantRejoin n) :=
  .ite ⟨rfl, rfl, fun _ _ => rfl, id⟩ (.refl n)

theorem answerAnnounce_leaves (n : Node) : Leaves senderConds n (answerAnnounce n) :=
  .ite (.refl n) (leaves_of_only (ask_only _ n))

theorem Leaves.mono {as bs : List Cond} {n m : Node} (h : Leaves as n m) (hs : ∀ c ∈ bs, c ∈ as := by decide) :
    Leaves bs n m := ⟨h.entries, h.clamps, fun c hc => h.conds c (hs c hc), h.latched⟩

/-! ### MACHINE_MISMATCH (R43) -/

theorem mismatched_of_entries {n m : Node} (h : SameEntries n m) (hp : m.par = n.par) (i : Nat) :
    mismatched m i = mismatched n i := by
  have he : entryAt i m = entryAt i n := by simp only [entryAt, show m.nt.entries = n.nt.entries from h]
  simp only [mismatched, he, hp]

theorem raiseStop_condIn_self (c : Cond) (d : Byte) (n : Node) (hc : c ≠ .txqOverflow) (hr : Act.raise c ∉ latchActs)
    (hl : Act.clear c ∉ latchActs) : condIn c (raiseStop c d n).cu.own = true := by
  have hm (m : Node) : condIn c (setLatch (askStopall { m with cu := { m.cu with owed := true } })).cu.own =
      condIn c m.cu.own :=
    ((setLatch_acts _).condIn hc hr hl).trans (condIn_of_onlyChanges (askStopall_only _) (by simp) hc)
  refine (hm _).trans ?_
  rw [raiseCommon_condIn _ _ _ hc]
  simp

/-- An entry with another machine's tag raises MACHINE_MISMATCH, which no clearing test takes away while it stands. -/
theorem mismatchClear_raise {i : Nat} {n : Node} (hi : i < 16) (h : mismatched n i = true) :
    condIn .machineMismatch (mismatchClear (mismatchRaise i n)).cu.own = true ∧
      Latched (mismatchClear (mismatchRaise i n)) := by
  have hr : mismatchRaise i n = raiseStop .machineMismatch (BitVec.ofNat 8 i) n := if_pos h
  have hm : mismatched (mismatchRaise i n) i = true :=
    (mismatched_of_entries (mismatchRaise_leaves i n).entries (mismatchRaise_acts i n).par i).trans h
  have hc : mismatchClear (mismatchRaise i n) = mismatchRaise i n :=
    if_pos (List.any_eq_true.2 ⟨i, List.mem_range.2 hi, hm⟩)
  rw [hc, hr]
  exact ⟨raiseStop_condIn_self _ _ n (by decide) (by decide) (by decide), raiseStop_latched _ _ n⟩

/-! ### The table written (R37, R120) -/

/-- A joining ANNOUNCE from a node whose entry is not ABSENT. -/
def rejoins (i : Nat) (b : AnnounceBody) (n : Node) : Bool := announceJoining b && (entryAt i n).state != .absent

/-- The entry written, the clamp value of a node that joins again reset, and what the joining takes away. -/
def announceWritten (i : Nat) (b : AnnounceBody) (n : Node) : Node :=
  let m := setEntry i (announcedEntry b (entryAt i n)) n
  forgetJoining i b (if rejoins i b n then setClamp i 150 m else m)

/-- With PEER_REJOINED raised. -/
def rejoinRaised (i : Nat) (b : AnnounceBody) (n : Node) : Node :=
  if rejoins i b n then raiseHold .peerRejoined (BitVec.ofNat 8 i) (announceWritten i b n) else announceWritten i b n

/-- The checks of the written entry's tag and of the entries that are LOST. -/
def tagChecked (i : Nat) (n : Node) : Node := mismatchClear (mismatchRaise i (peerLostClear n))

/-- What the rest of the table's checks make of an entry in state `was` before the ANNOUNCE. -/
def announceReacted (i : Nat) (was : Presence) (n : Node) : Node :=
  let t := tableChanged (if was = .live then n else unexpectedRaise i n)
  if was = .lost then stopLearnt i t else t

theorem writeAnnounce_eq (i : Nat) (b : AnnounceBody) (n : Node) :
    writeAnnounce i b n = announceReacted i (entryAt i n).state (tagChecked i (rejoinRaised i b n)) := rfl

theorem announceReacted_leaves (i : Nat) (was : Presence) (n : Node) :
    Leaves senderConds n (announceReacted i was n) := by
  have h := (Leaves.ite (c := was = .live) (.refl n) (unexpectedRaise_leaves i n)).trans (tableChanged_leaves _)
  exact .ite (h.trans (stopLearnt_leaves i _)) h

theorem tagChecked_leaves (i : Nat) (n : Node) : Leaves [.peerRejoined] n (tagChecked i n) :=
  ((peerLostClear_leaves n).mono.trans (mismatchRaise_leaves i _)).trans (mismatchClear_leaves _)

/-- Entry `e` written for node `i`, the clamp values as given, and the parameters as before. -/
structure Written (i : Nat) (e : NodeEntry) (clamps : List Nat) (n m : Node) : Prop where
  entries : m.nt.entries = n.nt.entries.set i e
  clamps : m.pg.clamps = clamps
  par : m.par = n.par

theorem forgetJoining_written {i : Nat} {e : NodeEntry} {cl : List Nat} {b : AnnounceBody} {n m : Node}
    (h : Written i e cl n m) : Written i e cl n (forgetJoining i b m) := by
  have hf : Written i e cl n (forgetVerdict i (forgetJogs i m)) := by
    unfold forgetVerdict
    split
    · exact ⟨h.entries, h.clamps, h.par⟩
    · exact ⟨h.entries, h.clamps, h.par⟩
  unfold forgetJoining
  split
  · exact hf
  · exact h

theorem announceWritten_written (i : Nat) (b : AnnounceBody) (n : Node) :
    Written i (announcedEntry b (entryAt i n)) (if rejoins i b n then n.pg.clamps.set i 150 else n.pg.clamps) n
      (announceWritten i b n) := by
  refine forgetJoining_written ?_
  split
  · exact ⟨rfl, rfl, rfl⟩
  · exact ⟨rfl, rfl, rfl⟩

theorem raisedIfRejoins_written {i : Nat} {e : NodeEntry} {cl : List Nat} {b : AnnounceBody} {n : Node}
    (h : Written i e cl n (announceWritten i b n)) : Written i e cl n (rejoinRaised i b n) := by
  have ha := raiseHold_acts .peerRejoined (BitVec.ofNat 8 i) (announceWritten i b n)
  have he := sameEntries_of_only (raiseHold_only .peerRejoined (BitVec.ofNat 8 i) (announceWritten i b n))
  unfold rejoinRaised
  split
  · exact ⟨Eq.trans he h.entries, ha.clamps_eq.trans h.clamps, ha.par.trans h.par⟩
  · exact h

theorem rejoinRaised_written (i : Nat) (b : AnnounceBody) (n : Node) :
    Written i (announcedEntry b (entryAt i n)) (if rejoins i b n then n.pg.clamps.set i 150 else n.pg.clamps) n
      (rejoinRaised i b n) := raisedIfRejoins_written (announceWritten_written i b n)

theorem rejoinRaised_condIn {i : Nat} {b : AnnounceBody} {n : Node} (h : rejoins i b n = true) :
    condIn .peerRejoined (rejoinRaised i b n).cu.own = true := by
  rw [rejoinRaised, if_pos h, raiseHold_condIn _ _ _ (by decide)]
  simp

theorem entryAt_of_set {i j : Nat} {e : NodeEntry} {n m : Node} (h : m.nt.entries = n.nt.entries.set i e)
    (hi : i < n.nt.entries.length) : entryAt j m = if i = j then e else entryAt j n := by
  simp only [entryAt, h, List.getD_eq_getElem?_getD, List.getElem?_set, hi, if_true]
  split <;> simp_all

/-! ### An ANNOUNCE of another node -/

/-- What an ANNOUNCE of node `i` leaves at a node that stood as `n`. -/
structure Announced (i : Nat) (b : AnnounceBody) (n m : Node) : Prop where
  entries : m.nt.entries = n.nt.entries.set i (announcedEntry b (entryAt i n))
  mismatch : b.tag.toNat ≠ n.par.ident.tag → condIn .machineMismatch m.cu.own = true ∧ Latched m
  rejoined : rejoins i b n = true → condIn .peerRejoined m.cu.own = true ∧ m.pg.clamps = n.pg.clamps.set i 150

theorem Announced.trans {i : Nat} {b : AnnounceBody} {n m k : Node} (h : Announced i b n m)
    (g : Leaves senderConds m k) : Announced i b n k where
  entries := Eq.trans g.entries h.entries
  mismatch := fun ht => by
    obtain ⟨hc, hl⟩ := h.mismatch ht
    exact ⟨(g.conds _ (by decide)).trans hc, g.latched hl⟩
  rejoined := fun hr => by
    obtain ⟨hc, hl⟩ := h.rejoined hr
    exact ⟨(g.conds _ (by decide)).trans hc, g.clamps.trans hl⟩

theorem tagChecked_announced {i : Nat} {b : AnnounceBody} {n : Node} (hi : i < 16) (hlen : n.nt.entries.length = 16) :
    Announced i b n (tagChecked i (rejoinRaised i b n)) := by
  have hw := rejoinRaised_written i b n
  have hl := tagChecked_leaves i (rejoinRaised i b n)
  refine ⟨Eq.trans hl.entries hw.entries, fun ht => ?_, fun hr => ⟨?_, ?_⟩⟩
  · refine mismatchClear_raise hi ?_
    have he : entryAt i (rejoinRaised i b n) = announcedEntry b (entryAt i n) :=
      (entryAt_of_set hw.entries (by rwa [hlen])).trans (if_pos rfl)
    rw [mismatched_of_entries (peerLostClear_leaves _).entries (peerLostClear_acts _).par]
    simp [mismatched, he, hw.par, announcedEntry, ht]
  · exact (hl.conds _ (by decide)).trans (rejoinRaised_condIn hr)
  · exact hl.clamps.trans (hw.clamps.trans (if_pos hr))

theorem peerAnnounce_announced {rx : Rx} {b : AnnounceBody} {n : Node} (hp : fromPeer rx n = true)
    (hlen : n.nt.entries.length = 16) : Announced rx.sender.val b n (peerAnnounce rx b n) := by
  have hw : Announced rx.sender.val b n (writeAnnounce rx.sender.val b n) := by
    rw [writeAnnounce_eq]
    exact (tagChecked_announced rx.sender.isLt hlen).trans (announceReacted_leaves _ _ _)
  have hk : Leaves senderConds (writeAnnounce rx.sender.val b n) (if announceJoining b then
      pendantRejoin (writeAnnounce rx.sender.val b n) else writeAnnounce rx.sender.val b n) :=
    .ite (pendantRejoin_leaves _) (.refl _)
  simp only [peerAnnounce, hp, if_true]
  exact hw.trans (hk.trans (.ite (answerAnnounce_leaves _) (.refl _)))

/-- The acceptance at the line controller changes nothing that an ANNOUNCE's entry depends on. -/
theorem announceArrives_announced {rx : Rx} {b : AnnounceBody} {n : Node} (h : rx.own = false)
    (hs : rx.sender ≠ n.su.node) (hlen : n.nt.entries.length = 16) :
    Announced rx.sender.val b n (announceArrives rx b n) := by
  have hp := lineAccept_peerTaken (n := n) h
  have ha : announceArrives rx b n = peerAnnounce rx b (lineAccept rx n) := by
    simp [announceArrives, h, clashing, hp.node, hs]
  rw [ha]
  generalize lineAccept rx n = m at hp
  obtain ⟨hent, -⟩ : keeps .table n m := hp.only .table (by simp) (by decide)
  have hat : entryAt rx.sender.val m = entryAt rx.sender.val n := by simp only [entryAt, hent]
  have hpar : m.par = n.par := hp.only .params (by simp) (by decide)
  have g := peerAnnounce_announced (rx := rx) (b := b) (n := m) (by simp [fromPeer, h, hp.node, hs])
    (hent.symm ▸ hlen)
  refine ⟨by rw [g.entries, hent, hat], fun ht => g.mismatch (by rwa [hpar]), fun hr => ?_⟩
  obtain ⟨hc, hl⟩ := g.rejoined (by rwa [rejoins, hat])
  exact ⟨hc, hl.trans (by rw [hp.path])⟩

/-! ### The node's own joining ANNOUNCE (R31, R53) -/

/-- STATE timer and its running mark as before. -/
def SameTimer (n m : Node) : Prop :=
  m.nt.stateTimer = n.nt.stateTimer ∧ m.nt.stateRunning = n.nt.stateRunning

theorem raiseOverflow_sameTimer (n : Node) : SameTimer n (raiseOverflow n) := by
  unfold raiseOverflow
  simp only
  split_ifs <;> exact ⟨rfl, rfl⟩

theorem ask_sameTimer (p : Payload) (n : Node) : SameTimer n (ask p n) := by
  unfold ask askWith
  simp only
  split
  · exact raiseOverflow_sameTimer _
  · exact ⟨rfl, rfl⟩

theorem finish_sameTimer {n : Node} (h : n.nt.stateTimer = 0) : SameTimer n (finish n) := by
  have hn : asksNoState (noteChange n) := (noteChange_timer n).2 (.inr (by omega))
  rw [finish, changeState_of_asksNoState hn]
  unfold noteChange
  split <;> exact ⟨rfl, rfl⟩

theorem lineAccept_own_only {rx : Rx} {n : Node} (h : rx.own = true) :
    onlyChanges [.line, .path, .conds] n (lineAccept rx n) := by
  have ha : accepted rx n = lineAccept rx n := by simp [accepted, tableAccept, clashing, fromPeer, h]
  exact ha ▸ accepted_own_only h

/-- The node after its own joining ANNOUNCE and before it asks for the first STATE. -/
def joiningOver (b : AnnounceBody) (n : Node) : Node :=
  let m := forgetJoining (me n) b n
  { m with su := { m.su with joinPending := false }, nt := { m.nt with stateRunning := true } }

theorem joiningOver_sameEntries (b : AnnounceBody) (n : Node) : SameEntries n (joiningOver b n) := by
  have h : SameEntries n (forgetVerdict (me n) (forgetJogs (me n) n)) := by
    unfold forgetVerdict
    split <;> rfl
  exact SameEntries.ite h rfl

theorem ownAnnounce_joining {b : AnnounceBody} {n : Node} (hj : announceJoining b = true) :
    (finish (ownAnnounce b n)).su.joinPending = false ∧ (finish (ownAnnounce b n)).nt.stateRunning = true ∧
      (finish (ownAnnounce b n)).nt.stateTimer = 0 ∧ SameEntries n (finish (ownAnnounce b n)) := by
  have ho : ownAnnounce b n = askState (joiningOver b n) := by simp only [ownAnnounce, hj, if_true]; rfl
  have hask : onlyChanges [] (joiningOver b n) (finish (askState (joiningOver b n))) :=
    onlyChanges_trans (askState_only _) (finish_only _)
  obtain ⟨ht, hr⟩ := ask_sameTimer (.state (stateBody (joiningOver b n))) { joiningOver b n with
    nt := { (joiningOver b n).nt with stateTimer := 0, changeNoted := false,
                                      lastKey := some (reportKey (joiningOver b n)) } }
  obtain ⟨ht', hr'⟩ := finish_sameTimer (n := askState (joiningOver b n)) ht
  rw [ho]
  exact ⟨congrArg StartUp.joinPending (show _ = (joiningOver b n).su from hask .start (by simp) (by decide)),
    hr'.trans hr, ht'.trans ht, (joiningOver_sameEntries b n).trans (sameEntries_of_only hask)⟩

/-- Settles O41: the written entry stands through every reaction to it, as do the conditions it raises; the own one
leaves the table alone. -/
theorem announceWritesTheEntry : Obligations.AnnounceWritesTheEntry := by
  unfold Obligations.AnnounceWritesTheEntry
  intro rx b s hl hj hs hlen
  have hf (f : Node → Node) : heardFrame rx f s.node = f s.node := by
    rw [heardFrame, joinedFrame_of_joins _ hj, takeFrame_of_slotClear _ hs]
  refine ⟨fun h hne => completes_live (f := heardFrame rx (announceArrives rx b)) rfl hl ?_,
    fun h hb => completes_live (f := heardFrame rx (announceArrives rx b)) rfl hl ?_⟩
  · rw [hf]
    have ha := (announceArrives_announced (b := b) h hne hlen).trans (leaves_of_only (finish_only _))
    have hat (j : Nat) := entryAt_of_set (j := j) ha.entries (by rw [hlen]; exact rx.sender.isLt)
    have hown := (hat rx.sender.val).trans (if_pos rfl)
    refine ⟨?_, ?_, ?_, ?_, ?_, fun hk => ?_, fun hb hk => ?_, fun i hi => (hat i).trans (if_neg (Ne.symm hi)),
      ha.mismatch, fun hb hk => ha.rejoined (by simp [rejoins, hb, hk])⟩
    all_goals rw [hown, announcedEntry]
    · rcases hk with hk | hk <;> simp [hk]
    · simp [hb, hk]
  · have ha : announceArrives rx b s.node = ownAnnounce b (lineAccept rx s.node) := if_pos h
    rw [hf, ha]
    obtain ⟨h1, h2, h3, h4⟩ := ownAnnounce_joining (n := lineAccept rx s.node) hb
    exact ⟨h1, h2, h3, (sameEntries_of_only (lineAccept_own_only h)).trans h4⟩

end Sys2Proof.Machine
end

section
/-! PROOF. At a node whose STOPPED latch is set, as it is through LOADING, a STOP-class condition touches no unit (R45,
R178). -/

namespace Sys2Proof.Machine

-- The text is checked as one file under a data limit that many waiting threads would exceed.
set_option Elab.async false

section
variable {n : Node}

theorem raiseStop_of_latched (c : Cond) (d : Byte) (h : Latched n) : raiseStop c d n =
    askStopall { raiseCommon c d n with cu := { (raiseCommon c d n).cu with owed := true } } := by
  have hr : Latched { raiseCommon c d n with cu := { (raiseCommon c d n).cu with owed := true } } :=
    (raiseCommon_only c d n).latched h
  exact setLatch_of_set ((askStopall_only _).latched hr)

theorem raiseStop_acts_of_latched (c : Cond) (d : Byte) (h : Latched n) :
    Acts [.raise c, .owe] n (raiseStop c d n) := by
  rw [raiseStop_of_latched c d h]
  exact .owe (.raise d .refl (by simp)) (by simp)

theorem raiseStop_only_of_latched (c : Cond) (d : Byte) (h : Latched n) :
    onlyChanges [.conds, .stopInfo] n (raiseStop c d n) := by
  have ho (m : Node) : onlyChanges [.stopInfo] m { m with cu := { m.cu with owed := true } } := by
    intro p hp _
    cases p <;> simp_all [keeps]
  rw [raiseStop_of_latched c d h]
  exact onlyChanges_trans (onlyChanges_both (raiseCommon_only c d n) (ho _) (by simp) (by simp))
    (onlyChanges_nil (askStopall_only _))

theorem raiseStop_condIn_of_latched (c : Cond) (d : Byte) (h : Latched n) {x : Cond} (hx : x ≠ .txqOverflow) :
    condIn x (raiseStop c d n).cu.own = (condIn x n.cu.own || decide (x = c)) := by
  rw [raiseStop_of_latched c d h, condIn_of_onlyChanges (askStopall_only _) (by simp) hx]
  exact raiseCommon_condIn c d n hx

/-- An owed STOPALL stays owed through every reaction. -/
theorem Acts.owed {as : List Act} {m : Node} (g : Acts as n m) (h : n.cu.owed = true) : m.cu.owed = true := by
  have only {ps : List Part} {a b : Node} (k : onlyChanges ps a b) (ha : a.cu.owed = true)
      (hp : Part.stopInfo ∉ ps := by decide) : b.cu.owed = true := (k .stopInfo hp (by decide)).1.trans ha
  induction g with
  | refl => exact h
  | unit _ u ih => exact (congrArg CU.owed u.cu).trans ih
  | raise d _ _ ih => exact only (raiseCommon_only _ d _) ih
  | clear _ _ ih => exact only (clearCond_only _ _) ih
  | held _ _ ih => exact only (heldTest_only _) ih
  | clampAsk _ _ ih => exact only (askClamp_only _) ih
  | verdicts num _ _ ih => exact ih
  | owe _ _ _ => exact only (askStopall_only _) rfl
  | latch _ _ ih => exact ih

theorem raiseStop_owed (c : Cond) (d : Byte) (n : Node) : (raiseStop c d n).cu.owed = true := by
  have ho : (askStopall { raiseCommon c d n with cu := { (raiseCommon c d n).cu with owed := true } }).cu.owed = true :=
    (show keeps .stopInfo _ _ from askStopall_only _ .stopInfo (by simp) (by decide)).1
  exact (setLatch_acts _).owed ho

/-- No reaction touches the reading of the stop chain. -/
theorem Acts.chain_eq {as : List Act} {m : Node} (h : Acts as n m) :
    m.cu.chainOpen = n.cu.chainOpen ∧ m.cu.chainRun = n.cu.chainRun := by
  have hs {a b : Node} (g : onlyChanges [.conds] a b) : keeps .stopInfo a b := g .stopInfo (by decide) (by decide)
  exact ⟨h.stands (fun n => n.cu.chainOpen) (fun u => by rw [u.cu]) (fun g => (hs g).2.2.1) (fun _ _ => rfl)
      fun _ _ => rfl,
    h.stands (fun n => n.cu.chainRun) (fun u => by rw [u.cu]) (fun g => (hs g).2.2.2) (fun _ _ => rfl) fun _ _ => rfl⟩

/-- The clashing pairs are raised one by one. -/
theorem raiseClashes_of_latched (ps : List (Nat × Nat)) (h : Latched n) :
    Acts [.raise .ownerClash, .owe] n (ps.foldl (fun k p => raiseStop .ownerClash (BitVec.ofNat 8 p.2) k) n) ∧
      onlyChanges [.conds, .stopInfo] n (ps.foldl (fun k p => raiseStop .ownerClash (BitVec.ofNat 8 p.2) k) n) := by
  induction ps generalizing n with
  | nil => exact ⟨.refl, onlyChanges_refl _ n⟩
  | cons p ps ih =>
    obtain ⟨ha, ho⟩ := ih (raiseStop_latched .ownerClash (BitVec.ofNat 8 p.2) n)
    exact ⟨(raiseStop_acts_of_latched _ _ h).trans ha, onlyChanges_trans (raiseStop_only_of_latched _ _ h) ho⟩

/-- The node with the clashing pairs of a test noted. -/
def clashesNoted (n : Node) : Node := { n with nt := { n.nt with clashes := clashPairs n } }

/-- The fresh pairs of a test raised. -/
def clashesRaised (n : Node) : Node :=
  ((clashPairs n).filter fun p => !n.nt.clashes.contains p).foldl
    (fun k p => raiseStop .ownerClash (BitVec.ofNat 8 p.2) k) (clashesNoted n)

theorem clashTest_eq (n : Node) : clashTest n =
    if (clashPairs n).isEmpty then clearCond .ownerClash (clashesRaised n) else clashesRaised n := rfl

theorem clashTest_acts_of_latched (h : Latched n) :
    Acts [.raise .ownerClash, .clear .ownerClash, .owe] n (clashTest n) := by
  have hl : Latched (clashesNoted n) := h
  have hr : Acts [.raise .ownerClash, .clear .ownerClash, .owe] n (clashesRaised n) :=
    Acts.trans (m := clashesNoted n) (.ofUnit {}) ((raiseClashes_of_latched _ hl).1.mono (by simp))
  exact .ite (hr.clear (by simp)) hr

theorem clashTest_only_of_latched (h : Latched n) : onlyChanges [.conds, .stopInfo, .table] n (clashTest n) := by
  have hl : Latched (clashesNoted n) := h
  have hc : onlyChanges [.table] n (clashesNoted n) := by
    intro p hp hr
    cases p <;> simp_all [keeps, reporting, clashesNoted]
  have hr : onlyChanges [.conds, .stopInfo, .table] n (clashesRaised n) :=
    onlyChanges_both hc (raiseClashes_of_latched _ hl).2 (by simp) (by simp)
  rw [clashTest_eq]
  split
  · exact onlyChanges_trans hr (onlyChanges_mono (by simp) (clearCond_only _ _))
  · exact hr

end

/-! ### The fault record (R181) -/

/-- The record holds `r`, of the class that no raising is more severe than. -/
def Recorded (r : FaultRecord) (n : Node) : Prop := n.cu.record = some r ∧ classRank r.cond = 0

section
variable {r : FaultRecord} {n m : Node}

theorem writesRecord_recorded (h : Recorded r n) (c : Cond) : writesRecord c n.cu = false := by
  obtain ⟨hr, h0⟩ := h
  simp [writesRecord, hr, h0]

theorem noteRaise_recorded (h : Recorded r n) (c : Cond) (d : Byte) : Recorded r (noteRaise c d n) := by
  refine ⟨?_, h.2⟩
  have hw := writesRecord_recorded h c
  simp only [noteRaise, raisedCU, hw]
  exact h.1

theorem raiseOverflow_recorded (h : Recorded r n) : Recorded r (raiseOverflow n) := by
  have hw := writesRecord_recorded h .txqOverflow
  simp only [raiseOverflow, hw]
  exact noteRaise_recorded h _ _

theorem ask_recorded (h : Recorded r n) (p : Payload) : Recorded r (ask p n) := by
  unfold ask askWith
  simp only
  split
  · exact raiseOverflow_recorded h
  · exact h

theorem askFault_recorded (h : Recorded r n) : Recorded r (askFault n) := by
  unfold askFault
  simp only
  split
  · exact raiseOverflow_recorded h
  · exact h

theorem raiseCommon_recorded (h : Recorded r n) (c : Cond) (d : Byte) : Recorded r (raiseCommon c d n) := by
  have hw := writesRecord_recorded h c
  simp only [raiseCommon, hw]
  exact noteRaise_recorded h _ _

theorem Recorded.ite {c : Prop} [Decidable c] (h : Recorded r n) (g : Recorded r m) :
    Recorded r (if c then n else m) := by
  split
  · exact h
  · exact g

theorem Acts.recorded {as : List Act} (g : Acts as n m) (h : Recorded r n) : Recorded r m := by
  induction g with
  | refl => exact h
  | unit _ u ih => exact ⟨(congrArg CU.record u.cu).trans ih.1, ih.2⟩
  | raise d _ _ ih => exact raiseCommon_recorded ih _ d
  | clear _ _ ih => exact .ite ih ih
  | held _ _ ih => exact .ite (ask_recorded ih _) ih
  | clampAsk _ _ ih => exact ask_recorded (n := withdrawPending _ _) ih _
  | verdicts num _ _ ih => exact ih
  | @owe m _ _ ih =>
    exact .ite (ask_recorded (n := { m with cu := { m.cu with owed := true } }) ih _) ih
  | latch _ _ ih => exact ih

theorem finish_recorded (h : Recorded r n) : Recorded r (finish n) := by
  have hc (m : Node) (hm : Recorded r m) : Recorded r (changeState m) :=
    .ite (ask_recorded (n := { m with nt := { m.nt with stateTimer := 0, changeNoted := false, lastKey := _ } }) hm _) hm
  exact hc _ (.ite h h)

/-- A STOP-class condition raised over an empty record fills it. -/
theorem raiseStop_recorded (c : Cond) (d : Byte) (hr : n.cu.record = none) (hc : classRank c = 0) :
    Recorded { cond := c, tick := n.pg.tick, running := runningBlock n, detail := d } (raiseStop c d n) := by
  have hw : writesRecord c n.cu = true := by simp [writesRecord, hr]
  have hn : Recorded { cond := c, tick := n.pg.tick, running := runningBlock n, detail := d } (noteRaise c d n) :=
    ⟨by simp [noteRaise, raisedCU, hw], hc⟩
  have hm : Recorded { cond := c, tick := n.pg.tick, running := runningBlock n, detail := d } (raiseCommon c d n) := by
    simp only [raiseCommon, hw, if_true]
    exact askFault_recorded hn
  have ho : Acts [.owe] (raiseCommon c d n)
      (askStopall { raiseCommon c d n with cu := { (raiseCommon c d n).cu with owed := true } }) := .owe .refl (by simp)
  exact (setLatch_acts _).recorded (ho.recorded hm)

end

end Sys2Proof.Machine
end

section
/-! PROOF. The inputs that the units took stand through the reaction to the node's own entry (R34, R51, R52). -/

namespace Sys2Proof.Machine

-- The text is checked as one file under a data limit that many waiting threads would exceed.
set_option Elab.async false

/-! ### What a unit has of its inputs -/

/-- Drive state, error map, clamp and limit marks of a channel. -/
def axisView (a : Axis) : DriveState × List CompEntry × ClampState × Nat × Bool × Bool :=
  (a.drive, a.comp, a.clamp, a.clampTimer, a.markPlus, a.markMinus)

/-- Gearbox state, reference range and sensor levels. -/
def gearView (g : SG) : GearState × Gear × Level × Level × Level × Level :=
  (g.gear, g.refRange, g.a1, g.a2, g.b1, g.b2)

/-- The block queue of a reset. -/
def EmptyQueue (n : Node) : Prop := n.bq = BQ.reset n.par.headWait

/-- What the units have of their inputs and parameters is as before. -/
structure SameInputs (n m : Node) : Prop where
  par : m.par = n.par := by rfl
  pins : m.pins = n.pins := by rfl
  pd : m.pd = n.pd := by rfl
  ax0 : axisView m.ax0 = axisView n.ax0 := by rfl
  ax1 : axisView m.ax1 = axisView n.ax1 := by rfl
  gear : gearView m.sg = gearView n.sg := by rfl
  flow : m.cl.flow = n.cl.flow := by rfl
  tank : m.cl.tank = n.cl.tank := by rfl
  blocks : EmptyQueue n → EmptyQueue m := by exact id

section
variable {n m k : Node}

theorem SameInputs.refl (n : Node) : SameInputs n n := {}

theorem SameInputs.trans (h : SameInputs n m) (g : SameInputs m k) : SameInputs n k where
  par := g.par.trans h.par
  pins := g.pins.trans h.pins
  pd := g.pd.trans h.pd
  ax0 := g.ax0.trans h.ax0
  ax1 := g.ax1.trans h.ax1
  gear := g.gear.trans h.gear
  flow := g.flow.trans h.flow
  tank := g.tank.trans h.tank
  blocks := g.blocks ∘ h.blocks

theorem SameInputs.ite {c : Prop} [Decidable c] (h : SameInputs n m) (g : SameInputs n k) :
    SameInputs n (if c then m else k) := by
  split
  · exact h
  · exact g

theorem SameInputs.axis (h : SameInputs n m) (c : Chan) : axisView (getAx c m) = axisView (getAx c n) := by
  cases c
  · exact h.ax0
  · exact h.ax1

theorem gearView_of_only {ps : List Part} (h : onlyChanges ps n m) (hp : Part.spindle ∉ ps) :
    gearView m.sg = gearView n.sg := by
  have hs : ({ m.sg with driveCmd := 0 } : SG) = { n.sg with driveCmd := 0 } := h .spindle hp (by decide)
  have hg := congrArg gearView hs
  exact hg

theorem getAx_of_only {ps : List Part} (h : onlyChanges ps n m) {c : Chan} (hp : chanPart c ∉ ps) :
    getAx c m = getAx c n := by
  cases c
  · exact h .channel0 hp (by decide)
  · exact h .channel1 hp (by decide)

/-- The parts that inputs and parameters are in. -/
abbrev inputParts : List Part := [.params, .pins, .pendant, .channel0, .channel1, .spindle, .coolant, .blocks]

theorem sameInputs_of_only {ps : List Part} (h : onlyChanges ps n m) (hp : ∀ p ∈ inputParts, p ∉ ps := by decide) :
    SameInputs n m where
  par := h .params (hp _ (by decide)) (by decide)
  pins := h .pins (hp _ (by decide)) (by decide)
  pd := h .pendant (hp _ (by decide)) (by decide)
  ax0 := congrArg axisView (show m.ax0 = n.ax0 from h .channel0 (hp _ (by decide)) (by decide))
  ax1 := congrArg axisView (show m.ax1 = n.ax1 from h .channel1 (hp _ (by decide)) (by decide))
  gear := gearView_of_only h (hp _ (by decide))
  flow := congrArg CL.flow (show m.cl = n.cl from h .coolant (hp _ (by decide)) (by decide))
  tank := congrArg CL.tank (show m.cl = n.cl from h .coolant (hp _ (by decide)) (by decide))
  blocks := fun he =>
    ((show m.bq = n.bq from h .blocks (hp _ (by decide)) (by decide)).trans he).trans
      (congrArg (fun p => BQ.reset p.headWait) (show m.par = n.par from h .params (hp _ (by decide)) (by decide)).symm)

end

/-! ### The mode formed again (R51, R52) -/

theorem restIfStill_view (rest : Bool) (a : Axis) : axisView (restIfStill rest a) = axisView a := by
  unfold restIfStill
  split <;> rfl

theorem endJog_view (rest : Bool) (a : Axis) : axisView (endJog rest a) = axisView a := by
  unfold endJog
  split
  · exact restIfStill_view rest _
  · rfl

theorem failReference_view (rest : Bool) (a : Axis) : axisView (failReference rest a) = axisView a := by
  unfold failReference
  split
  · exact restIfStill_view rest _
  · rfl

theorem restMotion_view (a : Axis) : axisView (restMotion a) = axisView a := by
  unfold restMotion
  split <;> rfl

theorem onAx_sameInputs (c : Chan) {f : Axis → Axis} (hf : ∀ a, axisView (f a) = axisView a) (n : Node) :
    SameInputs n (onAx c f n) := by
  cases c
  · exact { ax0 := hf _ }
  · exact { ax1 := hf _ }

theorem forAxes_sameInputs {f : Chan → AxisParams → Node → Node} (hf : ∀ c p m, SameInputs m (f c p m)) (n : Node) :
    SameInputs n (forAxes f n) := by
  have one (c : Chan) (m : Node) : SameInputs m (match axParams c m with | some p => f c p m | none => m) := by
    split
    · exact hf c _ m
    · exact .refl m
  exact (one .ax0 n).trans (one .ax1 _)

theorem axEndJog_sameInputs (c : Chan) (p : AxisParams) (n : Node) : SameInputs n (axEndJog c p n) :=
  onAx_sameInputs c (endJog_view _) n

theorem axFailRaised_sameInputs (c : Chan) (p : AxisParams) (n : Node) : SameInputs n (axFailRaised c p n) :=
  .ite ((onAx_sameInputs c (failReference_view _) n).trans (sameInputs_of_only (raiseWarn_only _ _ _))) (.refl n)

theorem enablingOff_sameInputs (n : Node) : SameInputs n (enablingOff n) :=
  (forAxes_sameInputs axEndJog_sameInputs n).trans (forAxes_sameInputs axFailRaised_sameInputs _)

theorem modeReaction_sameInputs (m : Mode) (n : Node) : SameInputs n (modeReaction m n) := by
  have h : SameInputs n (if m = .auto then forAxes axEndJog n else n) :=
    .ite (forAxes_sameInputs axEndJog_sameInputs n) (.refl n)
  exact .ite h (h.trans (forAxes_sameInputs axFailRaised_sameInputs _))

theorem lossTest_sameInputs (c : Circ) (n : Node) : SameInputs n (lossTest c n) :=
  .ite {} (.ite (.trans (m := { n with cl := _ }) {} (sameInputs_of_only (raiseHold_only _ _ _))) (.refl n))

theorem clLoss_sameInputs (n : Node) : SameInputs n (clLoss n) := by
  have h : SameInputs n (lossTest .air (lossTest .tsc (lossTest .flood n))) :=
    ((lossTest_sameInputs _ n).trans (lossTest_sameInputs _ _)).trans (lossTest_sameInputs _ _)
  exact .ite (.ite (h.trans (sameInputs_of_only (clearCond_only _ _))) h) (.refl n)

theorem motionsAtRest_sameInputs (n : Node) : SameInputs n (motionsAtRest n) :=
  .ite { ax0 := restMotion_view _, ax1 := restMotion_view _ } (.refl n)

/-- The head wait timer of an empty queue preset again leaves the queue of a reset. -/
theorem presetHead_sameInputs (n : Node) : SameInputs n (presetHead n) where
  blocks := fun h => by
    rw [EmptyQueue] at h
    simp [EmptyQueue, presetHead, h, BQ.reset]

theorem headChanged_sameInputs (n : Node) : SameInputs n (headChanged n) := by
  have h : SameInputs n (clearCond .startStall (presetHead n)) :=
    (presetHead_sameInputs n).trans (sameInputs_of_only (clearCond_only _ _))
  exact h.trans {}

theorem entriesLeft_sameInputs (gone : Entry → Bool) (n : Node) : SameInputs n (entriesLeft gone n) where
  blocks := fun h => by
    rw [EmptyQueue] at h
    simp [EmptyQueue, entriesLeft, h, BQ.reset]

theorem removeEntries_sameInputs (gone : Entry → Bool) (n : Node) : SameInputs n (removeEntries gone n) := by
  obtain ⟨lc, hlc⟩ := withdrawVerdicts_eq (n.bq.entries.filter gone) (entriesLeft gone n)
  rw [removeEntries_eq, hlc]
  have h : SameInputs n { entriesLeft gone n with lc := lc } := (entriesLeft_sameInputs gone n).trans {}
  exact h.trans (.ite (.refl _) (headChanged_sameInputs _))

theorem forgetForce_sameInputs (n : Node) : SameInputs n (forgetForce n) where
  blocks := fun h => by
    rw [EmptyQueue] at h
    simp [EmptyQueue, forgetForce, presetHead, h, BQ.reset]

theorem expectNothing_sameInputs (n : Node) : SameInputs n { n with bq := { n.bq with expected := none } } where
  blocks := fun h => by
    rw [EmptyQueue] at h
    simp [EmptyQueue, h, BQ.reset]

theorem removeAll_sameInputs (n : Node) : SameInputs n (removeAll n) := by
  have h := (removeEntries_sameInputs (fun _ => true) n).trans (expectNothing_sameInputs _)
  have hp : SameInputs n (setPlanned { removeEntries (fun _ => true) n with
      bq := { (removeEntries (fun _ => true) n).bq with expected := none } }) := h.trans {}
  have he : SameInputs n (emptyBlockSet (forgetForce (setPlanned { removeEntries (fun _ => true) n with
      bq := { (removeEntries (fun _ => true) n).bq with expected := none } }))) :=
    (hp.trans (forgetForce_sameInputs _)).trans {}
  exact (he.trans (motionsAtRest_sameInputs _)).trans (clLoss_sameInputs _)

theorem adoptMode_sameInputs (n : Node) : SameInputs n (adoptMode n) := by
  have h : SameInputs n { removeAll n with nt := { (removeAll n).nt with mode := (removeAll n).nt.sourceMode } } :=
    (removeAll_sameInputs n).trans {}
  exact (h.trans (modeReaction_sameInputs _ _)).trans (sameInputs_of_only (clearCond_only _ _))

theorem compareMode_sameInputs (n : Node) : SameInputs n (compareMode n) :=
  .ite (sameInputs_of_only (clearCond_only _ n)) (.ite (adoptMode_sameInputs n)
    (.ite (.refl n) (sameInputs_of_only (raiseHold_only _ _ n))))

/-- The node with source, mode and enabling switch as the table now gives them. -/
def sourceRead (n : Node) : Node :=
  { n with nt := { n.nt with modeSource := modeSourceOf n, sourceMode := sourceModeOf n, enabling := enablingOf n } }

theorem reformMode_sameInputs (n : Node) : SameInputs n (reformMode n) := by
  have h : SameInputs n (if n.nt.enabling && !(sourceRead n).nt.enabling then enablingOff (sourceRead n)
      else sourceRead n) :=
    .ite (.trans (m := sourceRead n) {} (enablingOff_sameInputs _)) {}
  exact h.trans (compareMode_sameInputs _)

/-! ### The own entry (R34, R44, R51) -/

/-- The node's own entry as LOADING leaves it. -/
def ownStartEntry (n : Node) : NodeEntry :=
  { state := .live, silence := 0, funcs := some (ownFunctions n), tag := some n.par.ident.tag,
    cause := some n.su.announceCause, report := none, panel := none }

/-- The own entry written, with its own UNEXPECTED_NODE. -/
def ownWritten (n : Node) : Node := unexpectedRaise (me n) (setEntry (me n) (ownStartEntry n) n)

theorem ownLive_eq (n : Node) : ownLive n = reformMode (clashTest (ownWritten n)) := rfl

theorem ownWritten_only (n : Node) : onlyChanges [.table, .conds] n (ownWritten n) := by
  have hs : onlyChanges [.table] n (setEntry (me n) (ownStartEntry n) n) := by
    intro p hp hr
    cases p <;> simp_all [keeps, reporting, setEntry]
  have hu (m : Node) (i : Nat) : onlyChanges [.conds] m (unexpectedRaise i m) := by
    unfold unexpectedRaise
    split
    · exact onlyChanges_refl _ m
    · exact raiseWarn_only _ _ m
  exact onlyChanges_both hs (hu _ _) (by simp) (by simp)

/-- What the own entry brings at a node whose latch is set. -/
abbrev ownActs : List Act := [.raise .unexpectedNode, .raise .ownerClash, .clear .ownerClash, .owe] ++ modeActs

section
variable {n : Node}

theorem ownLive_acts_of_latched (h : Latched n) : Acts ownActs n (ownLive n) := by
  have hu : Acts ownActs n (ownWritten n) :=
    Acts.trans (m := setEntry (me n) (ownStartEntry n) n) (.ofUnit {}) ((unexpectedRaise_acts _ _).mono (by simp))
  have hc := clashTest_acts_of_latched ((ownWritten_only n).latched h)
  rw [ownLive_eq]
  exact (hu.andThen hc).andThen (reformMode_acts _)

theorem ownLive_sameInputs_of_latched (h : Latched n) : SameInputs n (ownLive n) := by
  have hc := sameInputs_of_only (clashTest_only_of_latched ((ownWritten_only n).latched h))
  rw [ownLive_eq]
  exact ((sameInputs_of_only (ownWritten_only n)).trans hc).trans (reformMode_sameInputs _)

theorem ownLive_entry (hn : n.nt.entries.length = 16) : (entryAt (me n) (ownLive n)).state = .live := by
  have hu : SameEntries (setEntry (me n) (ownStartEntry n) n) (ownWritten n) :=
    .ite rfl (sameEntries_of_only (raiseWarn_only _ _ _))
  have h : (ownLive n).nt.entries = n.nt.entries.set (me n) (ownStartEntry n) :=
    (hu.trans (clashTest_sameEntries _)).trans (reformMode_sameEntries _)
  rw [entryAt_of_set h (by rw [hn]; exact n.su.node.isLt), if_pos rfl]
  rfl

end

end Sys2Proof.Machine
end

section
/-! PROOF. The end of LOADING: what each unit takes of its inputs, and the start state that a reading decides (R26 to R30,
R34). -/

namespace Sys2Proof.Machine

-- The text is checked as one file under a data limit that many waiting threads would exceed.
set_option Elab.async false

/-! ### The stop chain (R176, R184) -/

/-- The stop chain's reading taken. -/
def chainRead (n : Node) : Node := { n with cu := { n.cu with chainOpen := n.pins.chainOpen, chainRun := 0 } }

theorem chainAtStart_eq (n : Node) :
    chainAtStart n = if n.pins.chainOpen then raiseStop .stopInput 0 (chainRead n) else chainRead n := rfl

theorem chainRead_only (n : Node) : onlyChanges [.stopInfo] n (chainRead n) := by
  intro p hp _
  cases p <;> simp_all [keeps, chainRead]

section
variable {n m : Node}

theorem chainAtStart_acts_of_latched (h : Latched n) : Acts [.raise .stopInput, .owe] (chainRead n) (chainAtStart n) :=
  .ite (raiseStop_acts_of_latched (n := chainRead n) _ _ h) .refl

theorem chainAtStart_only_of_latched (h : Latched n) : onlyChanges [.conds, .stopInfo] n (chainAtStart n) := by
  have hr : onlyChanges [.conds, .stopInfo] n (chainRead n) := onlyChanges_mono (by simp) (chainRead_only n)
  rw [chainAtStart_eq]
  split
  · exact onlyChanges_trans hr (raiseStop_only_of_latched _ _ (n := chainRead n) h)
  · exact hr

theorem chainAtStart_condIn_of_latched (h : Latched n) {x : Cond} (hx : x ≠ .txqOverflow) :
    condIn x (chainAtStart n).cu.own = (condIn x n.cu.own || (decide (x = .stopInput) && n.pins.chainOpen)) := by
  rw [chainAtStart_eq]
  split
  · rename_i hp
    rw [raiseStop_condIn_of_latched _ _ (n := chainRead n) h hx, hp, Bool.and_true]
    rfl
  · rename_i hp
    simp [hp, chainRead]

theorem chainAtStart_owed (h : n.pins.chainOpen = true) : (chainAtStart n).cu.owed = true := by
  rw [chainAtStart_eq, if_pos h]
  exact raiseStop_owed _ _ _

/-! ### A channel (R111, R113, R126) -/

/-- A channel's state after its clamp, drive fault and limit inputs are taken. -/
def startedAxis (p : AxisParams) (pin : AxisPins) (rest : Bool) (a : Axis) : Axis :=
  let b := clampAtStart p pin a
  setMark .minus pin.limMinus (setMark .plus pin.limPlus (if pin.fault then setDrive rest .faulted b else b))

/-- The parts that a channel's inputs change. -/
abbrev axisParts (c : Chan) : List Part := [.conds, .stopInfo, chanPart c]

theorem limitTest_only_of_latched (c : Chan) (side : Side) (h : Latched n) :
    onlyChanges (axisParts c) n (limitTest c side n) := by
  have ho (b : Bool) : onlyChanges (axisParts c) n (onAx c (setMark side b) n) :=
    onlyChanges_mono (by simp) (onAx_only c _ n)
  unfold limitTest
  simp only
  split_ifs
  · exact onlyChanges_trans (ho true) (onlyChanges_mono (by simp) (raiseStop_only_of_latched _ _ (onAx_latched h)))
  · exact ho false
  · exact onlyChanges_refl _ n

theorem setMark_same {side : Side} {a : Axis} (h : limitMark side a = true) : setMark side true a = a := by
  cases side
  · exact congrArg (fun b => { a with markPlus := b }) h.symm
  · exact congrArg (fun b => { a with markMinus := b }) h.symm

theorem raiseStop_getAx (c : Chan) (x : Cond) (k : Byte) (h : Latched n) :
    getAx c (raiseStop x k n) = getAx c n :=
  getAx_of_only (raiseStop_only_of_latched x k h) (by cases c <;> decide)

/-- A limit mark follows its input. -/
theorem limitTest_getAx (c : Chan) (side : Side) (h : Latched n) :
    getAx c (limitTest c side n) = setMark side (limitPin side (axPins c n.pins)) (getAx c n) := by
  unfold limitTest
  simp only
  cases hp : limitPin side (axPins c n.pins)
  · simp
  · cases hm : limitMark side (getAx c n)
    · simp only [Bool.not_false, Bool.and_self, if_true]
      rw [raiseStop_getAx c _ _ (onAx_latched h), getAx_onAx_same]
    · simp [setMark_same hm]

/-- HARD_LIMIT is raised where an input has become active. -/
theorem limitTest_condIn (c : Chan) (side : Side) (h : Latched n) {x : Cond} (hx : x ≠ .txqOverflow) :
    condIn x (limitTest c side n).cu.own = (condIn x n.cu.own ||
      (decide (x = .hardLimit) && (limitPin side (axPins c n.pins) && !limitMark side (getAx c n)))) := by
  unfold limitTest
  simp only
  split_ifs with h1 h2
  · rw [raiseStop_condIn_of_latched _ _ (onAx_latched h) hx, h1]
    simp
  · simp [h1]
  · simp [h1]

theorem limitTest_owed (c : Chan) (side : Side) (hp : limitPin side (axPins c n.pins) = true)
    (hm : limitMark side (getAx c n) = false) : (limitTest c side n).cu.owed = true := by
  have ht : limitTest c side n = raiseStop .hardLimit (chanNumber c) (onAx c (setMark side true) n) :=
    if_pos (by simp [hp, hm])
  rw [ht]
  exact raiseStop_owed _ _ _

theorem limitTest_acts_of_latched (c : Chan) (side : Side) (h : Latched n) :
    Acts [.raise .hardLimit, .owe] n (limitTest c side n) := by
  have ho (b : Bool) : Acts [.raise .hardLimit, .owe] n (onAx c (setMark side b) n) :=
    .ofUnit (onAx_unit c _ n (setMark_frames side b))
  exact .ite ((ho true).trans (raiseStop_acts_of_latched _ _ (onAx_latched h))) (.ite (ho false) .refl)

/-- A channel with its clamp from its sensors and its drive fault input taken. -/
def clampAndDrive (c : Chan) (p : AxisParams) (n : Node) : Node :=
  if (axPins c n.pins).fault then driveFault c (onAx c (clampAtStart p (axPins c n.pins)) n)
  else onAx c (clampAtStart p (axPins c n.pins)) n

theorem axisAtStart_eq (c : Chan) (p : AxisParams) (n : Node) :
    axisAtStart c p n = limitTest c .minus (limitTest c .plus (clampAndDrive c p n)) := rfl

theorem driveTo_latched {c : Chan} {d : DriveState} (h : Latched n) : Latched (driveTo c d n) := onAx_latched h

theorem clampAndDrive_latched {c : Chan} {p : AxisParams} (h : Latched n) : Latched (clampAndDrive c p n) :=
  .ite (driveFault_latched _ _) (onAx_latched h)

theorem clampAndDrive_only (c : Chan) (p : AxisParams) (h : Latched n) :
    onlyChanges (axisParts c) n (clampAndDrive c p n) := by
  have ho : onlyChanges (axisParts c) n (onAx c (clampAtStart p (axPins c n.pins)) n) :=
    onlyChanges_mono (by simp) (onAx_only c _ n)
  unfold clampAndDrive
  split
  · refine onlyChanges_trans ho ?_
    exact onlyChanges_both (onAx_only c _ _) (raiseStop_only_of_latched _ _ (driveTo_latched (onAx_latched h)))
      (by simp) (by simp)
  · exact ho

theorem clampAndDrive_acts (c : Chan) (p : AxisParams) (h : Latched n) :
    Acts [.raise .driveFault, .owe] n (clampAndDrive c p n) := by
  have ho : Acts [.raise .driveFault, .owe] n (onAx c (clampAtStart p (axPins c n.pins)) n) :=
    .ofUnit (onAx_unit c _ n (clampAtStart_frames p _))
  refine .ite (ho.trans ?_) ho
  exact (Acts.ofUnit (onAx_unit c _ _ fun _ => setDrive_frames _ _ _)).trans
    (raiseStop_acts_of_latched _ _ (driveTo_latched (onAx_latched h)))

theorem clampAndDrive_getAx (c : Chan) (p : AxisParams) (h : Latched n) : ∃ rest,
    getAx c (clampAndDrive c p n) = if (axPins c n.pins).fault then
      setDrive rest .faulted (clampAtStart p (axPins c n.pins) (getAx c n))
      else clampAtStart p (axPins c n.pins) (getAx c n) := by
  refine ⟨chainAtRest (onAx c (clampAtStart p (axPins c n.pins)) n), ?_⟩
  unfold clampAndDrive
  split
  · rw [driveFault, raiseStop_getAx c _ _ (driveTo_latched (onAx_latched h)), driveTo, getAx_onAx_same, getAx_onAx_same]
  · rw [getAx_onAx_same]

theorem clampAndDrive_condIn (c : Chan) (p : AxisParams) (h : Latched n) {x : Cond} (hx : x ≠ .txqOverflow) :
    condIn x (clampAndDrive c p n).cu.own =
      (condIn x n.cu.own || (decide (x = .driveFault) && (axPins c n.pins).fault)) := by
  unfold clampAndDrive
  split
  · rename_i hf
    rw [driveFault, raiseStop_condIn_of_latched _ _ (driveTo_latched (onAx_latched h)) hx, hf]
    simp [driveTo]
  · rename_i hf
    simp [hf]

theorem clampAndDrive_owed (c : Chan) (p : AxisParams) (h : (axPins c n.pins).fault = true) :
    (clampAndDrive c p n).cu.owed = true := by
  rw [clampAndDrive, if_pos h]
  exact raiseStop_owed _ _ _

theorem pins_of_only {ps : List Part} {m : Node} (h : onlyChanges ps n m) (hp : Part.pins ∉ ps := by decide) :
    m.pins = n.pins := h .pins hp (by decide)

theorem par_of_only {ps : List Part} {m : Node} (h : onlyChanges ps n m) (hp : Part.params ∉ ps := by decide) :
    m.par = n.par := h .params hp (by decide)

theorem axisParts_unused (c : Chan) (h : onlyChanges (axisParts c) n m) : m.pins = n.pins ∧ m.par = n.par :=
  ⟨pins_of_only h (by cases c <;> decide), par_of_only h (by cases c <;> decide)⟩

theorem setDrive_view (rest : Bool) (d : DriveState) (a : Axis) :
    axisView (setDrive rest d a) = (d, (axisView a).2) := by
  have hd : axisView (dropMotion rest a) = axisView a := by
    unfold dropMotion
    split <;> rfl
  have hb : axisView (if a.drive = .enabled then dropMotion rest a else a) = axisView a := by
    split
    · exact hd
    · rfl
  by_cases h : a.drive = d
  · rw [setDrive, if_pos h]
    exact congrArg (fun k => (k, (axisView a).2)) h
  · rw [setDrive, if_neg h]
    exact congrArg (fun v => (d, v.2)) hb

/-- The clamp state of a channel from its sensors (R126). -/
def clampRead (p : AxisParams) (pin : AxisPins) : ClampState :=
  if p.clampFitted = false then .unclamped
  else if pin.clamped && !pin.unclamped then .clamped
  else if pin.unclamped && !pin.clamped then .unclamped else .clamping

theorem clampAtStart_reset (p : AxisParams) (pin : AxisPins) (comp : List CompEntry) :
    axisView (clampAtStart p pin (Axis.reset comp)) =
      (.disabled, comp, clampRead p pin, if clampRead p pin = .clamping then 2000 else 0, false, false) := by
  unfold clampAtStart clampRead
  cases p.clampFitted
  · rfl
  cases pin.clamped && !pin.unclamped
  · cases pin.unclamped && !pin.clamped
    · rfl
    · rfl
  · rfl

theorem startedAxis_reset (p : AxisParams) (pin : AxisPins) (rest : Bool) (comp : List CompEntry) :
    axisView (startedAxis p pin rest (Axis.reset comp)) =
      (if pin.fault then .faulted else .disabled, comp, clampRead p pin,
        if clampRead p pin = .clamping then 2000 else 0, pin.limPlus, pin.limMinus) := by
  have hc := clampAtStart_reset p pin comp
  have hd := setDrive_view rest .faulted (clampAtStart p pin (Axis.reset comp))
  have hm (a : Axis) : axisView (setMark .minus pin.limMinus (setMark .plus pin.limPlus a)) =
      ((axisView a).1, (axisView a).2.1, (axisView a).2.2.1, (axisView a).2.2.2.1, pin.limPlus, pin.limMinus) := rfl
  unfold startedAxis
  simp only [hm]
  split
  · rw [hd, hc]
  · rw [hc]

/-- Neither limit input is marked. -/
def Unmarked (a : Axis) : Prop := a.markPlus = false ∧ a.markMinus = false

theorem unmarked_of_view {a b : Axis} (h : (axisView b).2 = (axisView a).2) (ha : Unmarked a) : Unmarked b := by
  simp only [axisView, Prod.mk.injEq] at h
  obtain ⟨-, -, -, hp, hm⟩ := h
  exact ⟨hp.trans ha.1, hm.trans ha.2⟩

theorem clampAndDrive_unmarked (c : Chan) (p : AxisParams) (h : Latched n) (hm : Unmarked (getAx c n)) :
    Unmarked (getAx c (clampAndDrive c p n)) := by
  obtain ⟨rest, hr⟩ := clampAndDrive_getAx c p h
  have hc : Unmarked (clampAtStart p (axPins c n.pins) (getAx c n)) := by
    unfold clampAtStart
    split_ifs <;> exact hm
  rw [hr]
  split
  · exact unmarked_of_view (by rw [setDrive_view]) hc
  · exact hc

theorem axisAtStart_only (c : Chan) (p : AxisParams) (h : Latched n) :
    onlyChanges (axisParts c) n (axisAtStart c p n) := by
  have hc : Latched (clampAndDrive c p n) := clampAndDrive_latched h
  exact onlyChanges_trans (clampAndDrive_only c p h) (onlyChanges_trans (limitTest_only_of_latched c .plus hc)
    (limitTest_only_of_latched c .minus (limitTest_latched hc)))

/-- What the inputs of a channel raise. -/
abbrev axisActs : List Act := [.raise .driveFault, .raise .hardLimit, .owe]

theorem axisAtStart_acts (c : Chan) (p : AxisParams) (h : Latched n) : Acts axisActs n (axisAtStart c p n) := by
  have hc : Latched (clampAndDrive c p n) := clampAndDrive_latched h
  exact (((clampAndDrive_acts c p h).mono (by simp)).andThen (limitTest_acts_of_latched c .plus hc)).andThen
    (limitTest_acts_of_latched c .minus (limitTest_latched hc))

theorem axisAtStart_getAx (c : Chan) (p : AxisParams) (h : Latched n) : ∃ rest,
    getAx c (axisAtStart c p n) = startedAxis p (axPins c n.pins) rest (getAx c n) := by
  have hc : Latched (clampAndDrive c p n) := clampAndDrive_latched h
  obtain ⟨rest, hr⟩ := clampAndDrive_getAx c p h
  obtain ⟨hp1, -⟩ := axisParts_unused c (clampAndDrive_only c p h)
  obtain ⟨hp2, -⟩ := axisParts_unused c (limitTest_only_of_latched c .plus hc)
  refine ⟨rest, ?_⟩
  rw [axisAtStart_eq, limitTest_getAx c .minus (limitTest_latched hc), limitTest_getAx c .plus hc, hp2, hp1, hr]
  rfl

/-- The conditions that a channel's inputs raise, from limit marks that are clear. -/
theorem axisAtStart_condIn (c : Chan) (p : AxisParams) (h : Latched n) (hm : Unmarked (getAx c n)) {x : Cond}
    (hx : x ≠ .txqOverflow) : condIn x (axisAtStart c p n).cu.own = (condIn x n.cu.own ||
      (decide (x = .hardLimit) && ((axPins c n.pins).limPlus || (axPins c n.pins).limMinus)) ||
      (decide (x = .driveFault) && (axPins c n.pins).fault)) := by
  have hc : Latched (clampAndDrive c p n) := clampAndDrive_latched h
  obtain ⟨hp1, -⟩ := axisParts_unused c (clampAndDrive_only c p h)
  obtain ⟨hp2, -⟩ := axisParts_unused c (limitTest_only_of_latched c .plus hc)
  obtain ⟨hplus, hminus⟩ := clampAndDrive_unmarked c p h hm
  rw [axisAtStart_eq, limitTest_condIn c .minus (limitTest_latched hc) hx, limitTest_condIn c .plus hc hx,
    clampAndDrive_condIn c p h hx, limitTest_getAx c .plus hc, hp2, hp1]
  simp only [limitPin, limitMark, setMark, hplus, hminus, Bool.not_false, Bool.and_true]
  cases decide (x = .hardLimit) <;> simp [Bool.or_assoc, Bool.or_comm, Bool.or_left_comm]

theorem axisAtStart_owed (c : Chan) (p : AxisParams) (h : Latched n) (hm : Unmarked (getAx c n))
    (ha : ((axPins c n.pins).limPlus || (axPins c n.pins).limMinus || (axPins c n.pins).fault) = true) :
    (axisAtStart c p n).cu.owed = true := by
  have hc : Latched (clampAndDrive c p n) := clampAndDrive_latched h
  have hl : Latched (limitTest c .plus (clampAndDrive c p n)) := limitTest_latched hc
  obtain ⟨hp1, -⟩ := axisParts_unused c (clampAndDrive_only c p h)
  obtain ⟨hp2, -⟩ := axisParts_unused c (limitTest_only_of_latched c .plus hc)
  obtain ⟨hplus, hminus⟩ := clampAndDrive_unmarked c p h hm
  have ha1 := limitTest_acts_of_latched c .plus hc
  have ha2 := limitTest_acts_of_latched c .minus hl
  simp only [Bool.or_eq_true, or_assoc] at ha
  rw [axisAtStart_eq]
  rcases ha with ha | ha | ha
  · exact ha2.owed (limitTest_owed c .plus (by rw [hp1]; exact ha) hplus)
  · refine limitTest_owed c .minus (by rw [hp2, hp1]; exact ha) ?_
    rw [limitTest_getAx c .plus hc]
    exact hminus
  · exact ha2.owed (ha1.owed (clampAndDrive_owed c p ha))

/-- A channel's inputs taken where the channel is used. -/
def axisStarted (c : Chan) (n : Node) : Node :=
  match axParams c n with
  | some p => axisAtStart c p n
  | none => n

theorem forAxes_axisAtStart (n : Node) : forAxes axisAtStart n = axisStarted .ax1 (axisStarted .ax0 n) := rfl

theorem axisStarted_some {c : Chan} {p : AxisParams} (h : axParams c n = some p) :
    axisStarted c n = axisAtStart c p n := by simp [axisStarted, h]

theorem axisStarted_none {c : Chan} (h : axParams c n = none) : axisStarted c n = n := by simp [axisStarted, h]

theorem axisStarted_latched (c : Chan) (h : Latched n) : Latched (axisStarted c n) := by
  unfold axisStarted
  split
  · exact axisAtStart_latched h
  · exact h

theorem axisStarted_only (c : Chan) (h : Latched n) : onlyChanges (axisParts c) n (axisStarted c n) := by
  unfold axisStarted
  split
  · exact axisAtStart_only c _ h
  · exact onlyChanges_refl _ n

theorem axisStarted_acts (c : Chan) (h : Latched n) : Acts axisActs n (axisStarted c n) := by
  unfold axisStarted
  split
  · exact axisAtStart_acts c _ h
  · exact .refl

/-- Whether an input of a used channel is as `test` asks. -/
def usedPin (test : AxisPins → Bool) (c : Chan) (n : Node) : Bool :=
  (axParams c n).isSome && test (axPins c n.pins)

theorem axisStarted_condIn (c : Chan) (h : Latched n) (hm : Unmarked (getAx c n)) {x : Cond} (hx : x ≠ .txqOverflow) :
    condIn x (axisStarted c n).cu.own = (condIn x n.cu.own ||
      (decide (x = .hardLimit) && usedPin (fun pin => pin.limPlus || pin.limMinus) c n) ||
      (decide (x = .driveFault) && usedPin AxisPins.fault c n)) := by
  cases hp : axParams c n with
  | none => simp [axisStarted_none hp, usedPin, hp]
  | some p => simp [axisStarted_some hp, axisAtStart_condIn c p h hm hx, usedPin, hp]

theorem axisStarted_owed (c : Chan) (h : Latched n) (hm : Unmarked (getAx c n))
    (hu : usedPin (fun pin => pin.limPlus || pin.limMinus || pin.fault) c n = true) :
    (axisStarted c n).cu.owed = true := by
  obtain ⟨hs, ht⟩ := (Bool.and_eq_true _ _).mp hu
  obtain ⟨p, hp⟩ := Option.isSome_iff_exists.1 hs
  rw [axisStarted_some hp]
  exact axisAtStart_owed c p h hm ht

/-! ### The gearbox (R138, R147) -/

/-- The spindle unit with its sensor levels and the reference range it takes without an engaged one. -/
def sensorsTaken (p : SpindleParams) (n : Node) : Node :=
  { n with sg := { sensorsAtStart n.pins.shifter n.sg with refRange := smallestRatio p } }

theorem spindleAtStart_some {p : SpindleParams} (h : n.par.spindle = some p) :
    spindleAtStart n = gearFromPattern p (sensorsTaken p n) := by
  unfold spindleAtStart
  rw [h]
  rfl

theorem spindleAtStart_none (h : n.par.spindle = none) : spindleAtStart n = n := by
  unfold spindleAtStart
  rw [h]

/-- Gearbox state and reference range follow the pattern of the sensors, with no speed commanded off an engaged
range. -/
def GearStarted (p : SpindleParams) (pins : ShifterPins) (g : SG) : Prop :=
  g.a1 = ⟨pins.a1, 0⟩ ∧ g.a2 = ⟨pins.a2, 0⟩ ∧ g.b1 = ⟨pins.b1, 0⟩ ∧ g.b2 = ⟨pins.b2, 0⟩ ∧
    match patternOf p g with
    | .valid r => g.gear = .engaged r ∧ g.refRange = r
    | .opened => g.gear = .unknown ∧ g.refRange = smallestRatio p
    | .conflict _ => g.gear = .gearFault ∧ g.refRange = smallestRatio p

theorem gearStarted_of_view {p : SpindleParams} {pins : ShifterPins} {g h : SG} (hv : gearView h = gearView g)
    (hg : GearStarted p pins g) : GearStarted p pins h := by
  simp only [gearView, Prod.mk.injEq] at hv
  obtain ⟨h1, h2, h3, h4, h5, h6⟩ := hv
  have ha : readingOf .a h = readingOf .a g := by simp only [readingOf, h3, h4]
  have hb : readingOf .b h = readingOf .b g := by simp only [readingOf, h5, h6]
  have hp : patternOf p h = patternOf p g := by rw [patternOf, ha, hb, patternOf]
  unfold GearStarted at hg ⊢
  rwa [hp, h1, h2, h3, h4, h5, h6]

theorem setGear_pattern (g : GearState) (p : SpindleParams) (s : SG) : patternOf p (setGear g s) = patternOf p s := by
  cases g <;> rfl

theorem gearFromPattern_sensors (p : SpindleParams) (n : Node) :
    GearStarted p n.pins.shifter (gearFromPattern p (sensorsTaken p n)).sg := by
  have hs (g : GearState) : (setGear g (sensorsTaken p n).sg).a1 = ⟨n.pins.shifter.a1, 0⟩ ∧
      (setGear g (sensorsTaken p n).sg).a2 = ⟨n.pins.shifter.a2, 0⟩ ∧
      (setGear g (sensorsTaken p n).sg).b1 = ⟨n.pins.shifter.b1, 0⟩ ∧
      (setGear g (sensorsTaken p n).sg).b2 = ⟨n.pins.shifter.b2, 0⟩ := by
    cases g <;> exact ⟨rfl, rfl, rfl, rfl⟩
  unfold gearFromPattern
  cases hp : patternOf p (sensorsTaken p n).sg with
  | valid r =>
    obtain ⟨h1, h2, h3, h4⟩ := hs (.engaged r)
    refine ⟨h1, h2, h3, h4, ?_⟩
    simp only [setGear_pattern, hp]
    exact ⟨rfl, rfl⟩
  | opened =>
    obtain ⟨h1, h2, h3, h4⟩ := hs .unknown
    refine ⟨h1, h2, h3, h4, ?_⟩
    simp only [setGear_pattern, hp]
    exact ⟨rfl, rfl⟩
  | conflict sh =>
    refine gearStarted_of_view (gearView_of_only (raiseHold_only _ _ _) (by simp)) ?_
    obtain ⟨h1, h2, h3, h4⟩ := hs .gearFault
    refine ⟨h1, h2, h3, h4, ?_⟩
    simp only [setGear_pattern, hp]
    exact ⟨rfl, rfl⟩

/-- A shifter with both its levels active. -/
def sensorsClash (pins : ShifterPins) : Bool := (pins.a1 && pins.a2) || (pins.b1 && pins.b2)

theorem forkReading_conflict (a b : Bool) : forkReading a b = .conflict ↔ (a && b) = true := by
  cases a <;> cases b <;> simp [forkReading]

theorem patternOf_conflict (p : SpindleParams) (g : SG) :
    (∃ sh, patternOf p g = .conflict sh) ↔
      ((g.a1.level && g.a2.level) || (g.b1.level && g.b2.level)) = true := by
  unfold patternOf
  simp only [readingOf, forkReading_conflict]
  split_ifs with ha hb
  · simp [ha]
  · simp [hb]
  · simp only [ha, hb, Bool.or_self, Bool.false_eq_true, iff_false, not_exists]
    intro sh
    split <;> simp

theorem gearFromPattern_condIn (p : SpindleParams) (n : Node) {x : Cond} (hx : x ≠ .txqOverflow) :
    condIn x (gearFromPattern p (sensorsTaken p n)).cu.own =
      (condIn x n.cu.own || (decide (x = .gearFault) && sensorsClash n.pins.shifter)) := by
  have hc : (∃ sh, patternOf p (sensorsTaken p n).sg = .conflict sh) ↔ sensorsClash n.pins.shifter = true :=
    patternOf_conflict p (sensorsTaken p n).sg
  unfold gearFromPattern
  cases hp : patternOf p (sensorsTaken p n).sg with
  | valid r =>
    have hf : sensorsClash n.pins.shifter = false := by simpa [hp] using hc
    simp [hf, sensorsTaken]
  | opened =>
    have hf : sensorsClash n.pins.shifter = false := by simpa [hp] using hc
    simp [hf, sensorsTaken]
  | conflict sh =>
    have ht : sensorsClash n.pins.shifter = true := hc.1 ⟨sh, hp⟩
    rw [ht, Bool.and_true]
    exact raiseHold_condIn _ _ _ hx

theorem spindleAtStart_only (n : Node) : onlyChanges [.spindle, .conds] n (spindleAtStart n) := by
  unfold spindleAtStart
  split
  · exact onlyChanges_both (withSg_only _ n) (gearFromPattern_only _ _) (by simp) (by simp)
  · exact onlyChanges_refl _ n

theorem spindleAtStart_acts (n : Node) : Acts [.raise .gearFault, .held] n (spindleAtStart n) := by
  unfold spindleAtStart
  split
  · exact (Acts.ofUnit {}).trans (gearFromPattern_acts _ _)
  · exact .refl

theorem spindleAtStart_condIn (n : Node) {x : Cond} (hx : x ≠ .txqOverflow) :
    condIn x (spindleAtStart n).cu.own = (condIn x n.cu.own ||
      (decide (x = .gearFault) && (n.par.spindle.isSome && sensorsClash n.pins.shifter))) := by
  cases hp : n.par.spindle with
  | none => simp [spindleAtStart_none hp]
  | some p => simp [spindleAtStart_some hp, gearFromPattern_condIn p n hx]

/-! ### Coolant and pendant (R149, R162, R163, R167, R175) -/

theorem coolantAtStart_only (n : Node) : onlyChanges [.coolant, .conds] n (coolantAtStart n) := by
  have h : onlyChanges [.coolant, .conds] n
      { n with cl := { n.cl with flow := ⟨n.pins.flow, 0⟩, tank := ⟨n.pins.tankLow, 0⟩ } } :=
    onlyChanges_mono (by simp) (withCl_only _ n)
  unfold coolantAtStart
  simp only
  split_ifs
  · exact onlyChanges_trans h (onlyChanges_mono (by simp) (raiseWarn_only _ _ _))
  · exact h
  · exact onlyChanges_refl _ n

theorem coolantAtStart_acts (n : Node) : Acts [.raise .tankLow] n (coolantAtStart n) :=
  .ite (.ite ((Acts.ofUnit {}).trans (raiseWarn_acts _ _ _)) (.ofUnit {})) .refl

theorem coolantAtStart_condIn (n : Node) {x : Cond} (hx : x ≠ .txqOverflow) :
    condIn x (coolantAtStart n).cu.own = (condIn x n.cu.own ||
      (decide (x = .tankLow) && (n.par.coolant.isSome && n.pins.tankLow))) := by
  unfold coolantAtStart
  simp only
  split_ifs with hc ht
  · rw [raiseWarn_condIn _ _ _ hx, hc, ht]
    simp
  · simp [ht]
  · simp [hc]

theorem coolantAtStart_inputs (h : n.par.coolant.isSome = true) :
    (coolantAtStart n).cl.flow = ⟨n.pins.flow, 0⟩ ∧ (coolantAtStart n).cl.tank = ⟨n.pins.tankLow, 0⟩ := by
  have hw (m : Node) : (raiseWarn .tankLow 0 m).cl = m.cl := raiseWarn_only _ _ m .coolant (by simp) (by decide)
  unfold coolantAtStart
  simp only [h, if_true]
  split
  · rw [hw]
    exact ⟨rfl, rfl⟩
  · exact ⟨rfl, rfl⟩

theorem pendantAtStart_only (n : Node) : onlyChanges [.pendant] n (pendantAtStart n) := by
  unfold pendantAtStart
  split
  · exact withPd_only _ n
  · exact onlyChanges_refl _ n

theorem pendantAtStart_acts (n : Node) : Acts [] n (pendantAtStart n) := .ite (.ofUnit {}) .refl

end

end Sys2Proof.Machine
end

section
/-! PROOF. The start state that an image reading decides (R26 to R30, R34). -/

namespace Sys2Proof.Machine

-- The text is checked as one file under a data limit that many waiting threads would exceed.
set_option Elab.async false

/-! ### What both start states have in common -/

/-- What a node `n` with the inputs read has at the end of LOADING, whatever start state was decided. -/
structure Stands (inputs : Pins) (n t : Node) : Prop where
  line : t.lc.state = .joining
  held : t.cu.held = n.cu.held
  stopped : t.cu.stopped = true
  chainOpen : t.cu.chainOpen = inputs.chainOpen
  chainRun : t.cu.chainRun = 0
  stopInput : condIn .stopInput t.cu.own = (condIn .stopInput n.cu.own || inputs.chainOpen)
  gearLost : condIn .gearLost t.cu.own = condIn .gearLost n.cu.own
  own : n.nt.entries.length = 16 → (entryAt (me n) t).state = .live

/-- Conditions that the own entry and what follows the command neither raise nor clear. -/
theorem finish_ownLive_condIn {n : Node} (h : Latched n) {x : Cond} (hx : x ≠ .txqOverflow)
    (hr : Act.raise x ∉ ownActs) (hc : Act.clear x ∉ ownActs) :
    condIn x (finish (ownLive n)).cu.own = condIn x n.cu.own :=
  (condIn_of_onlyChanges (finish_only _) (by simp) hx).trans ((ownLive_acts_of_latched h).condIn hx hr hc)

theorem finish_ownLive_sameInputs {n : Node} (h : Latched n) : SameInputs n (finish (ownLive n)) :=
  (ownLive_sameInputs_of_latched h).trans (sameInputs_of_only (finish_only _))

theorem finish_owed {n : Node} (h : n.cu.owed = true) : (finish n).cu.owed = true :=
  (show keeps .stopInfo n (finish n) from finish_only n .stopInfo (by simp) (by decide)).1.trans h

theorem finish_ownLive_owed {n : Node} (h : Latched n) (ho : n.cu.owed = true) :
    (finish (ownLive n)).cu.owed = true := finish_owed ((ownLive_acts_of_latched h).owed ho)

/-- The parts that the inputs' units and their conditions are in. -/
abbrev unitParts : List Part := [.conds, .stopInfo, .channel0, .channel1, .spindle, .coolant, .pendant]

/-- Kinds of step that the units' inputs bring. -/
abbrev unitActs : List Act := axisActs ++ [.raise .gearFault, .held, .raise .tankLow]

/-- The end of LOADING from a node `a` whose chain is read first and whose units, up to `m`, take their inputs. -/
theorem stands_of {inputs : Pins} {n a m : Node} (hp : a.pins = inputs) (hl : Latched a) (hj : a.lc.state = .joining)
    (hh : a.cu.held = n.cu.held) (hn : me a = me n) (he : a.nt.entries = n.nt.entries)
    (hc : ∀ x ∈ [Cond.stopInput, .gearLost], condIn x a.cu.own = condIn x n.cu.own)
    (ha : Acts unitActs (chainAtStart a) m) (ho : onlyChanges unitParts (chainAtStart a) m) :
    Stands inputs n (finish (ownLive m)) := by
  have h1 := chainAtStart_acts_of_latched hl
  have ho1 := onlyChanges_trans (onlyChanges_mono (by simp) (chainAtStart_only_of_latched hl)) ho
  have hm : Latched m := ha.latched (chainAtStart_latched hl)
  have h3 := ownLive_acts_of_latched hm
  have hf := finish_only (ownLive m)
  have hch : keeps .stopInfo (ownLive m) (finish (ownLive m)) := hf .stopInfo (by simp) (by decide)
  obtain ⟨-, -, hco, hcr⟩ := hch
  obtain ⟨q, t, e, hline⟩ := ((h1.sameLine.trans ha.sameLine).trans h3.sameLine).trans (finish_sameLine _)
  have hcond {x : Cond} (hx : x ≠ .txqOverflow) (hr : Act.raise x ∉ ownActs ++ unitActs)
      (hcl : Act.clear x ∉ ownActs ++ unitActs) :
      condIn x (finish (ownLive m)).cu.own = condIn x (chainAtStart a).cu.own := by
    have hs (w : Act) (hw : w ∉ ownActs ++ unitActs) : w ∉ ownActs ∧ w ∉ unitActs :=
      ⟨fun k => hw (List.mem_append_left _ k), fun k => hw (List.mem_append_right _ k)⟩
    exact (finish_ownLive_condIn hm hx (hs _ hr).1 (hs _ hcl).1).trans (ha.condIn hx (hs _ hr).2 (hs _ hcl).2)
  have hent : m.nt.entries = n.nt.entries :=
    (show keeps .table a m from ho1 .table (by simp) (by decide)).1.trans he
  have hme : me m = me n :=
    (congrArg (fun su : StartUp => su.node.val) (show m.su = a.su from ho1 .start (by simp) (by decide))).trans hn
  constructor
  case line => rw [hline]; exact hj
  case held =>
    exact (show _ = (ownLive m).cu.held from hf .held (by simp) (by decide)).trans
      (h3.held_eq.trans (ha.held_eq.trans (h1.held_eq.trans hh)))
  case stopped => exact finish_latched (h3.latched hm)
  case chainOpen =>
    exact hco.trans (h3.chain_eq.1.trans (ha.chain_eq.1.trans (h1.chain_eq.1.trans (congrArg Pins.chainOpen hp))))
  case chainRun => exact hcr.trans (h3.chain_eq.2.trans (ha.chain_eq.2.trans h1.chain_eq.2))
  case stopInput =>
    rw [hcond (by decide) (by decide) (by decide), chainAtStart_condIn_of_latched hl (by decide), hp,
      hc _ (by decide)]
    simp
  case gearLost =>
    rw [hcond (by decide) (by decide) (by decide), chainAtStart_condIn_of_latched hl (by decide), hc _ (by decide)]
    simp
  case own =>
    intro hlen
    have hl' := ownLive_entry (n := m) (by rw [hent]; exact hlen)
    have hfe := sameEntries_of_only hf
    rw [← hme]
    simpa only [entryAt, show (finish (ownLive m)).nt.entries = (ownLive m).nt.entries from hfe] using hl'

/-! ### A passing reading (R28, R30) -/

/-- The units with their inputs taken. -/
def unitsStarted (n : Node) : Node :=
  pendantAtStart (coolantAtStart (spindleAtStart (axisStarted .ax1 (axisStarted .ax0 (chainAtStart n)))))

theorem configured_eq (l : Loaded) (n : Node) : configured l n = ownLive (unitsStarted (imageTaken l n)) := by
  rw [unitsStarted, ← forAxes_axisAtStart]
  rfl

section
variable {n : Node}

theorem axesStarted_acts (h : Latched n) : Acts axisActs n (axisStarted .ax1 (axisStarted .ax0 n)) :=
  (axisStarted_acts .ax0 h).trans (axisStarted_acts .ax1 (axisStarted_latched .ax0 h))

theorem axesStarted_only (h : Latched n) :
    onlyChanges [.conds, .stopInfo, .channel0, .channel1] n (axisStarted .ax1 (axisStarted .ax0 n)) :=
  onlyChanges_both (axisStarted_only .ax0 h) (axisStarted_only .ax1 (axisStarted_latched .ax0 h)) (by decide) (by decide)

/-- What comes after the channels: gearbox, coolant, pendant. -/
def unitsAfterAxes (n : Node) : Node := pendantAtStart (coolantAtStart (spindleAtStart n))

theorem unitsAfterAxes_acts (n : Node) :
    Acts [.raise .gearFault, .held, .raise .tankLow] n (unitsAfterAxes n) :=
  (((spindleAtStart_acts n).mono (by simp)).andThen (coolantAtStart_acts _)).andThen (pendantAtStart_acts _)

theorem unitsAfterAxes_only (n : Node) : onlyChanges [.spindle, .coolant, .pendant, .conds] n (unitsAfterAxes n) :=
  onlyChanges_both (onlyChanges_both (spindleAtStart_only n) (coolantAtStart_only _) (ps := [.spindle, .coolant, .conds])
    (by simp) (by simp)) (pendantAtStart_only _) (by simp) (by simp)

theorem unitsAfterAxes_condIn (n : Node) {x : Cond} (hx : x ≠ .txqOverflow) :
    condIn x (unitsAfterAxes n).cu.own = (condIn x n.cu.own ||
      (decide (x = .gearFault) && (n.par.spindle.isSome && sensorsClash n.pins.shifter)) ||
      (decide (x = .tankLow) && (n.par.coolant.isSome && n.pins.tankLow))) := by
  have ho := spindleAtStart_only n
  have hp : condIn x (unitsAfterAxes n).cu.own = condIn x (coolantAtStart (spindleAtStart n)).cu.own :=
    condIn_of_onlyChanges (pendantAtStart_only _) (by simp) hx
  rw [hp, coolantAtStart_condIn _ hx, spindleAtStart_condIn _ hx, pins_of_only ho, par_of_only ho]

theorem axesStarted_condIn (h : Latched n) (h0 : Unmarked n.ax0) (h1 : Unmarked n.ax1) {x : Cond}
    (hx : x ≠ .txqOverflow) : condIn x (axisStarted .ax1 (axisStarted .ax0 n)).cu.own = (condIn x n.cu.own ||
      (decide (x = .hardLimit) && (usedPin (fun pin => pin.limPlus || pin.limMinus) .ax0 n ||
        usedPin (fun pin => pin.limPlus || pin.limMinus) .ax1 n)) ||
      (decide (x = .driveFault) && (usedPin AxisPins.fault .ax0 n || usedPin AxisPins.fault .ax1 n))) := by
  have ho := axisStarted_only .ax0 h
  obtain ⟨hp, hr⟩ := axisParts_unused .ax0 ho
  have hm : Unmarked (getAx .ax1 (axisStarted .ax0 n)) := by rwa [getAx_of_only ho (by decide)]
  have hu (test : AxisPins → Bool) : usedPin test .ax1 (axisStarted .ax0 n) = usedPin test .ax1 n := by
    simp only [usedPin, axParams, axPins, hp, hr]
  rw [axisStarted_condIn .ax1 (axisStarted_latched .ax0 h) hm hx, axisStarted_condIn .ax0 h h0 hx, hu, hu]
  cases decide (x = .hardLimit) <;> simp [Bool.or_assoc, Bool.or_left_comm, Bool.and_or_distrib_left]

theorem axesStarted_owed (h : Latched n) (h0 : Unmarked n.ax0) (h1 : Unmarked n.ax1)
    (hu : (usedPin (fun pin => pin.limPlus || pin.limMinus || pin.fault) .ax0 n ||
      usedPin (fun pin => pin.limPlus || pin.limMinus || pin.fault) .ax1 n) = true) :
    (axisStarted .ax1 (axisStarted .ax0 n)).cu.owed = true := by
  have ho := axisStarted_only .ax0 h
  obtain ⟨hp, hr⟩ := axisParts_unused .ax0 ho
  have hm : Unmarked (getAx .ax1 (axisStarted .ax0 n)) := by rwa [getAx_of_only ho (by decide)]
  have hl := axisStarted_latched .ax0 h
  rcases (Bool.or_eq_true _ _).mp hu with hu | hu
  · exact (axisStarted_acts .ax1 hl).owed (axisStarted_owed .ax0 h h0 hu)
  · refine axisStarted_owed .ax1 hl hm ?_
    simpa only [usedPin, axParams, axPins, hp, hr] using hu

/-- A used channel of a reset after its inputs are taken. -/
theorem axesStarted_view (h : Latched n) {c : Chan} {p : AxisParams} (hp : axParams c n = some p)
    {comp : List CompEntry} (ha : getAx c n = Axis.reset comp) :
    axisView (getAx c (axisStarted .ax1 (axisStarted .ax0 n))) =
      (if (axPins c n.pins).fault then .faulted else .disabled, comp, clampRead p (axPins c n.pins),
        if clampRead p (axPins c n.pins) = .clamping then 2000 else 0, (axPins c n.pins).limPlus,
        (axPins c n.pins).limMinus) := by
  have ho := axisStarted_only .ax0 h
  have hl := axisStarted_latched .ax0 h
  cases c with
  | ax0 =>
    obtain ⟨rest, hr⟩ := axisAtStart_getAx .ax0 p h
    rw [getAx_of_only (axisStarted_only .ax1 hl) (by decide), axisStarted_some hp, hr, ha]
    exact startedAxis_reset p _ rest comp
  | ax1 =>
    obtain ⟨hpin, hpar⟩ := axisParts_unused .ax0 ho
    have hp' : axParams .ax1 (axisStarted .ax0 n) = some p := by rw [← hp]; simp only [axParams, hpar]
    obtain ⟨rest, hr⟩ := axisAtStart_getAx .ax1 p hl
    rw [axisStarted_some hp', hr, getAx_of_only ho (by decide), hpin, ha]
    exact startedAxis_reset p _ rest comp

/-! ### What a passing reading leaves -/

theorem unitsStarted_eq (n : Node) :
    unitsStarted n = unitsAfterAxes (axisStarted .ax1 (axisStarted .ax0 (chainAtStart n))) := rfl

theorem unitsStarted_acts (h : Latched n) : Acts unitActs (chainAtStart n) (unitsStarted n) :=
  ((axesStarted_acts (chainAtStart_latched h)).mono (by simp)).andThen (unitsAfterAxes_acts _)

theorem unitsStarted_only (h : Latched n) : onlyChanges unitParts (chainAtStart n) (unitsStarted n) :=
  onlyChanges_both (axesStarted_only (chainAtStart_latched h)) (unitsAfterAxes_only _) (by simp) (by simp)

theorem unitsStarted_latched (h : Latched n) : Latched (unitsStarted n) :=
  (unitsStarted_acts h).latched (chainAtStart_latched h)

theorem unitsStarted_leaves (h : Latched n) : onlyChanges unitParts n (unitsStarted n) :=
  onlyChanges_trans (onlyChanges_mono (by simp) (chainAtStart_only_of_latched h)) (unitsStarted_only h)

/-- Every condition after the units have taken their inputs. -/
theorem unitsStarted_condIn (h : Latched n) (h0 : Unmarked n.ax0) (h1 : Unmarked n.ax1) {x : Cond}
    (hx : x ≠ .txqOverflow) (hs : x ≠ .stopInput) : condIn x (unitsStarted n).cu.own = (condIn x n.cu.own ||
      (decide (x = .hardLimit) && (usedPin (fun pin => pin.limPlus || pin.limMinus) .ax0 n ||
        usedPin (fun pin => pin.limPlus || pin.limMinus) .ax1 n)) ||
      (decide (x = .driveFault) && (usedPin AxisPins.fault .ax0 n || usedPin AxisPins.fault .ax1 n)) ||
      (decide (x = .gearFault) && (n.par.spindle.isSome && sensorsClash n.pins.shifter)) ||
      (decide (x = .tankLow) && (n.par.coolant.isSome && n.pins.tankLow))) := by
  have hc := chainAtStart_only_of_latched h
  have hl := chainAtStart_latched h
  have ho := axesStarted_only hl
  have hp := pins_of_only hc
  have hr := par_of_only hc
  have e0 : (chainAtStart n).ax0 = n.ax0 := hc .channel0 (by decide) (by decide)
  have e1 : (chainAtStart n).ax1 = n.ax1 := hc .channel1 (by decide) (by decide)
  have hu (test : AxisPins → Bool) (c : Chan) : usedPin test c (chainAtStart n) = usedPin test c n := by
    cases c <;> simp only [usedPin, axParams, axPins, hp, hr]
  rw [unitsStarted_eq, unitsAfterAxes_condIn _ hx, pins_of_only ho, par_of_only ho, hp, hr,
    axesStarted_condIn hl (by rwa [e0]) (by rwa [e1]) hx, hu, hu, hu, hu, chainAtStart_condIn_of_latched h hx]
  simp [hs]

theorem unitsStarted_owed (h : Latched n) (h0 : Unmarked n.ax0) (h1 : Unmarked n.ax1)
    (hu : n.pins.chainOpen = true ∨ (usedPin (fun pin => pin.limPlus || pin.limMinus || pin.fault) .ax0 n ||
      usedPin (fun pin => pin.limPlus || pin.limMinus || pin.fault) .ax1 n) = true) :
    (unitsStarted n).cu.owed = true := by
  have hc := chainAtStart_only_of_latched h
  have hl := chainAtStart_latched h
  have e0 : (chainAtStart n).ax0 = n.ax0 := hc .channel0 (by decide) (by decide)
  have e1 : (chainAtStart n).ax1 = n.ax1 := hc .channel1 (by decide) (by decide)
  rcases hu with hu | hu
  · exact (unitsStarted_acts h).owed (chainAtStart_owed hu)
  · refine (unitsAfterAxes_acts _).owed (axesStarted_owed hl (by rwa [e0]) (by rwa [e1]) ?_)
    simpa only [usedPin, axParams, axPins, pins_of_only hc, par_of_only hc] using hu

theorem unitsStarted_axis (h : Latched n) {c : Chan} {p : AxisParams} (hp : axParams c n = some p)
    {comp : List CompEntry} (ha : getAx c n = Axis.reset comp) :
    axisView (getAx c (unitsStarted n)) =
      (if (axPins c n.pins).fault then .faulted else .disabled, comp, clampRead p (axPins c n.pins),
        if clampRead p (axPins c n.pins) = .clamping then 2000 else 0, (axPins c n.pins).limPlus,
        (axPins c n.pins).limMinus) := by
  have hc := chainAtStart_only_of_latched h
  have hpar : axParams c (chainAtStart n) = some p := by
    rw [← hp]
    cases c <;> simp only [axParams, par_of_only hc]
  have hax : getAx c (chainAtStart n) = Axis.reset comp := (getAx_of_only hc (by cases c <;> decide)).trans ha
  rw [unitsStarted_eq, getAx_of_only (unitsAfterAxes_only _) (by cases c <;> decide),
    axesStarted_view (chainAtStart_latched h) hpar hax, pins_of_only hc]

/-- The node with chain and channels done, as the other units find it. -/
def axesDone (n : Node) : Node := axisStarted .ax1 (axisStarted .ax0 (chainAtStart n))

theorem axesDone_only (h : Latched n) : onlyChanges [.conds, .stopInfo, .channel0, .channel1] n (axesDone n) :=
  onlyChanges_trans (onlyChanges_mono (by simp) (chainAtStart_only_of_latched h))
    (axesStarted_only (chainAtStart_latched h))

theorem unitsStarted_gear (h : Latched n) {p : SpindleParams} (hp : n.par.spindle = some p) :
    GearStarted p n.pins.shifter (unitsStarted n).sg := by
  have ho := axesDone_only h
  have hs : spindleAtStart (axesDone n) = gearFromPattern p (sensorsTaken p (axesDone n)) :=
    spindleAtStart_some (by rw [par_of_only ho, hp])
  have hg := gearFromPattern_sensors p (axesDone n)
  rw [← hs, pins_of_only ho] at hg
  refine gearStarted_of_view ?_ hg
  exact gearView_of_only (onlyChanges_both (coolantAtStart_only _) (pendantAtStart_only _)
    (ps := [.coolant, .conds, .pendant]) (by simp) (by simp)) (by simp)

theorem unitsStarted_coolant (h : Latched n) (hp : n.par.coolant.isSome = true) :
    (unitsStarted n).cl.flow = ⟨n.pins.flow, 0⟩ ∧ (unitsStarted n).cl.tank = ⟨n.pins.tankLow, 0⟩ := by
  have ho := onlyChanges_both (axesDone_only h) (spindleAtStart_only _)
    (ps := [.conds, .stopInfo, .channel0, .channel1, .spindle]) (by simp) (by simp)
  have hc := coolantAtStart_inputs (n := spindleAtStart (axesDone n)) (by rw [par_of_only ho, hp])
  have he : (unitsStarted n).cl = (coolantAtStart (spindleAtStart (axesDone n))).cl :=
    pendantAtStart_only _ .coolant (by simp) (by decide)
  rw [pins_of_only ho] at hc
  rwa [he]

/-- The node as the pendant unit finds it. -/
def coolantDone (n : Node) : Node := coolantAtStart (spindleAtStart (axesDone n))

theorem unitsStarted_pendant (h : Latched n) (hp : n.par.pendant.isSome = true) :
    ∃ pd, (unitsStarted n).pd = readingsAtStart n.pins.pendant pd := by
  have ho := onlyChanges_both (onlyChanges_both (axesDone_only h) (spindleAtStart_only _)
    (ps := [.conds, .stopInfo, .channel0, .channel1, .spindle]) (by simp) (by simp)) (coolantAtStart_only _)
    (ps := [.conds, .stopInfo, .channel0, .channel1, .spindle, .coolant]) (by simp) (by simp)
  refine ⟨(coolantDone n).pd, ?_⟩
  have hu : unitsStarted n = pendantAtStart (coolantDone n) := rfl
  have hpins : (coolantDone n).pins = n.pins := pins_of_only ho
  have hpar : (coolantDone n).par = n.par := par_of_only ho
  rw [hu, pendantAtStart, hpar, if_pos hp, hpins]

end

/-! ### A failing deciding reading (R29, R30) -/

/-- The LIMITED node before its chain is read. -/
def limitedTaken (r : Nat) (n : Node) : Node :=
  raiseStop .imageBad (BitVec.ofNat 8 r) { n with su := { n.su with start := .limited }, par := .limited }

theorem limited_eq (r : Nat) (n : Node) : limited r n = ownLive (chainAtStart (limitedTaken r n)) := rfl

section
variable {n : Node}

theorem limitedTaken_only (r : Nat) (h : Latched n) : onlyChanges [.conds, .stopInfo]
    { n with su := { n.su with start := .limited }, par := .limited } (limitedTaken r n) :=
  raiseStop_only_of_latched _ _ h

theorem limitedTaken_condIn (r : Nat) (h : Latched n) {x : Cond} (hx : x ≠ .txqOverflow) :
    condIn x (limitedTaken r n).cu.own = (condIn x n.cu.own || decide (x = .imageBad)) :=
  raiseStop_condIn_of_latched _ _ (n := { n with su := { n.su with start := .limited }, par := .limited }) h hx

theorem limitedTaken_latched (r : Nat) (n : Node) : Latched (limitedTaken r n) := raiseStop_latched _ _ _

end

/-! ### The reading judged (R26) -/

theorem completes_imageRead {bytes : List Byte} {inputs : Pins} {s : State} {m : Node} {P : Node → Prop}
    (hs : s.node.su.start = .loading) (hm : readingDone bytes inputs s.node = m)
    (h : P (if loaded m then finish m else m)) : completes (.imageReadDone bytes inputs) s P := by
  refine completes_answer rfl ?_
  have hb : memoryAnswers (loaderSends s.node) bytes = bytes := by
    simp [loaderSends, memorySelected, hs, memoryAnswers_read]
  simpa only [hs, if_true, hb, hm] using h

theorem readingDone_good {bytes : List Byte} {inputs : Pins} {n : Node} {l : Loaded}
    (h : judgeImage n.su.node bytes = .good l) :
    readingDone bytes inputs n = configured l { n with pins := inputs } := by simp only [readingDone, h]

theorem readingDone_bad {bytes : List Byte} {inputs : Pins} {n : Node} {r : Nat}
    (h : judgeImage n.su.node bytes = .bad r) : readingDone bytes inputs n =
      if n.su.attempt = 1 then { n with su := { n.su with attempt := 2 } } else limited r { n with pins := inputs } := by
  simp only [readingDone, h]

/-! ### The two start states -/

section
variable {inputs : Pins} {n : Node}

theorem imageTaken_stands (l : Loaded) (h : Latched n) (hj : n.lc.state = .joining) :
    Stands inputs n (finish (configured l { n with pins := inputs })) :=
  stands_of (a := imageTaken l { n with pins := inputs }) rfl h hj rfl rfl rfl (fun _ _ => rfl) (unitsStarted_acts h)
    (unitsStarted_only h)

theorem limited_stands (r : Nat) (h : Latched n) (hj : n.lc.state = .joining) :
    Stands inputs n (finish (limited r { n with pins := inputs })) := by
  have ho := limitedTaken_only (n := { n with pins := inputs }) r h
  obtain ⟨q, t, e, hl⟩ := sameLine_of_onlyChanges ho (by simp)
  have hsu : (limitedTaken r { n with pins := inputs }).su = { n.su with start := .limited } :=
    ho .start (by simp) (by decide)
  refine stands_of (a := limitedTaken r { n with pins := inputs }) (pins_of_only ho) (limitedTaken_latched _ _)
    (by rw [hl]; exact hj) (ho .held (by simp) (by decide)) (by simp only [me, hsu])
    (show keeps .table _ _ from ho .table (by simp) (by decide)).1 (fun x hx => ?_) .refl (onlyChanges_refl _ _)
  have hne : x ≠ .txqOverflow ∧ x ≠ .imageBad := by
    simp only [List.mem_cons, List.not_mem_nil, or_false] at hx
    rcases hx with rfl | rfl <;> decide
  rw [limitedTaken_condIn (n := { n with pins := inputs }) r h hne.1]
  simp [hne.2]

theorem configured_start (l : Loaded) (h : Latched n) : (configured l n).su.start = .configured := by
  have h1 := (ownLive_acts_of_latched (unitsStarted_latched (n := imageTaken l n) h)).su
  have h2 : (unitsStarted (imageTaken l n)).su = (imageTaken l n).su :=
    unitsStarted_leaves (n := imageTaken l n) h .start (by simp) (by decide)
  rw [configured_eq, h1, h2]
  rfl

theorem limited_start (r : Nat) (h : Latched n) : (limited r n).su.start = .limited := by
  have hl := limitedTaken_latched r n
  have h1 := (ownLive_acts_of_latched (chainAtStart_latched hl)).su
  have h2 : (chainAtStart (limitedTaken r n)).su = (limitedTaken r n).su :=
    chainAtStart_only_of_latched hl .start (by simp) (by decide)
  have h3 : (limitedTaken r n).su = { n.su with start := .limited } := limitedTaken_only r h .start (by simp) (by decide)
  rw [limited_eq, h1, h2, h3]

/-- What the units have of their inputs, from their taking them to the end of the command. -/
theorem configured_sameInputs (l : Loaded) (h : Latched n) :
    SameInputs (unitsStarted (imageTaken l n)) (finish (configured l n)) :=
  finish_ownLive_sameInputs (unitsStarted_latched (n := imageTaken l n) h)

theorem configured_params (l : Loaded) (h : Latched n) :
    (finish (configured l n)).par = l.par ∧ (finish (configured l n)).pins = n.pins ∧
      (finish (configured l n)).bq = BQ.reset l.par.headWait := by
  have hi := configured_sameInputs l h
  have ho := unitsStarted_leaves (n := imageTaken l n) h
  have hpar : (unitsStarted (imageTaken l n)).par = l.par := par_of_only ho
  have hq : EmptyQueue (unitsStarted (imageTaken l n)) := by
    have hb : (unitsStarted (imageTaken l n)).bq = BQ.reset l.par.headWait := ho .blocks (by simp) (by decide)
    rw [EmptyQueue, hb, hpar]
  have hp := hi.par.trans hpar
  have hpins : (unitsStarted (imageTaken l n)).pins = n.pins := pins_of_only (n := imageTaken l n) ho
  refine ⟨hp, hi.pins.trans hpins, ?_⟩
  rw [← hp]
  exact hi.blocks hq

theorem configured_condIn (l : Loaded) (h : Latched n) {x : Cond} (hx : x ≠ .txqOverflow) (hs : x ≠ .stopInput)
    (hr : Act.raise x ∉ ownActs) (hc : Act.clear x ∉ ownActs) :
    condIn x (finish (configured l n)).cu.own = (condIn x n.cu.own ||
      (decide (x = .hardLimit) && ((l.par.axis0.isSome && (n.pins.ax0.limPlus || n.pins.ax0.limMinus)) ||
        (l.par.axis1.isSome && (n.pins.ax1.limPlus || n.pins.ax1.limMinus)))) ||
      (decide (x = .driveFault) && ((l.par.axis0.isSome && n.pins.ax0.fault) ||
        (l.par.axis1.isSome && n.pins.ax1.fault))) ||
      (decide (x = .gearFault) && (l.par.spindle.isSome && sensorsClash n.pins.shifter)) ||
      (decide (x = .tankLow) && (l.par.coolant.isSome && n.pins.tankLow))) :=
  (finish_ownLive_condIn (unitsStarted_latched (n := imageTaken l n) h) hx hr hc).trans
    (unitsStarted_condIn (n := imageTaken l n) h ⟨rfl, rfl⟩ ⟨rfl, rfl⟩ hx hs)

theorem configured_owed (l : Loaded) (h : Latched n)
    (hu : n.pins.chainOpen = true ∨
      ((l.par.axis0.isSome && (n.pins.ax0.limPlus || n.pins.ax0.limMinus || n.pins.ax0.fault)) ||
        (l.par.axis1.isSome && (n.pins.ax1.limPlus || n.pins.ax1.limMinus || n.pins.ax1.fault))) = true) :
    (finish (configured l n)).cu.owed = true :=
  finish_ownLive_owed (unitsStarted_latched (n := imageTaken l n) h)
    (unitsStarted_owed (n := imageTaken l n) h ⟨rfl, rfl⟩ ⟨rfl, rfl⟩ hu)

/-- The error map that an image holds for a channel. -/
def errorMap (l : Loaded) : Chan → List CompEntry
  | .ax0 => l.comp0
  | .ax1 => l.comp1

theorem configured_axis (l : Loaded) (h : Latched n) {c : Chan} {p : AxisParams}
    (hp : axParams c (imageTaken l n) = some p) :
    axisView (getAx c (finish (configured l n))) =
      (if (axPins c n.pins).fault then .faulted else .disabled,
        errorMap l c, clampRead p (axPins c n.pins),
        if clampRead p (axPins c n.pins) = .clamping then 2000 else 0, (axPins c n.pins).limPlus,
        (axPins c n.pins).limMinus) := by
  refine ((configured_sameInputs l h).axis c).trans (unitsStarted_axis (n := imageTaken l n) h hp ?_)
  cases c <;> rfl

theorem configured_gear (l : Loaded) (h : Latched n) {p : SpindleParams} (hp : l.par.spindle = some p) :
    GearStarted p n.pins.shifter (finish (configured l n)).sg :=
  gearStarted_of_view (configured_sameInputs l h).gear (unitsStarted_gear (n := imageTaken l n) h hp)

theorem configured_coolant (l : Loaded) (h : Latched n) (hp : l.par.coolant.isSome = true) :
    (finish (configured l n)).cl.flow = ⟨n.pins.flow, 0⟩ ∧
      (finish (configured l n)).cl.tank = ⟨n.pins.tankLow, 0⟩ := by
  obtain ⟨hf, ht⟩ := unitsStarted_coolant (n := imageTaken l n) h hp
  exact ⟨(configured_sameInputs l h).flow.trans hf, (configured_sameInputs l h).tank.trans ht⟩

theorem configured_pendant (l : Loaded) (h : Latched n) (hp : l.par.pendant.isSome = true) :
    ∃ pd, (finish (configured l n)).pd = readingsAtStart n.pins.pendant pd := by
  obtain ⟨pd, hd⟩ := unitsStarted_pendant (n := imageTaken l n) h hp
  exact ⟨pd, (configured_sameInputs l h).pd.trans hd⟩

theorem finish_start (n : Node) : (finish n).su = n.su := finish_only n .start (by simp) (by decide)

/-- Conditions at the LIMITED node. -/
theorem limited_condIn (r : Nat) (h : Latched n) {x : Cond} (hx : x ≠ .txqOverflow) (hs : x ≠ .stopInput)
    (hr : Act.raise x ∉ ownActs) (hc : Act.clear x ∉ ownActs) :
    condIn x (finish (limited r n)).cu.own = (condIn x n.cu.own || decide (x = .imageBad)) := by
  have hl := limitedTaken_latched r n
  refine (finish_ownLive_condIn (chainAtStart_latched hl) hx hr hc).trans ?_
  rw [chainAtStart_condIn_of_latched hl hx, limitedTaken_condIn r h hx]
  simp [hs]

/-- IMAGE_BAD leaves a STOPALL owed, and the record that it fills is kept. -/
theorem limited_report (r : Nat) (h : Latched n) :
    (finish (limited r n)).cu.owed = true ∧ (finish (limited r n)).par = .limited ∧
      (n.cu.record = none → (finish (limited r n)).cu.record =
        some { cond := .imageBad, tick := n.pg.tick, running := runningBlock n, detail := BitVec.ofNat 8 r }) := by
  have hl := limitedTaken_latched r n
  have ha := chainAtStart_acts_of_latched hl
  have hb := ownLive_acts_of_latched (chainAtStart_latched hl)
  refine ⟨finish_owed (hb.owed (ha.owed (raiseStop_owed _ _ _))), ?_, fun hr => ?_⟩
  · exact (par_of_only (finish_only _)).trans (hb.par.trans (ha.par.trans (par_of_only (limitedTaken_only r h))))
  · have hrec := raiseStop_recorded .imageBad (BitVec.ofNat 8 r)
      (n := { n with su := { n.su with start := .limited }, par := .limited }) hr rfl
    exact (finish_recorded (hb.recorded (ha.recorded (n := chainRead (limitedTaken r n)) hrec))).1

end

/-- Settles O8: the chain, the channels and the other units take their inputs one after the other, each leaving what
those before it took, and the reaction to the own entry leaves it all. -/
theorem imageReadingDecidesTheStartState : Obligations.ImageReadingDecidesTheStartState := by
  unfold Obligations.ImageReadingDecidesTheStartState
  intro bytes inputs s hs hj hl
  have hn : Latched { s.node with pins := inputs } := hl
  cases hjd : judgeImage s.node.su.node bytes with
  | good l =>
    have hst := configured_start l hn
    refine completes_imageRead hs (readingDone_good hjd) ?_
    rw [if_pos (by simp [loaded, hst])]
    obtain ⟨hpar, hpins, hbq⟩ := configured_params l hn
    have S := imageTaken_stands (inputs := inputs) l hl hj
    have hc {x : Cond} := configured_condIn l hn (x := x)
    refine ⟨⟨S.line, S.held, S.stopped, S.chainOpen, S.chainRun, S.stopInput, S.gearLost, S.own⟩,
      (congrArg StartUp.start (finish_start _)).trans hst, hpar, hpins, hbq, fun c p hp => ?_, ?_, ?_,
      configured_owed l hn, fun p hp => configured_gear l hn hp, ?_, configured_coolant l hn, ?_, fun hp => ?_⟩
    · have hv := configured_axis l hn (c := c) (p := p) (by cases c <;> exact hp)
      simp only [axisView, Prod.mk.injEq] at hv
      obtain ⟨hd, hcomp, hcl, htm, hplus, hminus⟩ := hv
      exact ⟨hplus, hminus, hd, hcomp.trans (by cases c <;> rfl), hcl, htm.trans (by rw [hcl])⟩
    · exact (hc (by decide) (by decide) (by decide) (by decide)).trans (by simp)
    · exact (hc (by decide) (by decide) (by decide) (by decide)).trans (by simp)
    · exact (hc (by decide) (by decide) (by decide) (by decide)).trans (by simp [sensorsClash])
    · exact (hc (by decide) (by decide) (by decide) (by decide)).trans (by simp)
    · obtain ⟨pd, hd⟩ := configured_pendant l hn hp
      simp only [hd]
      refine ⟨rfl, rfl, rfl, rfl, rfl, rfl, rfl, rfl, rfl, rfl, rfl, ?_, ?_⟩
      · simp only [readingsAtStart, nearestIndex, knobSixths, Nat.mul_assoc]
      · simp only [readingsAtStart, nearestIndex, knobSixths, Nat.mul_assoc]
  | bad r =>
    refine completes_imageRead hs (readingDone_bad hjd) ?_
    by_cases ha : s.node.su.attempt = 1
    · simp [ha, hs, loaded]
    · have hst := limited_start r hn
      simp only [if_neg ha]
      rw [if_pos (by simp [loaded, hst])]
      have S := limited_stands (inputs := inputs) r hl hj
      obtain ⟨ho, hpar, hrec⟩ := limited_report r hn
      refine ⟨⟨S.line, S.held, S.stopped, S.chainOpen, S.chainRun, S.stopInput, S.gearLost, S.own⟩,
        (congrArg StartUp.start (finish_start _)).trans hst, hpar, ?_, ho, fun c hc => ?_, hrec⟩
      · exact (limited_condIn r hn (by decide) (by decide) (by decide) (by decide)).trans (by simp)
      · rcases hc with rfl | rfl | rfl | rfl
        all_goals exact (limited_condIn r hn (by decide) (by decide) (by decide) (by decide)).trans (by simp)

end Sys2Proof.Machine
end

section
/-! PROOF. Rules about lists, the transmit queue and what follows every command that several of the statements below
rest on. -/

namespace Sys2Proof.Machine

-- The text is checked as one file under a data limit that many waiting threads would exceed.
set_option Elab.async false

/-! ### Lists -/

/-- The removal of the first element that passes a test removes the first occurrence of that element. -/
theorem eraseP_eq_erase_of_find {α : Type} [DecidableEq α] {p : α → Bool} {l : List α} {a : α}
    (h : l.find? p = some a) : l.eraseP p = l.erase a := by
  induction l with
  | nil => simp at h
  | cons x xs ih =>
    by_cases hx : p x = true
    · obtain rfl : x = a := by simpa [hx] using h
      simp [hx]
    · have hf : xs.find? p = some a := by simpa [hx] using h
      have hne : x ≠ a := fun he => hx (he ▸ List.find?_some hf)
      rw [List.eraseP_cons_of_neg hx, List.erase_cons_tail (by simpa using hne), ih hf]

/-! ### Frames that wait through a request (R12, R13, R15) -/

/-- The frame that an overflow drops is of a less urgent class than the new one, so one at least as urgent as the new
one stays. -/
theorem mem_overflowTx_of_class {e x : TxEntry} {q : List TxEntry} (hx : x ∈ q) (hc : txClass x ≤ txClass e) :
    x ∈ overflowTx e q := by
  unfold overflowTx
  split
  · rename_i c hl
    split_ifs with hlt
    · obtain ⟨y, hy, rfl⟩ := Option.map_eq_some_iff.1 hl
      have hne : x ≠ y := fun h => by subst h; omega
      refine mem_insertTx.2 (.inr (List.mem_reverse.2 ?_))
      rw [eraseP_eq_erase_of_find hy]
      exact (List.mem_erase_of_ne hne).2 (List.mem_reverse.2 hx)
    · exact hx
  · exact hx

/-- A frame goes on waiting behind a request of no more urgent class that does not replace it, whatever the queue's
length. -/
theorem enqueueAt_waits_of_class {p r : Payload} (b : Bool) {n : Node} (hr : replaces r p = false)
    (hc : payloadClass p ≤ payloadClass r) (h : waiting p n) : waiting p (enqueueAt r b n).1 := by
  obtain ⟨e, he, rfl⟩ := h
  have hm : meets r e = false := by simp [meets, hr]
  unfold waiting enqueueAt enqueue
  dsimp only
  split_ifs
  · exact ⟨e, he, rfl⟩
  · exact ⟨e, he, rfl⟩
  · exact ⟨e, List.mem_map.2 ⟨e, he, by simp [hm]⟩, rfl⟩
  · exact ⟨e, mem_insertTx.2 (.inr he), rfl⟩
  · exact ⟨e, mem_overflowTx_of_class he hc, rfl⟩

theorem requestFault_hold {n : Node} (h : waiting .hold n) : waiting .hold (requestFault n).1 := by
  obtain ⟨e, he, hp⟩ := h
  exact enqueueAt_waits_of_class false rfl (Nat.zero_le _) ⟨e, List.mem_filter.2 ⟨he, by simp [hp, isFault]⟩, hp⟩

theorem raiseOverflow_hold {n : Node} (h : waiting .hold n) : waiting .hold (raiseOverflow n) := by
  have hr : waiting .hold (requestFault (noteRaise .txqOverflow 0 n)).1 := requestFault_hold h
  unfold raiseOverflow
  dsimp only
  split_ifs
  · exact hr
  · exact hr
  · exact h

theorem raiseCommon_hold (c : Cond) (d : Byte) {n : Node} (h : waiting .hold n) :
    waiting .hold (raiseCommon c d n) := by
  have hr : waiting .hold (requestFault (noteRaise c d n)).1 := requestFault_hold h
  unfold raiseCommon askFault
  dsimp only
  split_ifs
  · exact raiseOverflow_hold hr
  · exact hr
  · exact h

/-- A HOLD goes on waiting behind the STATE that a change asks for (R12, R53). -/
theorem finish_hold {n : Node} (h : waiting .hold n) : waiting .hold (finish n) := by
  have hn : waiting .hold (noteChange n) := by simpa [waiting] using h
  have hs : waiting .hold (changeState (noteChange n)) := by
    unfold changeState askState ask askWith
    dsimp only
    have he (m : Node) (hm : waiting .hold m) : waiting .hold (enqueueAt (.state (stateBody (noteChange n))) false m).1 :=
      enqueueAt_waits_of_class false rfl (Nat.zero_le _) hm
    split_ifs
    · exact raiseOverflow_hold (he _ hn)
    · exact he _ hn
    · exact hn
  simpa [waiting, finish] using hs

/-- A HOLD is in the queue exactly where one waits. -/
theorem txHas_hold_iff (n : Node) : txHas isHold n = true ↔ waiting .hold n := by
  have hh (p : Payload) : isHold p = true ↔ p = .hold := by cases p <;> simp [isHold]
  simp [txHas, waiting, hh]

/-! ### What follows every command -/

theorem finish_condIn (n : Node) {x : Cond} (hx : x ≠ .txqOverflow) :
    condIn x (finish n).cu.own = condIn x n.cu.own := condIn_of_onlyChanges (finish_only n) (by simp) hx

theorem finish_pg (n : Node) : (finish n).pg = n.pg := finish_only n .path (by simp) (by decide)

theorem finish_bq (n : Node) : (finish n).bq = n.bq := finish_only n .blocks (by simp) (by decide)

theorem finish_kept (n : Node) : (finish n).kept = n.kept := finish_only n .kept (by simp) (by decide)

theorem finish_held (n : Node) : (finish n).cu.held = n.cu.held := finish_only n .held (by simp) (by decide)

theorem finish_stopped (n : Node) : (finish n).cu.stopped = n.cu.stopped := finish_only n .latch (by simp) (by decide)

theorem finish_entries (n : Node) : (finish n).nt.entries = n.nt.entries := sameEntries_of_only (finish_only n)

/-- An own raising in the frame of a command: the condition is in the set that the command leaves. -/
theorem finish_raiseHold_condIn (c : Cond) (d : Byte) (n : Node) (hc : c ≠ .txqOverflow) :
    condIn c (finish (raiseHold c d n)).cu.own = true := by
  rw [finish_condIn _ hc, raiseHold_condIn _ _ _ hc]
  simp

/-! ### Classes of conditions (1.4) -/

theorem hasStop_of_condIn {c : Cond} {s : CondSet} (hc : condClass c = .stop) (h : condIn c s = true) :
    hasStop s = true := by
  have hm : condIn c stopMask = true := by
    revert hc
    cases c <;> decide
  have hb : condIn c (s &&& stopMask) = true := by
    simp only [condIn, BitVec.getLsbD_and] at h hm ⊢
    simp [h, hm]
  simp only [hasStop, bne_iff_ne]
  intro h0
  simp [h0, condIn] at hb

theorem hasHold_of_condIn {c : Cond} {s : CondSet} (hc : condClass c = .hold) (h : condIn c s = true) :
    hasHold s = true := by
  have hm : condIn c holdMask = true := by
    revert hc
    cases c <;> decide
  have hb : condIn c (s &&& holdMask) = true := by
    simp only [condIn, BitVec.getLsbD_and] at h hm ⊢
    simp [h, hm]
  simp only [hasHold, bne_iff_ne]
  intro h0
  simp [h0, condIn] at hb

end Sys2Proof.Machine
end

section
/-! PROOF. The units in a full reset (R55, R76, R99, R126, R147, R162, R175, R184). -/

namespace Sys2Proof.Machine

-- The text is checked as one file under a data limit that many waiting threads would exceed.
set_option Elab.async false

section
variable (ok rose : Bool) (c : Cause) (serial : Option Byte) (n : Node)

theorem fullReset_tableAtReset : tableAtReset (fullReset ok rose c serial n) := by
  refine ⟨rfl, fun e he => ?_, rfl, rfl, rfl, rfl, rfl, rfl, rfl, rfl, rfl, rfl, rfl, rfl, rfl⟩
  rw [List.eq_of_mem_replicate (show e ∈ List.replicate 16 NodeEntry.reset from he)]
  exact ⟨rfl, rfl, rfl, rfl, rfl, rfl, rfl⟩

theorem fullReset_pathAtReset : pathAtReset (fullReset ok rose c serial n) :=
  ⟨rfl, rfl, rfl, rfl, rfl, rfl, rfl, rfl, rfl, rfl, rfl, rfl, rfl, rfl, rfl⟩

theorem reset_channelAtReset (comp : List CompEntry) : channelAtReset (Axis.reset comp) := by
  have hf : ∀ r ∈ (Axis.reset comp).frames.tail, r.valid = false ∧ r.offset = 0 ∧ r.window = none := fun r hr => by
    rw [List.eq_of_mem_replicate (show r ∈ List.replicate 31 (FrameRec.blank false) from hr)]
    exact ⟨rfl, rfl, rfl⟩
  exact ⟨rfl, rfl, rfl, rfl, rfl, rfl, rfl, hf, rfl, rfl, rfl, rfl, rfl, rfl, rfl, rfl, rfl, rfl, rfl, rfl, rfl, rfl,
    rfl, rfl, rfl, rfl, rfl⟩

theorem fullReset_machineAtReset : machineAtReset (fullReset ok rose c serial n) := by
  simp only [machineAtReset, fullReset, Node.reset, SG.reset, CL.reset, PD.reset, and_self]

theorem fullReset_units : tableAtReset (fullReset ok rose c serial n) ∧ pathAtReset (fullReset ok rose c serial n) ∧
    channelAtReset (fullReset ok rose c serial n).ax0 ∧ channelAtReset (fullReset ok rose c serial n).ax1 ∧
    machineAtReset (fullReset ok rose c serial n) :=
  ⟨fullReset_tableAtReset ok rose c serial n, fullReset_pathAtReset ok rose c serial n, reset_channelAtReset [],
    reset_channelAtReset [], fullReset_machineAtReset ok rose c serial n⟩

end

/-- Settles O5: every cause of a full reset gives the one reset node, whose units stand at their chapters' values. -/
theorem unitsAfterReset : Obligations.UnitsAfterReset := by
  unfold Obligations.UnitsAfterReset
  refine ⟨fun c s hc => ?_, fun rx t k s hl hj hs ht => completes_answer rfl ?_⟩
  · obtain rfl | rfl | rfl := eq_of_isHardReset hc
    · exact completes_answer rfl (fullReset_units _ _ _ _ _)
    · exact completes_answer rfl (fullReset_units _ _ _ _ _)
    · exact completes_answer rfl (fullReset_units _ _ _ _ _)
  · rw [restartArrives_of_taken hl hj hs ht]
    exact fullReset_units _ _ _ _ _

end Sys2Proof.Machine
end

section
/-! PROOF. The head wait timer's end and the STATE period (R53, R72). -/

namespace Sys2Proof.Machine

-- The text is checked as one file under a data limit that many waiting threads would exceed.
set_option Elab.async false

theorem raiseStall_only (n : Node) : onlyChanges [.blocks, .conds] n (raiseStall n) :=
  onlyChanges_both (withBq_only _ n) (raiseWarn_only _ _ _) (by simp) (by simp)

theorem raiseStall_bq (n : Node) : (raiseStall n).bq = { n.bq with headTimer := 0 } :=
  raiseWarn_only _ _ { n with bq := { n.bq with headTimer := 0 } } .blocks (by simp) (by decide)

theorem raiseStall_condIn (n : Node) : condIn .startStall (raiseStall n).cu.own = true := by
  rw [raiseStall, raiseWarn_condIn _ _ _ (by decide)]
  simp

/-- A request changes of the STATE timer and its marks only the note of a change. -/
theorem raiseOverflow_nt (n : Node) : ∃ b, (raiseOverflow n).nt = { n.nt with changeNoted := b } := by
  unfold raiseOverflow
  dsimp only
  split_ifs
  · exact ⟨_, rfl⟩
  · exact ⟨_, rfl⟩
  · exact ⟨_, rfl⟩

theorem ask_nt (p : Payload) (n : Node) : ∃ b, (ask p n).nt = { n.nt with changeNoted := b } := by
  unfold ask askWith
  dsimp only
  split
  · exact raiseOverflow_nt _
  · exact ⟨n.nt.changeNoted, rfl⟩

/-- With the STATE timer at 0 no change asks for a further STATE. -/
theorem finish_lastKey {n : Node} (h : n.nt.stateTimer = 0) : (finish n).nt.lastKey = n.nt.lastKey := by
  have hn : asksNoState (noteChange n) := (noteChange_timer n).2 (.inr (by omega))
  rw [finish, changeState_of_asksNoState hn]
  unfold noteChange
  split <;> rfl

theorem askState_timer (n : Node) :
    (finish (askState n)).nt.stateTimer = 0 ∧ (finish (askState n)).nt.lastKey = some (reportKey n) := by
  obtain ⟨b, hb⟩ := ask_nt (.state (stateBody n))
    { n with nt := { n.nt with stateTimer := 0, changeNoted := false, lastKey := some (reportKey n) } }
  have h0 : (askState n).nt.stateTimer = 0 := by rw [askState, hb]
  have hk : (askState n).nt.lastKey = some (reportKey n) := by rw [askState, hb]
  exact ⟨(finish_sameTimer h0).1.trans h0, (finish_lastKey h0).trans hk⟩

/-- On the line and with an empty queue the STATE asked for waits. -/
theorem askState_waits {n : Node} (ho : onLine n.lc.state = true) (hq : n.lc.queue = []) :
    waiting (.state (stateBody n)) (finish (askState n)) := by
  have h0 : (askState n).nt.stateTimer = 0 := by
    obtain ⟨b, hb⟩ := ask_nt (.state (stateBody n))
      { n with nt := { n.nt with stateTimer := 0, changeNoted := false, lastKey := some (reportKey n) } }
    rw [askState, hb]
  unfold waiting
  rw [finish_lc (.inr (by omega))]
  exact askWith_enters (n := { n with nt := _ }) false ho (by simp [hq]) fun _ => rfl

/-- Settles O25: the stall is one raising on the node with its timer at 0, and the STATE asked for takes timer and key
with it. -/
theorem timersThatReport : Obligations.TimersThatReport := by
  unfold Obligations.TimersThatReport
  refine fun s hl => ⟨fun hr => completes_live_if (f := raiseStall) rfl hl hr ?_,
    fun hr => completes_live_else (f := raiseStall) rfl hl (by simp [hr]) (finish_only _), ?_⟩
  · rw [finish_bq, raiseStall_bq, finish_condIn _ (by decide)]
    exact ⟨rfl, rfl, raiseStall_condIn _, finish_line_only (raiseStall_only _)⟩
  · by_cases hr : s.node.nt.stateRunning = true
    · refine completes_live_if (f := askState) rfl hl hr ?_
      obtain ⟨ht, hk⟩ := askState_timer s.node
      exact ⟨finish_line_only (askState_only _), fun _ => ⟨ht, hk, askState_waits⟩⟩
    · exact completes_live_else (f := askState) rfl hl hr ⟨finish_only _, fun h => absurd h hr⟩

end Sys2Proof.Machine
end

section
/-! PROOF. The adoption of a mode (R52, R75). -/

namespace Sys2Proof.Machine

-- The text is checked as one file under a data limit that many waiting threads would exceed.
set_option Elab.async false

/-- The parts that the removal of every entry changes. -/
abbrev removalParts : List Part := [.kept, .blocks, .path, .channel0, .channel1, .spindle, .coolant, .conds]

theorem entriesLeft_only (gone : Entry → Bool) (n : Node) (lc : LC) (h : lc = { n.lc with queue := lc.queue }) :
    onlyChanges removalParts n { entriesLeft gone n with lc := lc } := by
  rw [h]
  intro p hp hr
  cases p <;> simp_all [keeps, reporting, entriesLeft]

/-- A withdrawal changes of the line controller the queue alone. -/
theorem withdrawVerdicts_queue (es : List Entry) (n : Node) :
    ∃ q, es.foldl (fun k e => withdrawVerdict e.num k) n = { n with lc := { n.lc with queue := q } } := by
  induction es generalizing n with
  | nil => exact ⟨n.lc.queue, rfl⟩
  | cons e es ih =>
    obtain ⟨q, h⟩ := ih (withdrawVerdict e.num n)
    exact ⟨q, h⟩

theorem removeEntries_only (gone : Entry → Bool) (n : Node) : onlyChanges removalParts n (removeEntries gone n) := by
  obtain ⟨q, hq⟩ := withdrawVerdicts_queue (n.bq.entries.filter gone) (entriesLeft gone n)
  rw [removeEntries_eq, hq]
  exact onlyChanges_trans (entriesLeft_only gone n { n.lc with queue := q } rfl)
    (onlyChanges_mono (by simp) (noteHead_only _ _))

theorem setPlanned_only (n : Node) : onlyChanges [.channel0, .channel1] n (setPlanned n) := by
  intro p hp hr
  cases p <;> simp_all [keeps, reporting, setPlanned]

theorem forgetForce_only (n : Node) : onlyChanges [.blocks] n (forgetForce n) := withBq_only _ n

theorem removeAll_only (n : Node) : onlyChanges removalParts n (removeAll n) := by
  have hr := removeEntries_only (fun _ => true) n
  have hb := onlyChanges_trans hr (onlyChanges_mono (by simp) (withBq_only
    { (removeEntries (fun _ => true) n).bq with expected := none } (removeEntries (fun _ => true) n)))
  have hp := onlyChanges_trans hb (onlyChanges_mono (by simp) (setPlanned_only _))
  have hf := onlyChanges_trans hp (onlyChanges_mono (by simp) (forgetForce_only _))
  have he := onlyChanges_trans hf (onlyChanges_mono (by simp) (emptyBlockSet_only _))
  exact onlyChanges_trans he (onlyChanges_both (motionsAtRest_only _) (clLoss_only _) (by simp) (by simp))

/-- The mode adopted is the source mode, which the emptied queue has left (R52). -/
theorem adoptMode_mode (n : Node) : (adoptMode n).nt.mode = n.nt.sourceMode := by
  have hs : (removeAll n).nt.sourceMode = n.nt.sourceMode := (removeAll_only n .mode (by simp) (by decide)).2.2.1
  have hm (m : Node) (x : Mode) : (clearCond .modeSwitch (modeReaction x m)).nt.mode = m.nt.mode :=
    (clearCond_only _ _ .mode (by simp) (by decide)).1.trans (modeReaction_only x m .mode (by simp) (by decide)).1
  exact (hm _ _).trans hs

theorem adoptMode_bq (n : Node) : (adoptMode n).bq = emptied n :=
  (show (adoptMode n).bq = (removeAll n).bq from adoptMode_only n .blocks (by simp) (by decide)).trans (removeAll_bq n)

theorem adoptMode_condIn (n : Node) : condIn .modeSwitch (adoptMode n).cu.own = false := by
  simp [adoptMode]

/-- Settles O27: an adoption empties the queue, takes the mode and clears MODE_SWITCH, and where none is due nothing
happens. -/
theorem modeAdoptionEmptiesTheQueue : Obligations.ModeAdoptionEmptiesTheQueue := by
  unfold Obligations.ModeAdoptionEmptiesTheQueue
  refine fun s hl => ⟨fun hd => completes_live_if (f := adoptMode) rfl hl hd ?_,
    fun hd => completes_live_else (f := adoptMode) rfl hl (by simp [hd]) (finish_only _)⟩
  have hm : (finish (adoptMode s.node)).nt.mode = (adoptMode s.node).nt.mode :=
    (finish_only _ .mode (by simp) (by decide)).1
  rw [hm, adoptMode_mode, finish_bq, adoptMode_bq, finish_condIn _ (by decide), adoptMode_condIn, finish_held,
    (adoptMode_acts _).held_eq]
  exact ⟨rfl, rfl, rfl, rfl, rfl⟩

end Sys2Proof.Machine
end

section
/-! PROOF. Raising a condition, the fault record and the STOPPED latch (R45, R111, R145, R161, R181, R182). -/

namespace Sys2Proof.Machine

-- The text is checked as one file under a data limit that many waiting threads would exceed.
set_option Elab.async false

/-! ### Own set, counts and record (R45, R181, R182) -/

section
variable (c : Cond) (d : Byte) (tick : Tick) (run : Option BlockNo) (cu : CU)

theorem raisedCU_count_self (h : cu.counts.length = 30) :
    (raisedCU c d tick run cu).counts.getD (condNumber c) 0 = min 255 (cu.counts.getD (condNumber c) 0 + 1) := by
  have hlt := condNumber_lt c
  simp [raisedCU, satAdd_eq_min, h, hlt]

theorem raisedCU_count_other {i : Nat} (hi : i ≠ condNumber c) :
    (raisedCU c d tick run cu).counts.getD i 0 = cu.counts.getD i 0 := by
  simp [raisedCU, List.getElem?_set_ne (Ne.symm hi)]

theorem raisedCU_overflow : (raisedCU c d tick run cu).overflow =
    if 255 ≤ cu.counts.getD (condNumber c) 0 then cu.overflow ||| condBit c else cu.overflow := rfl

theorem raisedCU_own (x : Cond) : condIn x (raisedCU c d tick run cu).own = (condIn x cu.own || decide (x = c)) := by
  simp [raisedCU]

theorem raisedCU_record_empty (h : cu.record = none) :
    (raisedCU c d tick run cu).record = some { cond := c, tick := tick, running := run, detail := d } := by
  simp [raisedCU, writesRecord, h]

theorem raisedCU_record_full {r : FaultRecord} (h : cu.record = some r) :
    (raisedCU c d tick run cu).record =
      if classRank c < classRank r.cond then some { cond := c, tick := tick, running := run, detail := d }
      else some r := by
  simp [raisedCU, writesRecord, h]

end

/-! ### The spindle unit's reaction (R130, R145) -/

theorem setGear_request (g : GearState) (sg : SG) : (setGear g sg).request = sg.request := by cases g <;> rfl

theorem raiseHold_sg (c : Cond) (d : Byte) (n : Node) :
    ({ (raiseHold c d n).sg with driveCmd := 0 } : SG) = { n.sg with driveCmd := 0 } :=
  raiseHold_only c d n .spindle (by simp) (by decide)

theorem gearFromPattern_request (p : SpindleParams) (n : Node) :
    (gearFromPattern p n).sg.request = n.sg.request := by
  unfold gearFromPattern
  split
  · exact setGear_request _ _
  · exact setGear_request _ _
  · exact (congrArg SG.request (raiseHold_sg _ _ _)).trans (setGear_request _ _)

theorem abortShift_request (p : SpindleParams) (n : Node) : (abortShift p n).sg.request = n.sg.request := by
  unfold abortShift
  split
  · exact gearFromPattern_request p _
  · rfl

/-- With the request "stopped" the speed command is 0 (R130). -/
theorem commandOf_stopped {p : SpindleParams} {b : Bool} {sg : SG} (h : sg.request = none) : commandOf p b sg = 0 := by
  simp [commandOf, h]

theorem dropCommand_stopped {p : SpindleParams} {n : Node} (h : n.sg.request = none) :
    (dropCommand p n).sg.request = none ∧ (dropCommand p n).sg.command = 0 := by
  rw [dropCommand, if_pos (commandOf_stopped h)]
  exact ⟨h, rfl⟩

theorem sgStopReaction_request {n : Node} (h : n.par.spindle.isSome = true) :
    (sgStopReaction n).sg.request = none ∧ (sgStopReaction n).sg.command = 0 := by
  obtain ⟨p, hp⟩ := Option.isSome_iff_exists.1 h
  simp only [sgStopReaction, hp]
  refine dropCommand_stopped ?_
  split
  · exact abortShift_request p _
  · exact abortShift_request p _

/-! ### The coolant unit's reaction (R161) -/

theorem clLoss_demand (n : Node) : (clLoss n).cl.demand = n.cl.demand := by
  obtain ⟨x, hx⟩ := clLoss_cl n
  rw [hx]

theorem enterState_demand (c : Circ) (s : CircuitState) (cl : CL) : (enterState c s cl).demand = cl.demand := by
  unfold enterState
  dsimp only
  split <;> cases c <;> rfl

theorem floodStop_demand (n : Node) : (floodStop n).cl.demand = n.cl.demand := by
  unfold floodStop
  split
  · exact (clLoss_demand _).trans (enterState_demand _ _ _)
  · rfl

theorem leaveDegraded_cl (n : Node) : (leaveDegraded n).cl = { n.cl with clamp := 150 } :=
  askClamp_only { clearCond .coolantDegraded n with cl := { n.cl with clamp := 150 } } .coolant (by simp) (by decide)

theorem setTsc_demand (s : CircuitState) (t b : Nat) (n : Node) : (setTsc s t b n).cl.demand = n.cl.demand := by
  refine (clLoss_demand _).trans ?_
  split
  · rw [leaveDegraded_cl]
    exact enterState_demand _ _ _
  · exact enterState_demand _ _ _

theorem tscStop_demand (n : Node) : (tscStop n).cl.demand = n.cl.demand := by
  unfold tscStop
  split
  · exact setTsc_demand _ _ _ n
  · rfl

theorem airOff_demand (n : Node) : (airOff n).cl.demand = n.cl.demand := by
  unfold airOff
  split
  · exact (clLoss_demand _).trans (enterState_demand _ _ _)
  · rfl

theorem clStopReaction_demand {n : Node} (h : n.par.coolant.isSome = true) : (clStopReaction n).cl.demand = .empty := by
  rw [clStopReaction, if_pos h, airOff_demand, tscStop_demand, floodStop_demand]

/-! ### The drives' reaction (R111) -/

theorem latchDrive_other (c d : Chan) (p : AxisParams) (n : Node) (h : d ≠ c) :
    getAx d (latchDrive c p n) = getAx d n := by
  unfold latchDrive
  split
  · exact getAx_onAx_other h _ _
  · rfl

theorem setDrive_drive (rest : Bool) (d : DriveState) (a : Axis) : (setDrive rest d a).drive = d := by
  unfold setDrive
  split
  · assumption
  · rfl

theorem latchDrive_enabling {c : Chan} {p : AxisParams} {n : Node} (h : (getAx c n).drive = .enabling) :
    (getAx c (latchDrive c p n)).drive = .disabled := by
  rw [latchDrive, if_pos h, getAx_onAx, setDrive_drive]

/-- The latch as it becomes set makes an ENABLING drive DISABLED. -/
theorem setLatch_disables {c : Chan} {n : Node} (hs : n.cu.stopped = false) (hp : (axParams c n).isSome = true)
    (h : (getAx c n).drive = .enabling) : (getAx c (setLatch n)).drive = .disabled := by
  obtain ⟨p, hp⟩ := Option.isSome_iff_exists.1 hp
  have hpar (c : Chan) (p : AxisParams) (m : Node) : (latchDrive c p m).par = m.par :=
    latchDrive_only c p m .params (by simp) (by decide)
  have hp' : axParams c { n with cu := { n.cu with stopped := true } } = some p := by cases c <;> exact hp
  have ha : getAx c { n with cu := { n.cu with stopped := true } } = getAx c n := by cases c <;> rfl
  obtain ⟨k, hk, he⟩ := forAxes_at latchDrive_other hpar hp'
  rw [setLatch_of_clear hs, getAx_of_only (clStopReaction_only _) (by cases c <;> simp [chanPart]), latchedUnits,
    getAx_of_only (sgStopReaction_only _) (by cases c <;> simp [chanPart]), he]
  exact latchDrive_enabling (by rw [hk, ha, h])

/-- It leaves a channel alone whose drive is in another state. -/
theorem setLatch_getAx {c : Chan} {n : Node} (h : (getAx c n).drive ≠ .enabling) :
    getAx c (setLatch n) = getAx c n := by
  cases hs : n.cu.stopped with
  | true => rw [setLatch_of_set hs]
  | false =>
    have one (d : Chan) {m : Node} (hm : getAx c m = getAx c n) : getAx c (onUsed latchDrive d m) = getAx c n :=
      onUsed_induct (P := fun t => getAx c t = getAx c n) hm fun p => by
        rw [← hm]
        unfold latchDrive
        split
        · rename_i hd
          exact getAx_onAx_other (fun hx => by subst hx; exact h (hm ▸ hd)) _ _
        · rfl
    have ha : getAx c { n with cu := { n.cu with stopped := true } } = getAx c n := by cases c <;> rfl
    rw [setLatch_of_clear hs, getAx_of_only (clStopReaction_only _) (by cases c <;> simp [chanPart]), latchedUnits,
      getAx_of_only (sgStopReaction_only _) (by cases c <;> simp [chanPart])]
    exact one .ax1 (one .ax0 ha)

theorem setLatch_request {n : Node} (hs : n.cu.stopped = false) (hp : n.par.spindle.isSome = true) :
    (setLatch n).sg.request = none ∧ (setLatch n).sg.command = 0 := by
  have hpar : (forAxes latchDrive { n with cu := { n.cu with stopped := true } }).par = n.par :=
    forAxes_only latchDrive_only { n with cu := { n.cu with stopped := true } } .params (by simp) (by decide)
  have hg : (latchedUnits n).sg.request = none ∧ (latchedUnits n).sg.command = 0 :=
    sgStopReaction_request (by rwa [hpar])
  have hk : keeps .spindle (latchedUnits n) (clStopReaction (latchedUnits n)) :=
    clStopReaction_only _ .spindle (by simp) (by decide)
  rw [setLatch_of_clear hs]
  exact ⟨(congrArg SG.request hk).trans hg.1, (congrArg SG.command hk).trans hg.2⟩

theorem setLatch_demand {n : Node} (hs : n.cu.stopped = false) (hp : n.par.coolant.isSome = true) :
    (setLatch n).cl.demand = .empty := by
  have hpar : (latchedUnits n).par = n.par := (latchedUnits_acts n).par
  rw [setLatch_of_clear hs]
  exact clStopReaction_demand (by rwa [hpar])

/-! ### A STOP-class raising (R45, R177, R178) -/

/-- The node of a STOP-class raising as its latch is set. -/
def stopRaised (c : Cond) (d : Byte) (n : Node) : Node :=
  askStopall { raiseCommon c d n with cu := { (raiseCommon c d n).cu with owed := true } }

theorem raiseStop_eq (c : Cond) (d : Byte) (n : Node) : raiseStop c d n = setLatch (stopRaised c d n) := rfl

theorem stopRaised_only (c : Cond) (d : Byte) (n : Node) : onlyChanges [.conds, .stopInfo] n (stopRaised c d n) := by
  have ho (m : Node) : onlyChanges [.stopInfo] m { m with cu := { m.cu with owed := true } } := by
    intro p hp _
    cases p <;> simp_all [keeps]
  exact onlyChanges_trans (onlyChanges_both (raiseCommon_only c d n) (ho _) (by simp) (by simp))
    (onlyChanges_nil (askStopall_only _))

theorem stopRaised_stopped (c : Cond) (d : Byte) (n : Node) : (stopRaised c d n).cu.stopped = n.cu.stopped :=
  stopRaised_only c d n .latch (by simp) (by decide)

theorem stopRaised_getAx (x : Chan) (c : Cond) (d : Byte) (n : Node) : getAx x (stopRaised c d n) = getAx x n :=
  getAx_of_only (stopRaised_only c d n) (by cases x <;> simp [chanPart])

theorem axParams_of_par {n m : Node} (h : m.par = n.par) (c : Chan) : axParams c m = axParams c n := by
  cases c
  · exact congrArg Params.axis0 h
  · exact congrArg Params.axis1 h

theorem raiseStop_getAx_of_notEnabling {c : Chan} (x : Cond) (d : Byte) {n : Node}
    (h : (getAx c n).drive ≠ .enabling) : getAx c (raiseStop x d n) = getAx c n := by
  have ha := stopRaised_getAx c x d n
  rw [raiseStop_eq, setLatch_getAx (by rwa [ha]), ha]

theorem raiseStop_disables {c : Chan} (x : Cond) (d : Byte) {n : Node} (hs : n.cu.stopped = false)
    (hp : (axParams c n).isSome = true) (h : (getAx c n).drive = .enabling) :
    (getAx c (raiseStop x d n)).drive = .disabled := by
  rw [raiseStop_eq]
  refine setLatch_disables ((stopRaised_stopped x d n).trans hs) ?_ (by rwa [stopRaised_getAx])
  rwa [axParams_of_par (par_of_only (stopRaised_only x d n))]

theorem raiseStop_request (x : Cond) (d : Byte) {n : Node} (hs : n.cu.stopped = false)
    (hp : n.par.spindle.isSome = true) :
    (raiseStop x d n).sg.request = none ∧ (raiseStop x d n).sg.command = 0 := by
  rw [raiseStop_eq]
  exact setLatch_request ((stopRaised_stopped x d n).trans hs) (by rwa [par_of_only (stopRaised_only x d n)])

theorem raiseStop_demand (x : Cond) (d : Byte) {n : Node} (hs : n.cu.stopped = false)
    (hp : n.par.coolant.isSome = true) : (raiseStop x d n).cl.demand = .empty := by
  rw [raiseStop_eq]
  exact setLatch_demand ((stopRaised_stopped x d n).trans hs) (by rwa [par_of_only (stopRaised_only x d n)])

/-- The latch's reactions raise and clear no STOP-class condition. -/
theorem stop_not_latchActs {c : Cond} (h : condClass c = .stop) : Act.raise c ∉ latchActs ∧ Act.clear c ∉ latchActs := by
  revert h
  cases c <;> decide

theorem raiseStop_condIn_of_stop {c : Cond} (d : Byte) (n : Node) (h : condClass c = .stop) :
    condIn c (raiseStop c d n).cu.own = true := by
  obtain ⟨hr, hc⟩ := stop_not_latchActs h
  exact raiseStop_condIn_self c d n (fun he => by subst he; cases h) hr hc

/-- Settles O29: a raising writes the condition unit as its definition says, and a STOP-class one sets the latch, whose
reactions are those of the drives, the spindle and the coolant unit. -/
theorem raisingAConditionAndTheLatch : Obligations.RaisingAConditionAndTheLatch := by
  unfold Obligations.RaisingAConditionAndTheLatch
  refine ⟨fun c d tick run cu hlen => ?_, fun c d n hc => ?_⟩
  · have hself := raisedCU_count_self c d tick run cu hlen
    have hover := raisedCU_overflow c d tick run cu
    refine ⟨by simp [raisedCU_own], fun x hx => by simp [raisedCU_own, hx], fun hk => ⟨?_, ?_⟩, fun hk => ⟨?_, ?_⟩,
      fun i hi => raisedCU_count_other c d tick run cu hi, raisedCU_record_empty c d tick run cu,
      fun r hr => raisedCU_record_full c d tick run cu hr, rfl, rfl⟩
    · rw [hself]
      omega
    · rw [hover, if_neg (by omega)]
    · rw [hself, hk]
      rfl
    · rw [hover, if_pos (by omega)]
      simp
  · exact ⟨raiseStop_condIn_of_stop d n hc, raiseStop_latched c d n, raiseStop_owed c d n,
      fun hs => raiseStop_request c d hs, fun hs => raiseStop_demand c d hs,
      fun hs hp he => raiseStop_disables (c := .ax0) c d hs hp he,
      fun hs hp he => raiseStop_disables (c := .ax1) c d hs hp he, raiseStop_only c d n⟩

end Sys2Proof.Machine
end

section
/-! PROOF. Stamped frames in and out of their windows, and the rows that apply the first kept frame of a kind (R49, R50,
R78, R79, R88, R94). -/

namespace Sys2Proof.Machine

-- The text is checked as one file under a data limit that many waiting threads would exceed.
set_option Elab.async false

/-! ### A frame placed (R78, R79) -/

theorem placeFrame_inTime {k : Kept} {t : Tick} {n : Node} (h : windowOf k.apply t n.pg.tick = .inTime) :
    placeFrame k t n = { n with kept := n.kept ++ [k] } := by
  unfold placeFrame
  simp only [h]

theorem placeFrame_outside {k : Kept} {t : Tick} {n : Node} (h : windowOf k.apply t n.pg.tick ≠ .inTime) :
    placeFrame k t n = if engaged n then raiseHold .syncSlip (BitVec.ofNat 8 k.sender.val) (applyKept k n)
      else applyKept k n := by
  unfold placeFrame
  cases hw : windowOf k.apply t n.pg.tick
  · exact absurd hw h
  · rfl
  · rfl

/-- A frame in its window is the last of the kept frames after the command. -/
theorem finish_placeFrame_kept {k : Kept} {t : Tick} {n : Node} (h : windowOf k.apply t n.pg.tick = .inTime) :
    (finish (placeFrame k t n)).kept = n.kept ++ [k] := by
  rw [placeFrame_inTime h, finish_kept]

/-- A frame outside its window leaves what its application leaves but for the slip. -/
theorem finish_placeFrame_only {k : Kept} {t : Tick} {n : Node} (h : windowOf k.apply t n.pg.tick ≠ .inTime) :
    onlyChanges [.conds] (applyKept k n) (finish (placeFrame k t n)) := by
  rw [placeFrame_outside h]
  split_ifs
  · exact finish_line_only (raiseHold_only _ _ _)
  · exact onlyChanges_nil (finish_only _)

theorem finish_placeFrame_still {k : Kept} {t : Tick} {n : Node} (h : windowOf k.apply t n.pg.tick ≠ .inTime)
    (he : engaged n = false) : onlyChanges [] (applyKept k n) (finish (placeFrame k t n)) := by
  rw [placeFrame_outside h, if_neg (by simp [he])]
  exact finish_only _

theorem finish_placeFrame_slips {k : Kept} {t : Tick} {n : Node} (h : windowOf k.apply t n.pg.tick ≠ .inTime)
    (he : engaged n = true) : condIn .syncSlip (finish (placeFrame k t n)).cu.own = true := by
  rw [placeFrame_outside h, if_pos he]
  exact finish_raiseHold_condIn _ _ _ (by decide)

/-! ### Applications -/

theorem applyHold_only (n : Node) : onlyChanges [.held] n (applyHold n) := by
  intro p hp _
  cases p <;> simp_all [keeps, applyHold]

theorem applyResume_only (n : Node) : onlyChanges [.held] n (applyResume n) := by
  refine onlyChanges_trans (m := { n with cu := { n.cu with held := false } }) ?_ (onlyChanges_nil (heldTest_only _))
  intro p hp _
  cases p <;> simp_all [keeps]

/-- The HOLD that a HOLD-class condition asks for at a RESUME is a request: held stays clear (R50). -/
theorem applyResume_held (n : Node) : (applyResume n).cu.held = false :=
  heldTest_only { n with cu := { n.cu with held := false } } .held (by simp) (by decide)

theorem isHold_iff (p : Payload) : isHold p = true ↔ p = .hold := by
  cases p <;> simp [isHold]

theorem isResume_iff (p : Payload) : isResume p = true ↔ p = .resume := by
  cases p <;> simp [isResume]

/-! ### The first kept frame of a kind -/

theorem applyFirst_of_find {test : Payload → Bool} {k : Kept} {n : Node}
    (h : n.kept.find? (fun x => test x.payload) = some k) :
    applyFirst test n = applyKept k { n with kept := n.kept.erase k } := by
  unfold applyFirst
  simp only [h, eraseP_eq_erase_of_find h]

theorem applyFirst_of_none {test : Payload → Bool} {n : Node} (h : ∀ k ∈ n.kept, test k.payload = false) :
    applyFirst test n = n := by
  have hf : n.kept.find? (fun x => test x.payload) = none := List.find?_eq_none.2 fun k hk => by simp [h k hk]
  unfold applyFirst
  simp only [hf]

/-- A kept frame of one payload is found as the first of its kind. -/
theorem find_kept_of_payload {test : Payload → Bool} {p : Payload} (ht : ∀ x, test x = true ↔ x = p)
    {ks : List Kept} (h : ∃ k ∈ ks, k.payload = p) :
    ∃ k, ks.find? (fun x => test x.payload) = some k ∧ k.payload = p := by
  obtain ⟨k, hk, hp⟩ := h
  have hs : (ks.find? fun x => test x.payload).isSome = true :=
    List.find?_isSome.2 ⟨k, hk, (ht _).2 hp⟩
  obtain ⟨x, hx⟩ := Option.isSome_iff_exists.1 hs
  have hxp : test x.payload = true := List.find?_some (p := fun y : Kept => test y.payload) hx
  exact ⟨x, hx, (ht _).1 hxp⟩

/-- A row that applies the first kept frame of its kind, with one there. -/
theorem completes_applyFirst {i : Instr} {s : State} {test : Payload → Bool} {k : Kept} {P : Node → Prop}
    (hi : exec i s = answer (live (applyFirst test)) s) (hl : loaded s.node = true)
    (hk : s.node.kept.find? (fun x => test x.payload) = some k)
    (h : P (finish (applyKept k { s.node with kept := s.node.kept.erase k }))) : completes i s P :=
  completes_live hi hl (by rwa [applyFirst_of_find hk])

/-- A row that applies the first kept frame of its kind, with none there. -/
theorem completes_applyFirst_none {i : Instr} {s : State} {test : Payload → Bool}
    (hi : exec i s = answer (live (applyFirst test)) s) (hl : loaded s.node = true)
    (hk : ∀ k ∈ s.node.kept, test k.payload = false) : completes i s (onlyChanges [] s.node) :=
  completes_live hi hl (by rw [applyFirst_of_none hk]; exact finish_only _)

/-- What the application of a kept frame of one payload leaves, its kept frame taken out. -/
theorem appliesPayload {i : Instr} {s : State} {test : Payload → Bool} {p : Payload} {f : Node → Node} {b : Bool}
    (hi : exec i s = answer (live (applyFirst test)) s) (ht : ∀ x, test x = true ↔ x = p)
    (hf : ∀ k n, k.payload = p → applyKept k n = f n) (ho : ∀ n, onlyChanges [.held] n (f n))
    (hb : ∀ n, (f n).cu.held = b) (hl : loaded s.node = true) (h : ∃ k ∈ s.node.kept, k.payload = p) :
    completes i s (fun t => t.cu.held = b ∧
      (∀ k, s.node.kept.find? (fun x => test x.payload) = some k → t.kept = s.node.kept.erase k) ∧
      onlyChanges [.held, .kept] s.node t) := by
  obtain ⟨k, hk, hp⟩ := find_kept_of_payload ht h
  refine completes_applyFirst hi hl hk ?_
  rw [hf _ _ hp, finish_held, hb, finish_kept]
  refine ⟨rfl, fun x hx => ?_, finish_line_only (onlyChanges_both (withKept_only _ _) (ho _) (by simp) (by simp))⟩
  obtain rfl : k = x := Option.some.inj (hk.symm.trans hx)
  exact ho _ .kept (by simp) (by decide)

/-! ### Frames of the four kinds accepted -/

theorem finish_acceptOverride_kept {rx : Rx} {st : Stamp} {form value : Byte} {c : Moment} {n : Node}
    (hf : form = 0 ∨ form = 1)
    (h : windowOf (keptOf rx c st (.override form value)).apply c.tick n.pg.tick = .inTime) :
    (finish (acceptOverride rx st form value c n)).kept = n.kept ++ [keptOf rx c st (.override form value)] := by
  unfold acceptOverride ownKnob keepFrame
  rw [if_pos hf]
  split_ifs
  · exact finish_placeFrame_kept (n := resendClear n) h
  · exact finish_placeFrame_kept h

theorem acceptPace_of_other {rx : Rx} {st : Stamp} {p : Payload} {c : Moment} {n : Node} (ho : rx.own = false) :
    acceptPace rx st p c n = placeFrame (keptOf rx c st p) c.tick n := by
  simp [acceptPace, ho, keepFrame]

theorem finish_acceptPace_kept {rx : Rx} {st : Stamp} {p : Payload} {c : Moment} {n : Node} (ho : rx.own = false)
    (h : windowOf (keptOf rx c st p).apply c.tick n.pg.tick = .inTime) :
    (finish (acceptPace rx st p c n)).kept = n.kept ++ [keptOf rx c st p] := by
  rw [acceptPace_of_other ho, finish_placeFrame_kept h]

/-- Settles O18: a frame in its window is only kept, one outside it is its application and the slip, and an application
row is that application on the kept frames without its own. -/
theorem stampedFramesAreKeptOrAppliedAtOnce : Obligations.StampedFramesAreKeptOrAppliedAtOnce := by
  unfold Obligations.StampedFramesAreKeptOrAppliedAtOnce
  refine ⟨fun rx st s => ⟨fun p i hi => ?_, ?_, ?_⟩, fun s hl => ⟨?_, ?_, fun h => ?_, fun h => ?_⟩⟩
  · rcases hi with ⟨rfl, rfl⟩ | ⟨rfl, rfl⟩ | ⟨form, value, rfl, rfl, hf⟩ | ⟨fl, run, el, rfl, rfl, ho⟩
    · exact frameCompletes_of (unit := acceptHold rx st) rfl fun hw => finish_placeFrame_kept hw
    · exact frameCompletes_of (unit := stamped rx st (keepFrame rx st .resume)) rfl fun hw => finish_placeFrame_kept hw
    · exact frameCompletes_of (unit := stamped rx st (acceptOverride rx st form value)) rfl
        fun hw => finish_acceptOverride_kept hf hw
    · exact frameCompletes_of (unit := stamped rx st (acceptPace rx st (.pace fl run el))) rfl
        fun hw => finish_acceptPace_kept ho hw
  · refine frameCompletes_of (unit := acceptHold rx st) rfl fun hw => ?_
    have ho := finish_placeFrame_only (k := keptOf rx _ st .hold) hw
    exact ⟨ho .held (by simp) (by decide), ho .kept (by simp) (by decide), finish_placeFrame_slips hw⟩
  · refine frameCompletes_of (unit := stamped rx st (keepFrame rx st .resume)) rfl fun hw => ?_
    have ho := finish_placeFrame_only (k := keptOf rx _ st .resume) hw
    exact ⟨(ho .held (by simp) (by decide)).trans (applyResume_held _),
      (ho .kept (by simp) (by decide)).trans (applyResume_only _ .kept (by simp) (by decide)),
      finish_placeFrame_slips hw⟩
  · exact appliesPayload (f := applyHold) rfl isHold_iff (fun k n hp => by simp [applyKept, hp]) applyHold_only
      (fun _ => rfl) hl
  · exact appliesPayload (f := applyResume) rfl isResume_iff (fun k n hp => by simp [applyKept, hp]) applyResume_only
      applyResume_held hl
  · exact completes_applyFirst_none (test := isHold) rfl hl fun k hk =>
      Bool.eq_false_iff.2 (mt (isHold_iff k.payload).1 (h k hk))
  · exact completes_applyFirst_none (test := isResume) rfl hl fun k hk =>
      Bool.eq_false_iff.2 (mt (isResume_iff k.payload).1 (h k hk))

end Sys2Proof.Machine
end

section
/-! PROOF. OVERRIDE, PACE and GO applied, at their apply ticks and outside their windows (R70, R79, R88, R94), and the HOLD
that a HOLD-class raising asks for (R45, R50). -/

namespace Sys2Proof.Machine

-- The text is checked as one file under a data limit that many waiting threads would exceed.
set_option Elab.async false

/-! ### OVERRIDE (R88) -/

theorem clampNat_percent (v : Nat) : clampNat 1 150 v = max 1 (min 150 v) := by
  unfold clampNat
  split_ifs <;> omega

/-- The path as an applied OVERRIDE of either form leaves it (R88). -/
def overridden (sender : NodeNo) (form value : Byte) (pg : PG) : PG :=
  if form = 0 then { pg with knob := min value.toNat 150 }
  else { pg with clamps := pg.clamps.set sender.val (max 1 (min 150 value.toNat)) }

theorem applyOverride_eq {form : Byte} (hf : form = 0 ∨ form = 1) (sender : NodeNo) (value : Byte) (n : Node) :
    applyOverride sender form value n = { n with pg := overridden sender form value n.pg } := by
  rcases hf with rfl | rfl
  · rfl
  · simp [applyOverride, overridden, setClamp, clampNat_percent]

/-! ### PACE (R94) -/

section
variable {stamp : Tick} {sender : NodeNo} {own : Bool} {r : Option BlockNo} {el : BitVec 16} {n : Node}

theorem applyPace_idle (h : own = true ∨ engaged n = false) : applyPace stamp sender own r el n = n := by
  unfold applyPace
  exact if_pos (by simpa using h)

theorem applyPace_of_none (h : n.pg.history.find? (fun e => e.tick == stamp) = none) :
    applyPace stamp sender own r el n = n := by
  unfold applyPace
  split
  · rfl
  · simp only [h]

theorem applyPace_agrees {e : PaceEntry} (h : n.pg.history.find? (fun x => x.tick == stamp) = some e)
    (ha : paceAgrees e r el = true) : applyPace stamp sender own r el n = n := by
  unfold applyPace
  split
  · rfl
  · simp only [h, ha, if_true]

theorem applyPace_slips {e : PaceEntry} (ho : own = false) (he : engaged n = true)
    (h : n.pg.history.find? (fun x => x.tick == stamp) = some e) (ha : paceAgrees e r el = false) :
    applyPace stamp sender own r el n = raiseHold .syncSlip (BitVec.ofNat 8 sender.val) n := by
  unfold applyPace
  simp [ho, he, h, ha]

theorem applyPace_only : onlyChanges [.conds] n (applyPace stamp sender own r el n) := by
  unfold applyPace
  split
  · exact onlyChanges_refl _ n
  · split
    · split
      · exact onlyChanges_refl _ n
      · exact raiseHold_only _ _ n
    · exact onlyChanges_refl _ n

end

/-! ### The queue behind a GO (R70, R71) -/

section
variable {num a : BlockNo} {f : Entry → Entry}

theorem find_onEntry_self (hf : ∀ x, (f x).num = x.num) (n : Node) :
    (onEntry num f n).bq.entries.find? (fun y => y.num == num) =
      (n.bq.entries.find? fun y => y.num == num).map f := by
  have hp : ((fun y : Entry => y.num == num) ∘ fun e => if e.num = num then f e else e) = fun y => y.num == num := by
    funext x
    by_cases hx : x.num = num <;> simp [hx, hf]
  simp only [onEntry, List.find?_map, hp]
  cases hfind : n.bq.entries.find? fun y => y.num == num with
  | none => rfl
  | some x =>
    have hx : x.num = num := by simpa using List.find?_some hfind
    simp [hx]

/-- A change of the entries of one number leaves the first entry of another as it stands. -/
theorem find_onEntry_of_ne (h : a ≠ num) (hf : ∀ x, x.num = a → (f x).num = a) (n : Node) :
    (onEntry a f n).bq.entries.find? (fun y => y.num == num) = n.bq.entries.find? fun y => y.num == num := by
  have hp : ((fun y : Entry => y.num == num) ∘ fun e => if e.num = a then f e else e) = fun y => y.num == num := by
    funext x
    by_cases hx : x.num = a
    · simp [hx, hf]
    · simp [hx]
  simp only [onEntry, List.find?_map, hp]
  cases hfind : n.bq.entries.find? fun y => y.num == num with
  | none => rfl
  | some x =>
    have hx : x.num = num := by simpa using List.find?_some hfind
    simp [hx, h.symm]

theorem headEntry_onEntry (hf : ∀ x, (f x).state = x.state) (n : Node) :
    headEntry (onEntry num f n) = (headEntry n).map fun e => if e.num = num then f e else e := by
  have hp : (uncommitted ∘ fun e => if e.num = num then f e else e) = uncommitted := by
    funext x
    by_cases hx : x.num = num <;> simp [hx, uncommitted, inChain, hf]
  simp only [headEntry, onEntry, List.find?_map, hp]

theorem chainAtRest_onEntry (hf : ∀ x, (f x).state = x.state) (n : Node) :
    chainAtRest (onEntry num f n) = chainAtRest n := by
  have hp : (inChain ∘ fun e => if e.num = num then f e else e) = inChain := by
    funext x
    by_cases hx : x.num = num <;> simp [hx, inChain, hf]
  simp only [chainAtRest, onEntry, List.any_map, hp]

theorem engaged_onEntry (hf : ∀ x, (f x).state = x.state) (n : Node) : engaged (onEntry num f n) = engaged n := by
  simp only [engaged, chainAtRest_onEntry hf]
  rfl

theorem evaluatedHead_iff {n : Node} {e : Entry} :
    evaluatedHead n = some e ↔ headEntry n = some e ∧ e.state = .evaluated := by
  unfold evaluatedHead
  cases headEntry n with
  | none => simp
  | some x =>
    by_cases hx : x.state = .evaluated
    · simp only [hx, if_true]
      exact ⟨fun h => ⟨h, Option.some.inj h ▸ hx⟩, fun h => h.1⟩
    · simp only [hx, if_false]
      exact ⟨fun h => by simp at h, fun h => absurd (Option.some.inj h.1 ▸ h.2) hx⟩

theorem evaluatedHead_onEntry (hf : ∀ x, (f x).state = x.state) {n : Node} {e : Entry} (he : evaluatedHead n = some e)
    (hn : e.num = num) : evaluatedHead (onEntry num f n) = some (f e) := by
  obtain ⟨hh, hs⟩ := evaluatedHead_iff.1 he
  exact evaluatedHead_iff.2 ⟨by simp [headEntry_onEntry hf, hh, hn], (hf e).trans hs⟩

end

theorem evaluatedHead_of_bq {n m : Node} (h : m.bq = n.bq) : evaluatedHead m = evaluatedHead n := by
  simp only [evaluatedHead, headEntry, h]

/-- The evaluation of the head writes its entry, with the coolant unit's act and the first verdict, or does nothing. -/
theorem evaluateHead_cases (n : Node) : evaluateHead n = n ∨
    ∃ e x, headEntry n = some e ∧ x.num = e.num ∧
      evaluateHead n = firstVerdict x (clActOn x (onEntry e.num (fun _ => x) n)) := by
  unfold evaluateHead
  split
  · rename_i e he
    split
    · rename_i f _ _
      exact .inr ⟨e, evaluatedAs e (fillRoles (neededRoles f n.bq) n), he, rfl, rfl⟩
    · exact .inl rfl
  · exact .inl rfl

theorem find_firstVerdict {num : BlockNo} {x : Entry} (h : x.num ≠ num) (n : Node) :
    (firstVerdict x n).bq.entries.find? (fun y => y.num == num) = n.bq.entries.find? fun y => y.num == num := by
  unfold firstVerdict
  split
  · rw [askReady, ask_bq]
    refine find_onEntry_of_ne h ?_ n
    exact fun _ hx => hx
  · rfl

/-- The evaluation of the head leaves the first entry of every other number. -/
theorem find_evaluateHead {num : BlockNo} {n : Node} (h : ∀ e, headEntry n = some e → e.num ≠ num) :
    (evaluateHead n).bq.entries.find? (fun y => y.num == num) = n.bq.entries.find? fun y => y.num == num := by
  obtain hn | ⟨e, x, he, hx, hn⟩ := evaluateHead_cases n
  · rw [hn]
  · have hne : e.num ≠ num := h e he
    rw [hn, find_firstVerdict (hx ▸ hne), clActOn_bq]
    exact find_onEntry_of_ne hne (fun _ _ => hx) n

/-- Two elements each found first by a test that the other passes as well are one. -/
theorem find_unique {α : Type} {p q : α → Bool} {l : List α} {x y : α} (hx : l.find? p = some x)
    (hy : l.find? q = some y) (hq : q x = true) (hp : p y = true) : x = y := by
  induction l with
  | nil => simp at hx
  | cons a as ih =>
    by_cases hpa : p a = true
    · obtain rfl : a = x := by simpa [hpa] using hx
      simpa [hq] using hy
    · by_cases hqa : q a = true
      · obtain rfl : a = y := by simpa [hqa] using hy
        exact absurd hp hpa
      · exact ih (by simpa [hpa] using hx) (by simpa [hqa] using hy)

/-- The first entry of a GO that is kept is the EVALUATED head (R70). -/
theorem find_of_kept {num : BlockNo} {n : Node} {e : Entry} (hc : goCase num n = .kept)
    (he : evaluatedHead n = some e) : e.num = num ∧ n.bq.entries.find? (fun y => y.num == num) = some e := by
  obtain ⟨hh, -⟩ := evaluatedHead_iff.1 he
  unfold goCase at hc
  cases hx : n.bq.entries.find? fun y => y.num == num with
  | none => simp [hx] at hc
  | some x =>
    simp only [hx] at hc
    split_ifs at hc with hdup hhead hstate
    have hn : e.num = num := by simpa [headNum, hh] using hhead
    have hu : uncommitted x = true := by
      simpa [uncommitted] using fun hi : inChain x = true => hdup (.inr (by simp [hi]))
    exact ⟨hn, congrArg some (find_unique hx hh hu (by simpa using hn))⟩

/-! ### Commitment (R70, R71) -/

/-- The parts that a commitment changes. -/
abbrev commitParts : List Part := [.blocks, .conds, .pendant, .channel0, .channel1, .spindle, .coolant]

theorem onEntry_only (num : BlockNo) (f : Entry → Entry) (n : Node) : onlyChanges [.blocks] n (onEntry num f n) :=
  withBq_only _ n

theorem askReady_only (num : BlockNo) (v : Verdict) (n : Node) : onlyChanges [.blocks] n (askReady num v n) :=
  onlyChanges_trans (onEntry_only _ _ _) (onlyChanges_nil (ask_only _ _))

theorem clActOn_only (e : Entry) (n : Node) : onlyChanges [.coolant] n (clActOn e n) := by
  unfold clActOn
  split
  · split
    · exact withCl_only _ n
    · exact onlyChanges_refl _ n
  · exact onlyChanges_refl _ n

theorem firstVerdict_only (e : Entry) (n : Node) : onlyChanges [.blocks] n (firstVerdict e n) := by
  unfold firstVerdict
  split
  · exact askReady_only _ _ n
  · exact onlyChanges_refl _ n

theorem evaluateHead_only (n : Node) : onlyChanges [.blocks, .coolant] n (evaluateHead n) := by
  obtain hn | ⟨e, x, -, -, hn⟩ := evaluateHead_cases n
  · rw [hn]
    exact onlyChanges_refl _ n
  · rw [hn]
    exact onlyChanges_trans
      (onlyChanges_both (onEntry_only e.num (fun _ => x) n) (clActOn_only x _) (by simp) (by simp))
      (onlyChanges_mono (by simp) (firstVerdict_only x _))

theorem manualFromBlock_only (f : BlockFields) (n : Node) : onlyChanges [.pendant] n (manualFromBlock f n) := by
  unfold manualFromBlock
  split
  · unfold manualSpeed
    split
    · exact withPd_only _ n
    · exact onlyChanges_refl _ n
  · exact onlyChanges_refl _ n

/-- An entry as the commitment of the head `e` writes it (R70, R71). -/
def committedAs (e : Entry) (g : Tick) (n : Node) (x : Entry) : Entry :=
  { x with state := .committed, ceiling := commitCeiling e, verdicts := [], goStamp := some g,
           start := if chainAtRest n then .at (startAlone g n.pg.tick) else .afterPredecessor }

/-- The queue's own part of a commitment: the head COMMITTED and the records in force. -/
def committedEntries (e : Entry) (f : BlockFields) (g : Tick) (n : Node) : Node :=
  let m := onEntry e.num (committedAs e g n) n
  { m with bq := takeForce f m.bq }

/-- What a commitment does before the next head is evaluated. -/
def committedNode (e : Entry) (f : BlockFields) (g : Tick) (n : Node) : Node :=
  forAxes axLeavesRest (headChanged (withdrawReady e.num (manualFromBlock f (committedEntries e f g n))))

theorem commit_eq (e : Entry) (f : BlockFields) (g : Tick) (n : Node) :
    commit e f g n = evaluateHead (committedNode e f g n) := rfl

theorem axLeavesRest_only (c : Chan) (p : AxisParams) (n : Node) :
    onlyChanges [.channel0, .channel1] n (axLeavesRest c p n) :=
  onlyChanges_mono (by cases c <;> simp [chanPart]) (onAx_only c chainMotion n)

/-- Behind the entries themselves a commitment touches of the queue the head wait timer alone. -/
theorem committedNode_entries (e : Entry) (f : BlockFields) (g : Tick) (n : Node) :
    (committedNode e f g n).bq.entries = (committedEntries e f g n).bq.entries := by
  have ha (m : Node) : (forAxes axLeavesRest m).bq = m.bq :=
    forAxes_only axLeavesRest_only m .blocks (by simp) (by decide)
  have hm (m : Node) : (manualFromBlock f m).bq = m.bq := manualFromBlock_only f m .blocks (by simp) (by decide)
  have hh (m : Node) : (headChanged m).bq.entries = m.bq.entries := by
    simp only [headChanged, clearAbandoned, clearCond_bq, presetHead]
  rw [committedNode, ha, hh, withdrawReady, withdrawNamed_bq, hm]

theorem commit_only (e : Entry) (f : BlockFields) (g : Tick) (n : Node) : onlyChanges commitParts n (commit e f g n) := by
  rw [commit_eq]
  have h0 : onlyChanges [.blocks] n (committedEntries e f g n) := withBq_only _ n
  have h1 := onlyChanges_both h0 (manualFromBlock_only f _) (ps := commitParts) (by simp) (by simp)
  have h2 := onlyChanges_trans h1 (onlyChanges_nil (withdrawNamed_only (isReadyFor e.num) _))
  have h3 := onlyChanges_trans h2 (onlyChanges_mono (by simp) (headChanged_only _))
  have h4 := onlyChanges_trans h3 (onlyChanges_mono (by simp) (forAxes_only axLeavesRest_only _))
  exact onlyChanges_trans h4 (onlyChanges_mono (by simp) (evaluateHead_only _))

/-- No head that a commitment leaves carries the committed number. -/
theorem committedNode_head {e : Entry} {f : BlockFields} {g : Tick} {n : Node} {x : Entry}
    (hx : headEntry (committedNode e f g n) = some x) : x.num ≠ e.num := by
  have hmem : x ∈ (committedEntries e f g n).bq.entries := by
    rw [← committedNode_entries]
    exact List.mem_of_find?_eq_some hx
  have hu : uncommitted x = true := List.find?_some hx
  obtain ⟨y, -, rfl⟩ := List.mem_map.1 hmem
  by_cases hy : y.num = e.num
  · simp [hy, committedAs, uncommitted, inChain] at hu
  · simp [hy]

/-- The committed entry is the first of its number still, and the evaluation of the next head leaves it. -/
theorem commit_find {e : Entry} {f : BlockFields} {g : Tick} {n : Node}
    (he : n.bq.entries.find? (fun y => y.num == e.num) = some e) :
    (commit e f g n).bq.entries.find? (fun y => y.num == e.num) = some (committedAs e g n e) := by
  rw [commit_eq, find_evaluateHead fun x hx => committedNode_head hx, committedNode_entries]
  refine (find_onEntry_self (num := e.num) (f := committedAs e g n) (fun _ => rfl) n).trans ?_
  rw [he]
  rfl

/-! ### GO (R70, R79) -/

section
variable {num : BlockNo} {g : Tick} {i : Nat} {n : Node} {e : Entry}

theorem applyGo_commits {f : BlockFields} (he : evaluatedHead n = some e) (hf : e.fields = some f) (hn : e.num = num)
    (hs : n.cu.stopped = false) (ho : e.orphan = false) : applyGo num g i n = commit e f g n := by
  unfold applyGo
  simp only [he, hf]
  rw [if_neg (by simp [hn]), if_neg (by simp [hs, ho])]

theorem applyGo_discards (he : evaluatedHead n = some e) (hf : e.fields.isSome = true) (hn : e.num = num)
    (h : n.cu.stopped = true ∨ e.orphan = true) : applyGo num g i n = raiseHold .syncSlip (BitVec.ofNat 8 i) n := by
  obtain ⟨f, hf⟩ := Option.isSome_iff_exists.1 hf
  unfold applyGo
  simp only [he, hf]
  rw [if_neg (by simp [hn]), if_pos h]

theorem applyGo_only : onlyChanges commitParts n (applyGo num g i n) := by
  unfold applyGo
  split
  · split
    · split_ifs
      · exact onlyChanges_refl _ n
      · exact onlyChanges_mono (by simp) (raiseHold_only _ _ n)
      · exact commit_only _ _ _ n
    · exact onlyChanges_refl _ n
  · exact onlyChanges_refl _ n

end

/-! ### The HOLD that a HOLD-class raising asks for (R45, R50) -/

theorem takesFaults_notHold : TakesFaults fun e => isHold e.payload = false :=
  fun _ => ⟨fun _ _ => rfl, fun _ _ _ _ => rfl⟩

theorem raiseCommon_noHold (c : Cond) (d : Byte) {n : Node} (h : txHas isHold n = false) :
    txHas isHold (raiseCommon c d n) = false := by
  have ha : AllTx (fun e => isHold e.payload = false) n := by simpa [AllTx, txHas] using h
  have hr := raiseCommon_all takesFaults_notHold c d ha
  simpa [AllTx, txHas] using hr

/-- Held, the kept frames and so the frames on their way through the kept ones are as before a raising. -/
theorem raiseCommon_hold_tests (c : Cond) (d : Byte) (n : Node) :
    (raiseCommon c d n).cu.held = n.cu.held ∧ keptHold (raiseCommon c d n) = keptHold n := by
  have ho := raiseCommon_only c d n
  have hk : (raiseCommon c d n).kept = n.kept := ho .kept (by simp) (by decide)
  exact ⟨ho .held (by simp) (by decide), by rw [keptHold, hk]; rfl⟩

theorem condIn_holdClass {c : Cond} (d : Byte) (n : Node) (hc : condClass c = .hold) :
    hasHold (raiseCommon c d n).cu.own = true := by
  refine hasHold_of_condIn hc ?_
  rw [raiseCommon_condIn c d n (by rintro rfl; simp [condClass, condNumber] at hc)]
  simp

theorem raiseHold_asks {c : Cond} (d : Byte) {n : Node} (hc : condClass c = .hold) (hh : n.cu.held = false)
    (ht : txHas isHold n = false) (hk : keptHold n = false) (hr : hasRoom n) : waiting .hold (raiseHold c d n) := by
  obtain ⟨ho, hl⟩ := hr
  obtain ⟨hheld, hkept⟩ := raiseCommon_hold_tests c d n
  have hroom : Roomy 7 (raiseCommon c d n) := raiseCommon_roomy c d ⟨ho, hl⟩ (by omega)
  have hask : raiseHold c d n = ask .hold (raiseCommon c d n) := by
    rw [raiseHold, heldTest, condIn_holdClass d n hc, hheld, hkept, raiseCommon_noHold c d ht, hh, hk]
    rfl
  rw [hask]
  exact askWith_enters false hroom.on (Nat.lt_succ_of_le hroom.len) fun _ => rfl

theorem raiseHold_plain (c : Cond) (d : Byte) {n : Node}
    (h : n.cu.held = true ∨ txHas isHold n = true ∨ keptHold n = true) : raiseHold c d n = raiseCommon c d n := by
  obtain ⟨hheld, hkept⟩ := raiseCommon_hold_tests c d n
  refine if_neg ?_
  rw [hheld, hkept]
  rcases h with h | h | h
  · simp [h]
  · have ht : txHas isHold (raiseCommon c d n) = true :=
      (txHas_hold_iff _).2 (raiseCommon_hold c d ((txHas_hold_iff n).1 h))
    simp [ht]
  · simp [h]

/-! ### The rows and the frames -/

/-- OVERRIDE_APPLY with the first kept OVERRIDE in a listed form. -/
theorem overrideApply_completes {s : State} {k : Kept} {form value : Byte} (hl : loaded s.node = true)
    (hk : s.node.kept.find? (fun x => isOverride x.payload) = some k) (hf : form = 0 ∨ form = 1)
    (hp : k.payload = .override form value) :
    completes .overrideApply s (fun t => t.pg = overridden k.sender form value s.node.pg ∧
      t.kept = s.node.kept.erase k ∧ onlyChanges [.kept, .path] s.node t) := by
  refine completes_applyFirst (test := isOverride) rfl hl hk ?_
  have ha (n : Node) : applyKept k n = { n with pg := overridden k.sender form value n.pg } := by
    simp only [applyKept, hp, applyOverride_eq hf]
  rw [ha, finish_pg, finish_kept]
  exact ⟨rfl, rfl, finish_line_only (onlyChanges_both (withKept_only _ _) (withPg_only _ _) (by simp) (by simp))⟩

theorem ownKnob_only (rx : Rx) (form : Byte) (n : Node) : onlyChanges [.pendant] n (ownKnob rx form n) := by
  unfold ownKnob
  split
  · exact withPd_only _ n
  · exact onlyChanges_refl _ n

theorem engaged_ownKnob (rx : Rx) (form : Byte) (n : Node) : engaged (ownKnob rx form n) = engaged n := by
  unfold ownKnob
  split <;> rfl

/-- An OVERRIDE outside its window (R79, R88). -/
theorem acceptOverride_outside {rx : Rx} {st : Stamp} {form value : Byte} {c : Moment} {n : Node}
    (hf : form = 0 ∨ form = 1)
    (h : windowOf (keptOf rx c st (.override form value)).apply c.tick n.pg.tick ≠ .inTime) :
    let t := finish (acceptOverride rx st form value c n)
    t.pg = overridden rx.sender form value n.pg ∧ t.kept = n.kept ∧
    (engaged n = true → condIn .syncSlip t.cu.own = true) ∧ onlyChanges [.path, .pendant, .conds] n t ∧
    (engaged n = false → onlyChanges [.path, .pendant] n t) := by
  have hk := ownKnob_only rx form n
  have hkpg : (ownKnob rx form n).pg = n.pg := hk .path (by simp) (by decide)
  have hw : windowOf (keptOf rx c st (.override form value)).apply c.tick (ownKnob rx form n).pg.tick ≠ .inTime := by
    rwa [hkpg]
  have ha : applyKept (keptOf rx c st (.override form value)) (ownKnob rx form n) =
      { ownKnob rx form n with pg := overridden rx.sender form value n.pg } := by
    rw [← hkpg]
    exact applyOverride_eq hf _ _ _
  have hstep : onlyChanges [.path, .pendant] n (applyKept (keptOf rx c st (.override form value)) (ownKnob rx form n)) := by
    rw [ha]
    exact onlyChanges_both hk (withPg_only _ _) (by simp) (by simp)
  have ho := finish_placeFrame_only hw
  have hpg := ho .path (by simp) (by decide)
  have hkept : (applyKept (keptOf rx c st (.override form value)) (ownKnob rx form n)).kept = n.kept :=
    hstep .kept (by simp) (by decide)
  intro t
  have ht : t = finish (placeFrame (keptOf rx c st (.override form value)) c.tick (ownKnob rx form n)) := by
    simp only [t, acceptOverride, if_pos hf, keepFrame]
  rw [ht]
  refine ⟨hpg.trans (by rw [ha]), (ho .kept (by simp) (by decide)).trans hkept, fun he => ?_,
    onlyChanges_both hstep ho (by simp) (by simp), fun he => ?_⟩
  · exact finish_placeFrame_slips hw (by rwa [engaged_ownKnob])
  · exact onlyChanges_trans hstep (onlyChanges_nil (finish_placeFrame_still hw (by rwa [engaged_ownKnob])))

/-- A PACE of another node outside its window (R79, R94). -/
theorem acceptPace_outside {rx : Rx} {st : Stamp} {fl : Byte} {run : BlockNo} {el : BitVec 16} {c : Moment} {n : Node}
    (ho : rx.own = false) (h : windowOf (keptOf rx c st (.pace fl run el)).apply c.tick n.pg.tick ≠ .inTime) :
    let t := finish (acceptPace rx st (.pace fl run el) c n)
    t.kept = n.kept ∧ (engaged n = true → condIn .syncSlip t.cu.own = true) ∧ onlyChanges [.conds] n t ∧
    (engaged n = false → onlyChanges [] n t) := by
  have ha : onlyChanges [.conds] n (applyKept (keptOf rx c st (.pace fl run el)) n) := applyPace_only
  have hp := onlyChanges_trans ha (finish_placeFrame_only h)
  intro t
  have ht : t = finish (placeFrame (keptOf rx c st (.pace fl run el)) c.tick n) := by
    simp only [t, acceptPace_of_other ho]
  rw [ht]
  refine ⟨hp .kept (by simp) (by decide), finish_placeFrame_slips h, hp, fun he => ?_⟩
  have hidle : applyKept (keptOf rx c st (.pace fl run el)) n = n := applyPace_idle (.inr he)
  have hs := finish_placeFrame_still h he
  rwa [hidle] at hs

/-- The node with an applied frame taken out of its kept ones. -/
def withoutKept (k : Kept) (n : Node) : Node := { n with kept := n.kept.erase k }

/-- PACE_APPLY with the first kept PACE (R94). -/
theorem paceApply_completes {s : State} {k : Kept} {fl : Byte} {run : BlockNo} {el : BitVec 16} {P : Node → Prop}
    (hl : loaded s.node = true) (hk : s.node.kept.find? (fun x => isPace x.payload) = some k)
    (hp : k.payload = .pace fl run el)
    (h : P (finish (applyPace k.stamp k.sender k.own (paceRunning fl run) el (withoutKept k s.node)))) :
    completes .paceApply s P := by
  refine completes_applyFirst (test := isPace) rfl hl hk ?_
  unfold applyKept
  rw [hp]
  exact h

theorem withoutKept_only (k : Kept) (n : Node) : onlyChanges [.kept] n (finish (withoutKept k n)) :=
  finish_line_only (withKept_only _ n)

/-- The slip behind an application leaves the conditions that the application has raised. -/
theorem placeFrame_condIn {k : Kept} {t : Tick} {n : Node} {x : Cond} (h : windowOf k.apply t n.pg.tick ≠ .inTime)
    (hx : x ≠ .txqOverflow) (hc : condIn x (applyKept k n).cu.own = true) :
    condIn x (finish (placeFrame k t n)).cu.own = true := by
  rw [placeFrame_outside h, finish_condIn _ hx]
  split
  · simp [raiseHold_condIn _ _ _ hx, hc]
  · exact hc

/-- The stamp that an accepted GO leaves in its entry (R70; assumption log 30). -/
def stampedAs (full : Tick) (e : Entry) : Entry := { e with goStamp := some full }

/-- A kept GO outside its window is applied to the head with its stamp (R70, R79). -/
theorem acceptGo_outside {rx : Rx} {st : Stamp} {num : BlockNo} {c : Moment} {n : Node} (hc : goCase num n = .kept)
    (h : windowOf (keptOf rx c st (.go num)).apply c.tick n.pg.tick ≠ .inTime) :
    let full := fullStampTick st.tick c.tick
    let m := onEntry num (stampedAs full) n
    let t := finish (acceptGo rx st num c n)
    t.kept = n.kept ∧ (engaged n = true → condIn .syncSlip t.cu.own = true) ∧
    t.bq = (applyGo num full rx.sender.val m).bq ∧ onlyChanges [.conds] (applyGo num full rx.sender.val m) t ∧
    (condIn .syncSlip (applyGo num full rx.sender.val m).cu.own = true → condIn .syncSlip t.cu.own = true) := by
  intro full m t
  have ht : t = finish (placeFrame (keptOf rx c st (.go num)) c.tick m) := by
    simp only [t, acceptGo, hc]
    rfl
  have ho : onlyChanges [.conds] (applyGo num full rx.sender.val m) t := ht ▸ finish_placeFrame_only (n := m) h
  have hg : (applyGo num full rx.sender.val m).kept = n.kept := applyGo_only (n := m) .kept (by simp) (by decide)
  refine ⟨(ho .kept (by simp) (by decide)).trans hg, fun he => ?_, ho .blocks (by simp) (by decide), ho,
    fun hc => ?_⟩
  · rw [ht]
    exact finish_placeFrame_slips (n := m) h ((engaged_onEntry (f := stampedAs full) (fun _ => rfl) n).trans he)
  · rw [ht]
    exact placeFrame_condIn (n := m) h (by decide) hc

/-- A stamped head that a GO commits: its entry, first of its number, COMMITTED with the stamp and its start. -/
theorem applyGo_stamped_commits {num : BlockNo} {full : Tick} {i : Nat} {n : Node} {e : Entry}
    (hc : goCase num n = .kept) (he : evaluatedHead n = some e) (hf : e.fields.isSome = true)
    (hs : n.cu.stopped = false) (ho : e.orphan = false) :
    ∃ c, (applyGo num full i (onEntry num (stampedAs full) n)).bq.entries.find? (fun y => y.num == num) = some c ∧
      c.state = .committed ∧ c.goStamp = some full ∧
      c.start = if chainAtRest n then .at (startAlone full n.pg.tick) else .afterPredecessor := by
  obtain ⟨rfl, hx⟩ := find_of_kept hc he
  obtain ⟨f, hf⟩ := Option.isSome_iff_exists.1 hf
  have hhead : evaluatedHead (onEntry e.num (stampedAs full) n) = some (stampedAs full e) :=
    evaluatedHead_onEntry (f := stampedAs full) (fun _ => rfl) he rfl
  have hfind : (onEntry e.num (stampedAs full) n).bq.entries.find? (fun y => y.num == e.num) =
      some (stampedAs full e) := by
    rw [find_onEntry_self (f := stampedAs full) (fun _ => rfl), hx]
    rfl
  have hn : (stampedAs full e).num = e.num := rfl
  rw [applyGo_commits hhead hf hn hs ho]
  refine ⟨_, commit_find (e := stampedAs full e) hfind, rfl, rfl, ?_⟩
  simp only [committedAs, chainAtRest_onEntry (f := stampedAs full) (fun _ => rfl), onEntry_pg]

/-- A stamped head whose GO is discarded keeps the stamp, and the discard is the one raising. -/
theorem applyGo_stamped_discards {num : BlockNo} {full : Tick} {i : Nat} {n : Node} {e : Entry}
    (hc : goCase num n = .kept) (he : evaluatedHead n = some e) (hf : e.fields.isSome = true)
    (hd : n.cu.stopped = true ∨ e.orphan = true) :
    let m := applyGo num full i (onEntry num (stampedAs full) n)
    condIn .syncSlip m.cu.own = true ∧ onlyChanges [.blocks, .conds] n m ∧
    evaluatedHead m = some { e with goStamp := some full } := by
  obtain ⟨rfl, hx⟩ := find_of_kept hc he
  have hhead : evaluatedHead (onEntry e.num (stampedAs full) n) = some (stampedAs full e) :=
    evaluatedHead_onEntry (f := stampedAs full) (fun _ => rfl) he rfl
  intro m
  have hm : m = raiseHold .syncSlip (BitVec.ofNat 8 i) (onEntry e.num (stampedAs full) n) :=
    applyGo_discards hhead hf rfl hd
  have hr := raiseHold_only .syncSlip (BitVec.ofNat 8 i) (onEntry e.num (stampedAs full) n)
  rw [hm]
  refine ⟨by simp [raiseHold_condIn], onlyChanges_both (onEntry_only _ _ n) hr (by simp) (by simp), ?_⟩
  rw [evaluatedHead_of_bq (hr .blocks (by simp) (by decide)), hhead]
  rfl

/-- Settles O19: each application is its own rule, a frame outside its window that application and the slip, and a
HOLD-class raising the held test on what every raising leaves. -/
theorem overrideAndPaceApply : Obligations.OverrideAndPaceApply := by
  unfold Obligations.OverrideAndPaceApply
  refine ⟨fun s k value hl hk => ⟨fun hp => ?_, fun hp => ?_⟩, fun s k fl run el hl hk hp => ?_,
    fun rx st s => ⟨fun form value => ?_, fun fl run el => ?_, fun num => ?_⟩, fun c d n hc => ⟨?_, ?_⟩⟩
  · exact overrideApply_completes hl hk (.inl rfl) hp
  · exact overrideApply_completes hl hk (.inr rfl) hp
  · have ho : onlyChanges [.kept, .conds] s.node
        (finish (applyPace k.stamp k.sender k.own (paceRunning fl run) el (withoutKept k s.node))) :=
      finish_line_only (onlyChanges_both (withKept_only _ _) applyPace_only (by simp) (by simp))
    have still {m : Node} (h : m = withoutKept k s.node) : onlyChanges [.kept] s.node (finish m) :=
      h ▸ withoutKept_only k s.node
    refine paceApply_completes hl hk hp ⟨?_, ho, fun hi => still (applyPace_idle hi),
      fun hown h hf => ⟨fun he ha => ?_, fun ha => still (applyPace_agrees hf ha)⟩,
      fun hno => still (applyPace_of_none (List.find?_eq_none.2 fun x hx => by simpa using hno x hx))⟩
    · rw [finish_kept]
      exact applyPace_only .kept (by simp) (by decide)
    · rw [applyPace_slips (n := withoutKept k s.node) (r := paceRunning fl run) hown he hf ha]
      exact finish_raiseHold_condIn _ _ _ (by decide)
  · exact frameCompletes_of (unit := stamped rx st (acceptOverride rx st form value)) rfl
      fun h hf => acceptOverride_outside hf h
  · refine frameCompletes_of (unit := stamped rx st (acceptPace rx st (.pace fl run el))) rfl
      ⟨fun ho => ?_, fun ho h => acceptPace_outside ho h⟩
    simp only [stamped, acceptPace, ho, if_true]
    exact finish_only _
  · refine frameCompletes_of (unit := fun c n => stamped rx st (acceptGo rx st num) c (goWithdraw rx num n)) rfl
      fun hc hw => ?_
    obtain ⟨hkept, hslip, hbq, ho, hstays⟩ := acceptGo_outside hc hw
    refine ⟨hkept, hslip, fun e he hf => ⟨fun hs hor => ?_, fun hd => ?_⟩⟩
    · simp only [stamped]
      rw [hbq]
      exact applyGo_stamped_commits hc he hf hs hor
    · obtain ⟨hsl, hch, hhead⟩ := applyGo_stamped_discards (i := rx.sender.val) hc he hf hd
      exact ⟨hstays hsl, onlyChanges_both hch ho (by simp) (by simp), (evaluatedHead_of_bq hbq).trans hhead⟩
  · exact raiseHold_asks d hc
  · exact raiseHold_plain c d

end Sys2Proof.Machine
end

section
/-! PROOF. STATE, PANEL and FAULT frames at the node (R38, R39, R46, R178, R183, R186). -/

namespace Sys2Proof.Machine

-- The text is checked as one file under a data limit that many waiting threads would exceed.
set_option Elab.async false

/-! ### What the acceptance of a frame leaves for the units -/

theorem heard_su (i : Nat) (n : Node) : (heard i n).su = n.su := by
  by_cases hl : (entryAt i n).state = .live
  · rw [heard_live hl]
    rfl
  · have he : (entryLive i (entryHeard i n)).su = n.su := (entryLive_acts i (entryHeard i n)).su
    rw [heard_notLive hl]
    split
    · exact (stopLearnt_only i _ .start (by simp [stopParts]) (by decide)).trans he
    · exact he

theorem accepted_peer_node {rx : Rx} {n : Node} (h : rx.own = false) (hs : rx.sender ≠ n.su.node) :
    (accepted rx n).su.node = n.su.node := by
  rw [accepted_peer h hs, heard_su]
  exact (lineAccept_peerTaken h).node

/-- A frame that does not clash writes at most its sender's entry, as one heard of. -/
theorem accepted_entries {rx : Rx} {n : Node} (h : clashing rx n = false) (hlen : n.nt.entries.length = 16) :
    (accepted rx n).nt.entries.length = 16 ∧ clashing rx (accepted rx n) = false ∧
    ∀ i, i ≠ rx.sender.val → entryAt i (accepted rx n) = entryAt i n := by
  cases ho : rx.own with
  | true =>
    have he : (accepted rx n).nt.entries = n.nt.entries := sameEntries_of_only (accepted_own_only ho)
    exact ⟨he ▸ hlen, by simp [clashing, ho], fun i _ => by simp only [entryAt, he]⟩
  | false =>
    have hs : rx.sender ≠ n.su.node := by simpa [clashing, ho] using h
    obtain ⟨he, -⟩ := accepted_peer_parts ho hs hlen
    refine ⟨by rw [he, List.length_set, hlen], by simp [clashing, accepted_peer_node ho hs, hs], fun i hi => ?_⟩
    exact (entryAt_of_set he (by rw [hlen]; exact rx.sender.isLt)).trans (if_neg hi.symm)

theorem entryAt_finish (i : Nat) (n : Node) : entryAt i (finish n) = entryAt i n := by
  simp only [entryAt, finish_entries]

/-! ### PANEL (R39, R186) -/

theorem writePanel_entries (i : Nat) (p : Panel) (n : Node) :
    (writePanel i p n).nt.entries = n.nt.entries.set i { entryAt i n with panel := some p } :=
  reformMode_sameEntries (setEntry i { entryAt i n with panel := some p } n)

theorem acceptPanel_entries {rx : Rx} {b : PanelBody} {p : Panel} {n : Node} (hp : panelFields b = some p)
    (hc : clashing rx n = false) (hlen : n.nt.entries.length = 16) :
    (entryAt rx.sender.val (finish (acceptPanel rx b n))).panel = some p ∧
    ∀ i, i ≠ rx.sender.val → entryAt i (finish (acceptPanel rx b n)) = entryAt i n := by
  have ha : acceptPanel rx b n = writePanel rx.sender.val p n := by simp [acceptPanel, hp, hc]
  have hat (i : Nat) := entryAt_of_set (j := i) (writePanel_entries rx.sender.val p n)
    (by rw [hlen]; exact rx.sender.isLt)
  rw [ha]
  refine ⟨?_, fun i hi => ?_⟩
  · rw [entryAt_finish, hat, if_pos rfl]
  · rw [entryAt_finish, hat, if_neg hi.symm]

theorem acceptPanel_none {rx : Rx} {b : PanelBody} (n : Node) (hp : panelFields b = none) : acceptPanel rx b n = n := by
  simp [acceptPanel, hp]

/-! ### STATE of another node (R38) -/

/-- An entry as another node's STATE writes it (R38). -/
def statedEntry (b : StateBody) (e : NodeEntry) : NodeEntry :=
  { e with
    report := some (stateReported b)
    panel := if e.funcs.any Functions.pendant && carriesPanel b then b.panel.map statePanel else e.panel }

/-- What a STATE's panel part and the interlock make of a written entry. -/
def stateReacted (i : Nat) (b : StateBody) (e : NodeEntry) (n : Node) : Node :=
  let k := stopLearnt i n
  tscInterlockTest (if e.funcs.any Functions.pendant && carriesPanel b then reformMode k else k)

theorem writeState_peer {i : Nat} {b : StateBody} {n : Node} (h : i ≠ me n) :
    writeState i b n = stateReacted i b (entryAt i n) (setEntry i (statedEntry b (entryAt i n)) n) := by
  simp [writeState, h, stateReacted, statedEntry]

theorem stateReacted_entries (i : Nat) (b : StateBody) (e : NodeEntry) (n : Node) :
    SameEntries n (stateReacted i b e n) :=
  ((stopLearnt_leaves i n).entries.trans (.ite (reformMode_sameEntries _) rfl)).trans (tscInterlockTest_sameEntries _)

theorem stateReacted_stops {i : Nat} {b : StateBody} {e : NodeEntry} {n : Node}
    (h : hasStop (reportedConds (entryAt i n)) = true) : Latched (stateReacted i b e n) := by
  have hl : Latched (stopLearnt i n) := by
    rw [stopLearnt, if_pos h]
    exact setLatch_latched _
  exact (tscInterlockTest_acts _).latched (.ite ((reformMode_acts _).latched hl) hl)

theorem writeState_peer_entries {i : Nat} {b : StateBody} {n : Node} (h : i ≠ me n) :
    (writeState i b n).nt.entries = n.nt.entries.set i (statedEntry b (entryAt i n)) := by
  rw [writeState_peer h]
  exact stateReacted_entries i b (entryAt i n) _

/-- A STOP-class condition in another node's STATE sets the latch (R38, R178). -/
theorem writeState_peer_stops {i : Nat} {b : StateBody} {n : Node} (h : i ≠ me n) (hi : i < n.nt.entries.length)
    (hl : (entryAt i n).state = .live) (hs : hasStop (stateReported b).conds = true) : Latched (writeState i b n) := by
  rw [writeState_peer h]
  refine stateReacted_stops ?_
  have he : entryAt i (setEntry i (statedEntry b (entryAt i n)) n) = statedEntry b (entryAt i n) :=
    (entryAt_of_set (n := n) rfl hi).trans (if_pos rfl)
  rw [he]
  simpa [reportedConds, statedEntry, hl] using hs

/-! ### The node's own STATE (R46) -/

theorem raiseOverflow_jogSeq (n : Node) : (raiseOverflow n).cu.jogSeq = n.cu.jogSeq := by
  unfold raiseOverflow
  dsimp only
  split_ifs <;> rfl

/-- A raising of another condition leaves the place of the latest JOG_OVERRUN. -/
theorem raiseCommon_jogSeq {c : Cond} (d : Byte) (n : Node) (hc : c ≠ .jogOverrun) :
    (raiseCommon c d n).cu.jogSeq = n.cu.jogSeq := by
  have hn : (noteRaise c d n).cu.jogSeq = n.cu.jogSeq := by simp [noteRaise, raisedCU, hc]
  unfold raiseCommon askFault
  dsimp only
  split_ifs
  · exact (raiseOverflow_jogSeq _).trans hn
  · exact hn
  · exact hn

theorem lineWarnTest_jogSeq (n : Node) : (lineWarnTest n).cu.jogSeq = n.cu.jogSeq := by
  unfold lineWarnTest
  split_ifs
  · unfold clearCond
    split <;> rfl
  · rfl
  · exact raiseCommon_jogSeq 0 n (by decide)

theorem attemptSucceeded_cu (n : Node) : (attemptSucceeded n).cu = n.cu := by
  unfold attemptSucceeded
  split <;> rfl

theorem accepted_own_jogSeq {rx : Rx} {n : Node} (h : rx.own = true) : (accepted rx n).cu.jogSeq = n.cu.jogSeq := by
  rw [accepted_own h, recount, lineWarnTest_jogSeq]
  exact congrArg CU.jogSeq (attemptSucceeded_cu (frameOver rx n))

theorem clearReported_jogOverrun {n : Node} {k : Nat} (h : n.cu.jogSeq ≤ k) :
    condIn .jogOverrun (clearReported (some k) n).cu.own = false := by
  simp only [clearReported, h, if_true]
  split
  · simp
  · simp

/-- A written STATE raises and clears no JOG_OVERRUN. -/
theorem writeState_jogOverrun (i : Nat) (b : StateBody) (n : Node) :
    condIn .jogOverrun (writeState i b n).cu.own = condIn .jogOverrun n.cu.own := by
  have hstop (m : Node) : condIn .jogOverrun (stopLearnt i m).cu.own = condIn .jogOverrun m.cu.own :=
    stopLearnt_condIn i m (by decide) (by decide) (by decide)
  have hmode (m : Node) : condIn .jogOverrun (reformMode m).cu.own = condIn .jogOverrun m.cu.own :=
    (reformMode_acts m).condIn (by decide) (by decide) (by decide)
  unfold writeState
  dsimp only
  rw [(tscInterlockTest_acts _).condIn (by decide) (by decide) (by decide)]
  split_ifs
  · exact hmode _
  · exact (hmode _).trans (hstop _)
  · rfl
  · exact hstop _

theorem acceptState_own_jogOverrun {rx : Rx} {b : StateBody} {n : Node} {k : Nat} (h : rx.own = true)
    (hk : n.cu.jogSeq ≤ k) : condIn .jogOverrun (acceptState rx (some k) b n).cu.own = false := by
  have ha : acceptState rx (some k) b n = writeState rx.sender.val b (clearReported (some k) n) := by
    simp [acceptState, clashing, h]
  rw [ha, writeState_jogOverrun, clearReported_jogOverrun hk]

/-- A frame of a unit that works on the accepted node, at a node that has joined the line and finds R9's test met. -/
theorem frame_completes {i : Instr} {rx : Rx} {s : State} {unit : Moment → Node → Node} {P : Node → Prop}
    (hi : exec i s = frame rx unit s) (hl : loaded s.node = true) (hj : joins rx.lead.val s.node = true)
    (hs : slotClear rx s.node = true) (h : P (finish (unit (captureOf rx s.node) (accepted rx s.node)))) :
    completes i s P := frameCompletes_of (P := fun _ t => P t) hi h hl hj hs

/-- A STATE at a node that has joined the line and finds R9's test met. -/
theorem state_completes {rx : Rx} {b : StateBody} {s : State} {P : Node → Prop} (hl : loaded s.node = true)
    (hj : joins rx.lead.val s.node = true) (hs : slotClear rx s.node = true)
    (h : P (finish (acceptState rx (sentStateAt s.node) b (accepted rx s.node)))) : completes (.state rx b) s P := by
  refine completes_live (f := heardFrame rx fun n => acceptState rx (sentStateAt n) b (accepted rx n)) rfl hl ?_
  rw [heardFrame, joinedFrame_of_joins _ hj, takeFrame_of_slotClear _ hs]
  exact h

/-- Settles O42: the acceptance leaves the other entries, and each unit writes its fields into the sender's. -/
theorem statePanelAndFaultFrames : Obligations.StatePanelAndFaultFrames := by
  unfold Obligations.StatePanelAndFaultFrames
  refine fun rx s hl hj hs hlen => ⟨fun b ho hne => state_completes hl hj hs ?_, fun b p hp hc => ?_, fun b hp => ?_,
    fun b => ?_, fun b k ho hk hjog => state_completes hl hj hs ?_⟩
  · have hc : clashing rx s.node = false := by simp [clashing, hne]
    obtain ⟨hlen', hc', hat⟩ := accepted_entries hc hlen
    obtain ⟨hent, -⟩ := accepted_peer_parts ho hne hlen
    have hheard : entryAt rx.sender.val (accepted rx s.node) = heardEntry (entryAt rx.sender.val s.node) :=
      (entryAt_of_set hent (by rw [hlen]; exact rx.sender.isLt)).trans (if_pos rfl)
    have hme : rx.sender.val ≠ me (accepted rx s.node) := fun h =>
      hne (Fin.ext (h.trans (congrArg Fin.val (accepted_peer_node ho hne))))
    have ha : acceptState rx (sentStateAt s.node) b (accepted rx s.node) =
        writeState rx.sender.val b (accepted rx s.node) := by simp [acceptState, hc', ho]
    have hw (i : Nat) := entryAt_of_set (j := i) (writeState_peer_entries (b := b) hme)
      (by rw [hlen']; exact rx.sender.isLt)
    have hself := (entryAt_finish _ _).trans ((hw rx.sender.val).trans (if_pos rfl))
    rw [ha, hself]
    refine ⟨rfl, by rw [hheard]; rfl, by rw [hheard]; rfl, fun i hi => ?_, fun hstop => ?_⟩
    · rw [entryAt_finish, hw, if_neg hi.symm, hat i hi]
    · exact finish_latched (writeState_peer_stops hme (by rw [hlen']; exact rx.sender.isLt) (by rw [hheard]; rfl) hstop)
  · refine frame_completes (unit := fun _ n => acceptPanel rx b n) rfl hl hj hs ?_
    obtain ⟨hlen', hc', hat⟩ := accepted_entries hc hlen
    obtain ⟨hself, hother⟩ := acceptPanel_entries hp hc' hlen'
    exact ⟨hself, fun i hi => (hother i hi).trans (hat i hi)⟩
  · refine frame_completes (unit := fun _ n => acceptPanel rx b n) rfl hl hj hs ?_
    rw [acceptPanel_none _ hp]
    exact finish_only _
  · exact frame_completes (unit := fun _ n => n) rfl hl hj hs (finish_only _)
  · rw [finish_condIn _ (by decide), hk]
    exact acceptState_own_jogOverrun ho ((accepted_own_jogSeq ho).trans_le hjog)

end Sys2Proof.Machine
end

section
/-! PROOF. A silence timeout (R35, R40, R120): the entry that is lost, and the JOG records through what follows. -/

namespace Sys2Proof.Machine

-- The text is checked as one file under a data limit that many waiting threads would exceed.
set_option Elab.async false

/-! ### The channels' JOG records through a reaction (R120) -/

/-- Both channels with their last JOG records as before. -/
structure SameJogs (n m : Node) : Prop where
  ax0 : m.ax0.lastJog = n.ax0.lastJog := by rfl
  ax1 : m.ax1.lastJog = n.ax1.lastJog := by rfl

theorem SameJogs.refl (n : Node) : SameJogs n n := {}

theorem SameJogs.trans {n m k : Node} (h : SameJogs n m) (g : SameJogs m k) : SameJogs n k :=
  ⟨g.ax0.trans h.ax0, g.ax1.trans h.ax1⟩

theorem SameJogs.ite {c : Prop} [Decidable c] {n a b : Node} (h : SameJogs n a) (g : SameJogs n b) :
    SameJogs n (if c then a else b) := by
  split
  · exact h
  · exact g

theorem SameJogs.getAx {n m : Node} (h : SameJogs n m) (c : Chan) : (getAx c m).lastJog = (getAx c n).lastJog := by
  cases c
  · exact h.ax0
  · exact h.ax1

theorem sameJogs_of_only {ps : List Part} {n m : Node} (h : onlyChanges ps n m)
    (h0 : Part.channel0 ∉ ps := by decide) (h1 : Part.channel1 ∉ ps := by decide) : SameJogs n m where
  ax0 := congrArg Axis.lastJog (show m.ax0 = n.ax0 from h .channel0 h0 (by decide))
  ax1 := congrArg Axis.lastJog (show m.ax1 = n.ax1 from h .channel1 h1 (by decide))

theorem sameJogs_onAx (c : Chan) {f : Axis → Axis} (hf : ∀ a, (f a).lastJog = a.lastJog) (n : Node) :
    SameJogs n (onAx c f n) := by
  cases c
  · exact { ax0 := hf _ }
  · exact { ax1 := hf _ }

theorem sameJogs_forAxes {f : Chan → AxisParams → Node → Node} (h : ∀ c p m, SameJogs m (f c p m)) (n : Node) :
    SameJogs n (forAxes f n) := by
  have one (c : Chan) (m : Node) : SameJogs m (match axParams c m with | some p => f c p m | none => m) := by
    split
    · exact h c _ m
    · exact .refl m
  exact (one .ax0 n).trans (one .ax1 _)

theorem restIfStill_lastJog (rest : Bool) (a : Axis) : (restIfStill rest a).lastJog = a.lastJog := by
  unfold restIfStill
  split <;> rfl

theorem endJog_lastJog (rest : Bool) (a : Axis) : (endJog rest a).lastJog = a.lastJog := by
  unfold endJog
  split
  · exact restIfStill_lastJog rest _
  · rfl

theorem failReference_lastJog (rest : Bool) (a : Axis) : (failReference rest a).lastJog = a.lastJog := by
  unfold failReference
  split
  · exact restIfStill_lastJog rest _
  · rfl

theorem restMotion_lastJog (a : Axis) : (restMotion a).lastJog = a.lastJog := by
  unfold restMotion
  split <;> rfl

theorem dropMotion_lastJog (rest : Bool) (a : Axis) : (dropMotion rest a).lastJog = a.lastJog := by
  unfold dropMotion
  split <;> rfl

theorem setDrive_lastJog (rest : Bool) (d : DriveState) (a : Axis) : (setDrive rest d a).lastJog = a.lastJog := by
  have h : (if a.drive = .enabled then dropMotion rest a else a).lastJog = a.lastJog := by
    split
    · exact dropMotion_lastJog rest a
    · rfl
  unfold setDrive
  split
  · rfl
  · exact h

/-! ### The latch and the mode -/

theorem latchDrive_sameJogs (c : Chan) (p : AxisParams) (n : Node) : SameJogs n (latchDrive c p n) :=
  .ite (sameJogs_onAx c (setDrive_lastJog _ _) n) (.refl n)

theorem setLatch_sameJogs (n : Node) : SameJogs n (setLatch n) := by
  have h : SameJogs n (forAxes latchDrive { n with cu := { n.cu with stopped := true } }) :=
    SameJogs.trans (m := { n with cu := { n.cu with stopped := true } }) {}
      (sameJogs_forAxes latchDrive_sameJogs _)
  exact .ite (.refl n)
    ((h.trans (sameJogs_of_only (sgStopReaction_only _))).trans (sameJogs_of_only (clStopReaction_only _)))

theorem raiseStop_sameJogs (c : Cond) (d : Byte) (n : Node) : SameJogs n (raiseStop c d n) := by
  have h : SameJogs n { raiseCommon c d n with cu := { (raiseCommon c d n).cu with owed := true } } :=
    (sameJogs_of_only (raiseCommon_only c d n)).trans {}
  exact (h.trans (sameJogs_of_only (askStopall_only _))).trans (setLatch_sameJogs _)

theorem axEndJog_sameJogs (c : Chan) (p : AxisParams) (n : Node) : SameJogs n (axEndJog c p n) :=
  sameJogs_onAx c (endJog_lastJog _) n

theorem axFailRaised_sameJogs (c : Chan) (p : AxisParams) (n : Node) : SameJogs n (axFailRaised c p n) :=
  .ite ((sameJogs_onAx c (failReference_lastJog _) n).trans (sameJogs_of_only (raiseWarn_only _ _ _))) (.refl n)

theorem enablingOff_sameJogs (n : Node) : SameJogs n (enablingOff n) :=
  (sameJogs_forAxes axEndJog_sameJogs n).trans (sameJogs_forAxes axFailRaised_sameJogs _)

theorem modeReaction_sameJogs (m : Mode) (n : Node) : SameJogs n (modeReaction m n) := by
  have h : SameJogs n (if m = .auto then forAxes axEndJog n else n) :=
    .ite (sameJogs_forAxes axEndJog_sameJogs n) (.refl n)
  exact .ite h (h.trans (sameJogs_forAxes axFailRaised_sameJogs _))

theorem motionsAtRest_sameJogs (n : Node) : SameJogs n (motionsAtRest n) := by
  have h : SameJogs n { n with ax0 := restMotion n.ax0, ax1 := restMotion n.ax1 } :=
    { ax0 := restMotion_lastJog _, ax1 := restMotion_lastJog _ }
  exact .ite h (.refl n)

theorem headChanged_sameJogs (n : Node) : SameJogs n (headChanged n) := by
  have h : SameJogs n (clearCond .startStall (presetHead n)) :=
    SameJogs.trans (m := presetHead n) {} (sameJogs_of_only (clearCond_only _ _))
  exact h.trans {}

theorem removeEntries_sameJogs (gone : Entry → Bool) (n : Node) : SameJogs n (removeEntries gone n) := by
  obtain ⟨lc, hlc⟩ := withdrawVerdicts_eq (n.bq.entries.filter gone) (entriesLeft gone n)
  have h : SameJogs n { entriesLeft gone n with lc := lc } := {}
  rw [removeEntries_eq, hlc]
  exact h.trans (.ite (.refl _) (headChanged_sameJogs _))

theorem removeAll_sameJogs (n : Node) : SameJogs n (removeAll n) := by
  have h : SameJogs n { removeEntries (fun _ => true) n with
      bq := { (removeEntries (fun _ => true) n).bq with expected := none } } :=
    (removeEntries_sameJogs _ n).trans {}
  have hp : SameJogs n (emptyBlockSet (forgetForce (setPlanned { removeEntries (fun _ => true) n with
      bq := { (removeEntries (fun _ => true) n).bq with expected := none } }))) :=
    h.trans {}
  exact (hp.trans (motionsAtRest_sameJogs _)).trans (sameJogs_of_only (clLoss_only _))

theorem adoptMode_sameJogs (n : Node) : SameJogs n (adoptMode n) := by
  have h : SameJogs n { removeAll n with nt := { (removeAll n).nt with mode := (removeAll n).nt.sourceMode } } :=
    (removeAll_sameJogs n).trans {}
  exact (h.trans (modeReaction_sameJogs _ _)).trans (sameJogs_of_only (clearCond_only _ _))

theorem compareMode_sameJogs (n : Node) : SameJogs n (compareMode n) :=
  .ite (sameJogs_of_only (clearCond_only _ n)) (.ite (adoptMode_sameJogs n)
    (.ite (.refl n) (sameJogs_of_only (raiseHold_only _ _ n))))

theorem reformMode_sameJogs (n : Node) : SameJogs n (reformMode n) := by
  have h : SameJogs n (if n.nt.enabling && !(sourceRead n).nt.enabling then enablingOff (sourceRead n)
      else sourceRead n) := .ite (SameJogs.trans (m := sourceRead n) {} (enablingOff_sameJogs _)) {}
  exact h.trans (compareMode_sameJogs _)

/-! ### The changed table -/

theorem raiseClashes_sameJogs (ps : List (Nat × Nat)) (n : Node) :
    SameJogs n (ps.foldl (fun k p => raiseStop .ownerClash (BitVec.ofNat 8 p.2) k) n) := by
  induction ps generalizing n with
  | nil => exact .refl n
  | cons p ps ih => exact (raiseStop_sameJogs _ _ n).trans (ih _)

theorem clashTest_sameJogs (n : Node) : SameJogs n (clashTest n) := by
  have h (ps : List (Nat × Nat)) : SameJogs n (ps.foldl (fun k p => raiseStop .ownerClash (BitVec.ofNat 8 p.2) k)
      { n with nt := { n.nt with clashes := clashPairs n } }) :=
    SameJogs.trans (m := { n with nt := { n.nt with clashes := clashPairs n } }) {} (raiseClashes_sameJogs ps _)
  exact .ite ((h _).trans (sameJogs_of_only (clearCond_only _ _))) (h _)

theorem refillRoles_sameJogs (n : Node) : SameJogs n (refillRoles n) := by
  unfold refillRoles
  split
  · exact {}
  · exact .refl n

theorem tscInterlockTest_sameJogs (n : Node) : SameJogs n (tscInterlockTest n) := by
  unfold tscInterlockTest
  split
  · exact .ite (sameJogs_of_only (tscStop_only n)) (.refl n)
  · exact .refl n

theorem tableChanged_sameJogs (n : Node) : SameJogs n (tableChanged n) :=
  (((clashTest_sameJogs n).trans (reformMode_sameJogs _)).trans (refillRoles_sameJogs _)).trans
    (tscInterlockTest_sameJogs _)

/-! ### The lost entry (R35, R40, R88, R120) -/

/-- An entry as its silence leaves it. -/
def lostEntry (e : NodeEntry) : NodeEntry := { e with state := .lost, silence := 0 }

/-- The entry LOST, its clamp value 150 and its JOG records cleared. -/
def entryForgotten (i : Nat) (n : Node) : Node := forgetJogs i (setClamp i 150 (setEntry i (lostEntry (entryAt i n)) n))

/-- With PEER_LOST raised for an expected node. -/
def lossRaised (i : Nat) (n : Node) : Node :=
  if expects i n then raiseHold .peerLost (BitVec.ofNat 8 i) (entryForgotten i n) else entryForgotten i n

/-- What the checks of the table make of a lost entry. -/
def lossReacted (n : Node) : Node := tableChanged (unexpectedClear (mismatchClear n))

theorem entryLost_eq (i : Nat) (n : Node) : entryLost i n = lossReacted (lossRaised i n) := rfl

theorem forgetJog_lastJog (peer : NodeNo) (tog : Bool) (a : Axis) : (forgetJog peer.val a).lastJog ≠ some (peer, tog) := by
  unfold forgetJog
  split
  · rename_i s g h
    split
    · simp
    · rename_i hs
      rw [h]
      exact fun he => hs (congrArg Fin.val (Prod.ext_iff.1 (Option.some.inj he)).1)
  · rename_i h
    simp [h]

theorem entryForgotten_lastJog (peer : NodeNo) (tog : Bool) (c : Chan) (n : Node) :
    (getAx c (entryForgotten peer.val n)).lastJog ≠ some (peer, tog) := by
  cases c
  · exact forgetJog_lastJog peer tog _
  · exact forgetJog_lastJog peer tog _

theorem lossRaised_sameJogs (i : Nat) (n : Node) : SameJogs (entryForgotten i n) (lossRaised i n) :=
  .ite (sameJogs_of_only (raiseHold_only _ _ _)) (.refl _)

theorem lossReacted_sameJogs (n : Node) : SameJogs n (lossReacted n) := by
  have hm : SameJogs n (mismatchClear n) := .ite (.refl n) (sameJogs_of_only (clearCond_only _ n))
  have hu (m : Node) : SameJogs m (unexpectedClear m) := .ite (.refl m) (sameJogs_of_only (clearCond_only _ m))
  exact (hm.trans (hu _)).trans (tableChanged_sameJogs _)

theorem lossReacted_leaves (n : Node) : Leaves [.peerLost] n (lossReacted n) := by
  have hm : Leaves [.peerLost] n (mismatchClear n) :=
    (mismatchClear_acts n).leaves (.ite rfl (sameEntries_of_only (clearCond_only _ n)))
  have hu (m : Node) : Leaves [.peerLost] m (unexpectedClear m) :=
    (unexpectedClear_acts m).leaves (.ite rfl (sameEntries_of_only (clearCond_only _ m)))
  exact (hm.trans (hu _)).trans ((tableChanged_acts _).leaves (tableChanged_sameEntries _))

theorem lossRaised_parts (i : Nat) (n : Node) :
    (lossRaised i n).nt.entries = n.nt.entries.set i (lostEntry (entryAt i n)) ∧
    (lossRaised i n).pg.clamps = n.pg.clamps.set i 150 := by
  unfold lossRaised
  split
  · exact ⟨sameEntries_of_only (raiseHold_only .peerLost _ (entryForgotten i n)),
      (raiseHold_acts .peerLost _ (entryForgotten i n)).clamps_eq⟩
  · exact ⟨rfl, rfl⟩

theorem lossRaised_condIn {i : Nat} {n : Node} (h : expects i n = true) :
    condIn .peerLost (lossRaised i n).cu.own = true := by
  rw [lossRaised, if_pos h, raiseHold_condIn _ _ _ (by decide)]
  simp

/-- Settles O43: the entry, its clamp value and its JOG records are written first, and no check behind them touches
them. -/
theorem silenceTimeoutLosesTheEntry : Obligations.SilenceTimeoutLosesTheEntry := by
  unfold Obligations.SilenceTimeoutLosesTheEntry
  refine fun peer s hl hlen => ⟨fun hne hlive => completes_live_if (f := entryLost peer.val) rfl hl ⟨hne, hlive⟩ ?_,
    fun h => completes_live_else (f := entryLost peer.val) rfl hl (fun ⟨hne, hlive⟩ => ?_) (finish_only _)⟩
  · obtain ⟨hent, hcl⟩ := lossRaised_parts peer.val s.node
    have hr := lossReacted_leaves (lossRaised peer.val s.node)
    have hat (i : Nat) := entryAt_of_set (j := i) (m := entryLost peer.val s.node) (Eq.trans hr.entries hent)
      (by rw [hlen]; exact peer.isLt)
    refine ⟨?_, fun i hi => ?_, ?_, fun c tog => ?_, fun he => ?_⟩
    · rw [entryAt_finish, hat, if_pos rfl]
      rfl
    · rw [entryAt_finish, hat, if_neg hi.symm]
    · rw [finish_pg]
      exact hr.clamps.trans hcl
    · rw [finish_ax, entryLost_eq, (lossReacted_sameJogs _).getAx, (lossRaised_sameJogs _ _).getAx]
      exact entryForgotten_lastJog peer tog c s.node
    · rw [finish_condIn _ (by decide)]
      exact (hr.conds _ (by decide)).trans (lossRaised_condIn he)
  · rcases h with h | h
    · exact hne h
    · exact h hlive

end Sys2Proof.Machine
end

section
/-! PROOF. The drive's events at a used channel (R109, R110, R111). -/

namespace Sys2Proof.Machine

-- The text is checked as one file under a data limit that many waiting threads would exceed.
set_option Elab.async false

/-! ### An event of a used channel -/

theorem completes_axEvent {i : Instr} {c : Chan} {f : AxisParams → Node → Node} {s : State} {P : Node → Prop}
    (hi : exec i s = axEvent c f s) (hl : loaded s.node = true) (hu : (axParams c s.node).isSome = true)
    (h : ∀ p, P (finish (f p s.node))) : completes i s P := by
  obtain ⟨p, hp⟩ := Option.isSome_iff_exists.1 hu
  refine completes_live (f := fun n => match axParams c n with | some p => f p n | none => n) hi hl ?_
  simp only [hp]
  exact h p

theorem onAxPins_only (c : Chan) (f : AxisPins → AxisPins) (n : Node) : onlyChanges [.pins] n (onAxPins c f n) :=
  withPins_only _ n

theorem getAx_onAxPins (c d : Chan) (f : AxisPins → AxisPins) (n : Node) : getAx d (onAxPins c f n) = getAx d n := by
  cases d <;> rfl

theorem axPins_onAxPins (c : Chan) (f : AxisPins → AxisPins) (n : Node) :
    axPins c (onAxPins c f n).pins = f (axPins c n.pins) := by cases c <;> rfl

theorem finish_pins (n : Node) : (finish n).pins = n.pins := finish_only n .pins (by simp) (by decide)

/-! ### The drive FAULTED (R111) -/

/-- A channel's drive FAULTED with command 0, DRIVE_FAULT set and the machine stopped. -/
structure DriveFaulted (c : Chan) (n : Node) : Prop where
  drive : (getAx c n).drive = .faulted
  command : (getAx c n).driveCommand = 0
  cond : condIn .driveFault n.cu.own = true
  stopped : n.cu.stopped = true
  owed : n.cu.owed = true

theorem setDrive_command {rest : Bool} {d : DriveState} {a : Axis} (h : a.drive ≠ d) :
    (setDrive rest d a).driveCommand = 0 := by
  unfold setDrive
  rw [if_neg h]

theorem DriveFaulted.finish {c : Chan} {n : Node} (h : DriveFaulted c n) : DriveFaulted c (finish n) where
  drive := by rw [finish_ax, h.drive]
  command := by rw [finish_ax, h.command]
  cond := by rw [finish_condIn _ (by decide), h.cond]
  stopped := by rw [finish_stopped, h.stopped]
  owed := (show keeps .stopInfo n (Machine.finish n) from finish_only n .stopInfo (by simp) (by decide)).1.trans h.owed

theorem driveTo_only (c : Chan) (d : DriveState) (n : Node) : onlyChanges [chanPart c] n (driveTo c d n) :=
  onAx_only c _ n

theorem driveTo_drive (c : Chan) (d : DriveState) (n : Node) : (getAx c (driveTo c d n)).drive = d := by
  rw [driveTo, getAx_onAx, setDrive_drive]

theorem chanPart_mem_stopParts (c : Chan) : chanPart c ∈ stopParts := by cases c <;> decide

theorem driveFault_only (c : Chan) (n : Node) : onlyChanges stopParts n (driveFault c n) :=
  onlyChanges_both (driveTo_only c _ n) (raiseStop_only _ _ _) (by simpa using chanPart_mem_stopParts c)
    fun _ h => h

theorem driveFault_faulted {c : Chan} {n : Node} (h : (getAx c n).drive ≠ .faulted) :
    DriveFaulted c (driveFault c n) := by
  have hd := driveTo_drive c .faulted n
  have ha : getAx c (driveFault c n) = getAx c (driveTo c .faulted n) :=
    raiseStop_getAx_of_notEnabling _ _ (by simp [hd])
  refine ⟨by rw [ha, hd], ?_, raiseStop_condIn_of_stop _ _ (by decide), raiseStop_latched _ _ _, raiseStop_owed _ _ _⟩
  rw [ha, driveTo, getAx_onAx, setDrive_command h]

/-- An input that changes and makes the drive FAULTED. -/
theorem faultedByInput {c : Chan} {f : AxisPins → AxisPins} {n : Node} (h : (getAx c n).drive ≠ .faulted) :
    DriveFaulted c (finish (driveFault c (onAxPins c f n))) ∧
    onlyChanges (.pins :: stopParts) n (finish (driveFault c (onAxPins c f n))) ∧
    axPins c (finish (driveFault c (onAxPins c f n))).pins = f (axPins c n.pins) := by
  have ho := driveFault_only c (onAxPins c f n)
  refine ⟨(driveFault_faulted (by rwa [getAx_onAxPins])).finish, finish_line_only
    (onlyChanges_both (onAxPins_only c f n) ho (by simp) fun _ h => .tail _ h), ?_⟩
  rw [finish_pins, ho .pins (by decide) (by decide), axPins_onAxPins]

theorem inputTaken {c : Chan} {f : AxisPins → AxisPins} (n : Node) :
    onlyChanges [.pins] n (finish (onAxPins c f n)) ∧ axPins c (finish (onAxPins c f n)).pins = f (axPins c n.pins) := by
  refine ⟨finish_line_only (onAxPins_only c f n), ?_⟩
  rw [finish_pins, axPins_onAxPins]

/-! ### The rows -/

section
variable {c : Chan} {s : State}

theorem driveReadyOn_completes (hl : loaded s.node = true) (hu : (axParams c s.node).isSome = true) :
    completes (.driveReadyOn c) s (fun t =>
      (axPins c t.pins).ready = true ∧ onlyChanges [chanPart c, .pins] s.node t ∧
      ((getAx c s.node).drive = .enabling → (getAx c t).drive = .enabled) ∧
      ((getAx c s.node).drive ≠ .enabling → onlyChanges [.pins] s.node t)) := by
  refine completes_axEvent (f := fun _ => driveBecomesReady c) rfl hl hu fun _ => ?_
  obtain ⟨hstill, hpin⟩ := inputTaken (c := c) (f := fun x => { x with ready := true }) s.node
  unfold driveBecomesReady
  simp only [getAx_onAxPins]
  split
  · rename_i he
    have ho := onlyChanges_both (onAxPins_only c (fun x => { x with ready := true }) s.node)
      (driveTo_only c .enabled _) (ps := [chanPart c, .pins]) (by simp) (by simp)
    have hp : (driveTo c .enabled (onAxPins c (fun x => { x with ready := true }) s.node)).pins =
        (onAxPins c (fun x => { x with ready := true }) s.node).pins :=
      driveTo_only c .enabled _ .pins (by cases c <;> decide) (by decide)
    refine ⟨?_, finish_line_only ho, fun _ => ?_, fun hn => absurd he hn⟩
    · rw [finish_pins, hp, axPins_onAxPins]
    · rw [finish_ax, driveTo_drive]
  · rename_i he
    exact ⟨by rw [hpin], onlyChanges_mono (by simp) hstill, fun h => absurd h he, fun _ => hstill⟩

theorem driveReadyOff_completes (hl : loaded s.node = true) (hu : (axParams c s.node).isSome = true) :
    completes (.driveReadyOff c) s (fun t =>
      (axPins c t.pins).ready = false ∧
      ((getAx c s.node).drive = .enabled → DriveFaulted c t ∧ onlyChanges (.pins :: stopParts) s.node t) ∧
      ((getAx c s.node).drive ≠ .enabled → onlyChanges [.pins] s.node t)) := by
  refine completes_axEvent (f := fun _ => driveLosesReady c) rfl hl hu fun _ => ?_
  unfold driveLosesReady
  simp only [getAx_onAxPins]
  split
  · rename_i he
    obtain ⟨hf, ho, hp⟩ := faultedByInput (c := c) (f := fun x => { x with ready := false }) (n := s.node) (by simp [he])
    exact ⟨by rw [hp], fun _ => ⟨hf, ho⟩, fun hn => absurd he hn⟩
  · rename_i he
    obtain ⟨hstill, hpin⟩ := inputTaken (c := c) (f := fun x => { x with ready := false }) s.node
    exact ⟨by rw [hpin], fun h => absurd h he, fun _ => hstill⟩

theorem driveFaultInput_completes (hl : loaded s.node = true) (hu : (axParams c s.node).isSome = true) :
    completes (.driveFaultInput c) s (fun t =>
      (axPins c t.pins).fault = true ∧
      ((getAx c s.node).drive ≠ .faulted → DriveFaulted c t ∧ onlyChanges (.pins :: stopParts) s.node t) ∧
      ((getAx c s.node).drive = .faulted → onlyChanges [.pins] s.node t)) := by
  refine completes_axEvent (f := fun _ => driveFaultActive c) rfl hl hu fun _ => ?_
  unfold driveFaultActive
  simp only [getAx_onAxPins]
  split
  · rename_i he
    obtain ⟨hstill, hpin⟩ := inputTaken (c := c) (f := fun x => { x with fault := true }) s.node
    exact ⟨by rw [hpin], fun hn => absurd he hn, fun _ => hstill⟩
  · rename_i he
    obtain ⟨hf, ho, hp⟩ := faultedByInput (c := c) (f := fun x => { x with fault := true }) (n := s.node) he
    exact ⟨by rw [hp], fun _ => ⟨hf, ho⟩, fun h => absurd h he⟩

theorem driveTimerExpiry_completes (hl : loaded s.node = true) (hu : (axParams c s.node).isSome = true) :
    completes (.driveTimerExpiry c) s (fun t =>
      ((getAx c s.node).drive = .enabling → DriveFaulted c t ∧ onlyChanges (.pins :: stopParts) s.node t) ∧
      ((getAx c s.node).drive ≠ .enabling → onlyChanges [] s.node t)) := by
  refine completes_axEvent (f := fun _ n => if (getAx c n).drive = .enabling then driveFault c n else n) rfl hl hu
    fun _ => ?_
  split
  · rename_i he
    exact ⟨fun _ => ⟨(driveFault_faulted (by simp [he])).finish,
      onlyChanges_mono (fun _ h => .tail _ h) (finish_line_only (driveFault_only c s.node))⟩, fun hn => absurd he hn⟩
  · rename_i he
    exact ⟨fun h => absurd h he, fun _ => finish_only _⟩

theorem followingRunLimit_completes (hl : loaded s.node = true) (hu : (axParams c s.node).isSome = true) :
    completes (.followingRunLimit c) s (fun t =>
      ((getAx c s.node).drive = .enabled → (getAx c s.node).followRun < 4 →
        (getAx c t).followRun = 4 ∧ (getAx c t).drive = .enabled ∧
        condIn .followError t.cu.own = true ∧ t.cu.stopped = true ∧ onlyChanges stopParts s.node t) ∧
      ((getAx c s.node).drive ≠ .enabled ∨ 4 ≤ (getAx c s.node).followRun → onlyChanges [] s.node t)) := by
  refine completes_axEvent (f := fun _ => followLimitReached c) rfl hl hu fun _ => ?_
  unfold followLimitReached
  dsimp only
  split
  · rename_i h
    obtain ⟨hd, hr⟩ := h
    have ha : getAx c (raiseStop .followError (chanNumber c) (onAx c (fun x => { x with followRun := 4 }) s.node)) =
        { getAx c s.node with followRun := 4 } := by
      rw [raiseStop_getAx_of_notEnabling _ _ (by simp [hd]), getAx_onAx]
    refine ⟨fun _ _ => ⟨by rw [finish_ax, ha], by rw [finish_ax, ha, hd], ?_, ?_, ?_⟩, fun h => ?_⟩
    · rw [finish_condIn _ (by decide), raiseStop_condIn_of_stop _ _ (by decide)]
    · rw [finish_stopped]
      exact raiseStop_latched _ _ _
    · exact finish_line_only (onlyChanges_both (onAx_only c _ s.node) (raiseStop_only _ _ _)
        (by simpa using chanPart_mem_stopParts c) fun _ h => h)
    · exact (h.elim (absurd hd) fun h => absurd hr (by omega))
  · rename_i h
    exact ⟨fun hd hr => absurd ⟨hd, hr⟩ h, fun _ => finish_only _⟩

theorem saturationRunLimit_completes (hl : loaded s.node = true) (hu : (axParams c s.node).isSome = true) :
    completes (.saturationRunLimit c) s (fun t =>
      ((getAx c s.node).drive = .enabled → (getAx c s.node).satRun < 50 →
        (getAx c t).satRun = 50 ∧ condIn .driveSaturated t.cu.own = true ∧
        (s.node.cu.held = false → txHas isHold s.node = false → keptHold s.node = false →
          hasRoom s.node → waiting .hold t) ∧
        onlyChanges [chanPart c, .conds] s.node t) ∧
      ((getAx c s.node).drive ≠ .enabled ∨ 50 ≤ (getAx c s.node).satRun → onlyChanges [] s.node t)) := by
  refine completes_axEvent (f := fun _ => saturationLimitReached c) rfl hl hu fun _ => ?_
  unfold saturationLimitReached
  dsimp only
  split
  · rename_i h
    obtain ⟨hd, hr⟩ := h
    have ho := onAx_only c (fun x => { x with satRun := 50 }) s.node
    have ha : getAx c (raiseHold .driveSaturated (chanNumber c) (onAx c (fun x => { x with satRun := 50 }) s.node)) =
        { getAx c s.node with satRun := 50 } := by
      rw [getAx_of_only (raiseHold_only _ _ _) (by cases c <;> simp [chanPart]), getAx_onAx]
    refine ⟨fun _ _ => ⟨by rw [finish_ax, ha], finish_raiseHold_condIn _ _ _ (by decide), fun hh ht hk hroom => ?_,
      finish_line_only (onlyChanges_both ho (raiseHold_only _ _ _) (by simp) (by simp))⟩, fun h => ?_⟩
    · refine finish_hold (raiseHold_asks _ (by decide) ?_ ?_ ?_ ?_)
      · simpa using hh
      · simpa [txHas] using ht
      · simpa [keptHold] using hk
      · simpa [hasRoom] using hroom
    · exact (h.elim (absurd hd) fun h => absurd hr (by omega))
  · rename_i h
    exact ⟨fun hd hr => absurd ⟨hd, hr⟩ h, fun _ => finish_only _⟩

end

end Sys2Proof.Machine
end

section
/-! PROOF. What a FAULTCLR does to drives, gearbox, fault record and counts (R125, R144, R179, R180). -/

namespace Sys2Proof.Machine

-- The text is checked as one file under a data limit that many waiting threads would exceed.
set_option Elab.async false

/-! ### A function of the channels one after the other -/

theorem forAxes_induct {f : Chan → AxisParams → Node → Node} {P : Node → Prop} {n : Node} (hn : P n)
    (h : ∀ c p m, P m → P (f c p m)) : P (forAxes f n) := by
  rw [forAxes_eq]
  have h0 : P (onUsed f .ax0 n) := onUsed_induct hn fun p => h .ax0 p n hn
  exact onUsed_induct h0 fun p => h .ax1 p _ h0

/-- What one channel's own step makes of a node stands where the other channel's step leaves it, before and after. -/
theorem forAxes_own {f : Chan → AxisParams → Node → Node} {c : Chan} {p : AxisParams} {P Q : Node → Prop} {n : Node}
    (hp : axParams c n = some p) (hpar : ∀ d q m, (f d q m).par = m.par) (hn : P n)
    (before : ∀ d q m, d ≠ c → P m → P (f d q m)) (own : ∀ m, P m → Q (f c p m))
    (after : ∀ d q m, d ≠ c → Q m → Q (f d q m)) : Q (forAxes f n) := by
  rw [forAxes_eq]
  cases c with
  | ax0 =>
    rw [onUsed_some hp]
    exact onUsed_induct (own n hn) fun q => after .ax1 q _ (by decide) (own n hn)
  | ax1 =>
    have hb : P (onUsed f .ax0 n) := onUsed_induct hn fun q => before .ax0 q n (by decide) hn
    have hpar0 : (onUsed f .ax0 n).par = n.par := onUsed_induct (P := fun m => m.par = n.par) rfl fun q => hpar .ax0 q n
    rw [onUsed_some ((axParams_of_par hpar0 .ax1).trans hp)]
    exact own _ hb

/-! ### The steps of a FAULTCLR (R179, R180) -/

/-- The node after steps 1 to 4: the FAULT asked for, then sets, record and counts cleared. -/
def faultclrCleared (n : Node) : Node := clearLatched (askWith (.fault (faultBody n)) true n)

/-- With the channels' acts of step 5. -/
def faultclrAxes (n : Node) : Node := forAxes axisFaultclr (faultclrCleared n)

/-- With every unit's act of step 5. -/
def faultclrUnits (n : Node) : Node := coolantFaultclr (spindleFaultclr (faultclrAxes n))

theorem applyFaultclr_eq (n : Node) : applyFaultclr n = stoppedTest (faultclrUnits n) := rfl

theorem clearLatched_only (n : Node) : onlyChanges [.table, .conds] n (clearLatched n) := by
  intro p hp hr
  cases p <;> simp_all [keeps, reporting, clearLatched]

theorem faultclrCleared_only (n : Node) : onlyChanges [.table, .conds] n (faultclrCleared n) :=
  onlyChanges_trans (onlyChanges_nil (askWith_only _ _ n)) (clearLatched_only _)

theorem axisFaultclr_only (c : Chan) (p : AxisParams) (n : Node) : onlyChanges stopParts n (axisFaultclr c p n) := by
  unfold axisFaultclr
  split_ifs
  · exact raiseStop_only _ _ n
  · exact onlyChanges_mono (by simpa using chanPart_mem_stopParts c) (driveTo_only c _ n)
  · exact onlyChanges_refl _ n

theorem spindleFaultclr_only (n : Node) : onlyChanges [.spindle, .conds] n (spindleFaultclr n) := by
  unfold spindleFaultclr
  split
  · split
    · exact gearFromPattern_only _ n
    · exact onlyChanges_refl _ n
  · exact onlyChanges_refl _ n

theorem spindleFaultclr_acts (n : Node) : Acts [.raise .gearFault, .held] n (spindleFaultclr n) := by
  unfold spindleFaultclr
  split
  · exact .ite (gearFromPattern_acts _ n) .refl
  · exact .refl

theorem floodOff_only (n : Node) : onlyChanges [.coolant, .conds] n (floodOff n) :=
  onlyChanges_both (withCl_only _ n) (clLoss_only _) (by simp) (by simp)

/-- FLOOD's part of the coolant unit's act. -/
def floodFaultclr (n : Node) : Node := if n.cl.flood = .fault then floodOff n else n

/-- TSC's part of the coolant unit's act. -/
def tscFaultclr (n : Node) : Node :=
  if n.cl.tsc = .fault then if n.cl.bleed = 0 then tscOff n else setTsc .stopping 0 n.cl.bleed n else n

theorem coolantFaultclr_eq (n : Node) :
    coolantFaultclr n = if n.par.coolant.isSome then tscFaultclr (floodFaultclr n) else n := rfl

theorem floodFaultclr_only (n : Node) : onlyChanges [.coolant, .conds] n (floodFaultclr n) := by
  unfold floodFaultclr
  split
  · exact floodOff_only n
  · exact onlyChanges_refl _ n

theorem tscFaultclr_only (n : Node) : onlyChanges [.coolant, .conds] n (tscFaultclr n) := by
  unfold tscFaultclr
  split_ifs
  · exact setTsc_only _ _ _ n
  · exact setTsc_only _ _ _ n
  · exact onlyChanges_refl _ n

theorem coolantFaultclr_only (n : Node) : onlyChanges [.coolant, .conds] n (coolantFaultclr n) := by
  rw [coolantFaultclr_eq]
  split
  · exact onlyChanges_trans (floodFaultclr_only n) (tscFaultclr_only _)
  · exact onlyChanges_refl _ n

theorem coolantFaultclr_acts (n : Node) : Acts circuitActs n (coolantFaultclr n) := by
  have hf : Acts circuitActs n (floodFaultclr n) := .ite (withCl_loss_acts _ n) .refl
  have ht (m : Node) : Acts circuitActs m (tscFaultclr m) :=
    .ite (.ite (setTsc_acts _ _ _ m) (setTsc_acts _ _ _ m)) .refl
  rw [coolantFaultclr_eq]
  exact .ite (hf.trans (ht _)) .refl

theorem axisEnable_only (c : Chan) (p : AxisParams) (n : Node) :
    onlyChanges [.channel0, .channel1] n (axisEnable c p n) := by
  unfold axisEnable
  split
  · exact onlyChanges_mono (by cases c <;> simp [chanPart]) (driveTo_only c _ n)
  · exact onlyChanges_refl _ n

/-- The latch clear, before the drives begin ENABLING (R180). -/
def latchCleared (n : Node) : Node := { n with cu := { n.cu with stopped := false, stopallSince := false } }

theorem stoppedTest_eq (n : Node) :
    stoppedTest n = if n.cu.stopped && permitTerms n then forAxes axisEnable (latchCleared n) else n := rfl

theorem latchCleared_only (n : Node) : onlyChanges [.latch, .stopInfo] n (latchCleared n) := by
  intro p hp _
  cases p <;> simp_all [keeps, latchCleared]

theorem stoppedTest_only (n : Node) : onlyChanges [.latch, .stopInfo, .channel0, .channel1] n (stoppedTest n) := by
  rw [stoppedTest_eq]
  split
  · exact onlyChanges_both (latchCleared_only n) (forAxes_only axisEnable_only _) (by simp) (by simp)
  · exact onlyChanges_refl _ n

/-- The acts of the spindle and the coolant unit together. -/
theorem faultclrUnits_only (n : Node) : onlyChanges [.spindle, .coolant, .conds] (faultclrAxes n) (faultclrUnits n) :=
  onlyChanges_both (spindleFaultclr_only _) (coolantFaultclr_only _) (by simp) (by simp)

theorem faultclrUnits_getAx (c : Chan) (n : Node) : getAx c (faultclrUnits n) = getAx c (faultclrAxes n) :=
  getAx_of_only (faultclrUnits_only n) (by cases c <;> simp [chanPart])

/-! ### The machine stopped by a drive (R48, R180) -/

/-- DRIVE_FAULT is set, the latch is set and a STOPALL owed. -/
structure DriveStop (n : Node) : Prop where
  cond : condIn .driveFault n.cu.own = true
  stopped : n.cu.stopped = true
  owed : n.cu.owed = true

theorem raiseStop_driveStop (d : Byte) (n : Node) : DriveStop (raiseStop .driveFault d n) :=
  ⟨raiseStop_condIn_of_stop _ _ (by decide), raiseStop_latched _ _ _, raiseStop_owed _ _ _⟩

theorem DriveStop.of_only {ps : List Part} {n m : Node} (h : DriveStop n) (g : onlyChanges ps n m)
    (hp : ∀ p ∈ [Part.conds, .latch, .stopInfo], p ∉ ps) : DriveStop m where
  cond := (condIn_of_onlyChanges g (hp _ (by decide)) (by decide)).trans h.cond
  stopped := (show m.cu.stopped = n.cu.stopped from g .latch (hp _ (by decide)) (by decide)).trans h.stopped
  owed := (show keeps .stopInfo n m from g .stopInfo (hp _ (by decide)) (by decide)).1.trans h.owed

theorem driveTo_driveStop {c : Chan} {d : DriveState} {n : Node} (h : DriveStop n) : DriveStop (driveTo c d n) :=
  h.of_only (driveTo_only c d n) (by cases c <;> decide)

theorem axisFaultclr_driveStop {c : Chan} {p : AxisParams} {n : Node} (h : DriveStop n) :
    DriveStop (axisFaultclr c p n) := by
  unfold axisFaultclr
  split_ifs
  · exact raiseStop_driveStop _ n
  · exact driveTo_driveStop h
  · exact h

theorem faultclrUnits_driveStop {n : Node} (h : DriveStop (faultclrAxes n)) : DriveStop (faultclrUnits n) := by
  have hs : DriveStop (spindleFaultclr (faultclrAxes n)) :=
    ⟨((spindleFaultclr_acts _).condIn (by decide) (by decide) (by decide)).trans h.cond,
      ((spindleFaultclr_acts _).stopped_eq (by decide)).trans h.stopped,
      ((spindleFaultclr_acts _).owed_eq (by decide)).trans h.owed⟩
  exact ⟨((coolantFaultclr_acts _).condIn (by decide) (by decide) (by decide)).trans hs.cond,
    ((coolantFaultclr_acts _).stopped_eq (by decide)).trans hs.stopped,
    ((coolantFaultclr_acts _).owed_eq (by decide)).trans hs.owed⟩

/-- With a STOP-class condition in the own set the permit is absent. -/
theorem permitTerms_of_driveStop {n : Node} (h : DriveStop n) : permitTerms n = false := by
  have hm : condIn .driveFault (machineConds n) = true := by
    have hc := h.cond
    simp only [condIn, machineConds, BitVec.getLsbD_or] at hc ⊢
    simp [hc]
  simp [permitTerms, hasStop_of_condIn (by decide) hm]

theorem stoppedTest_of_driveStop {n : Node} (h : DriveStop n) : stoppedTest n = n := by
  simp [stoppedTest, permitTerms_of_driveStop h]

theorem faultclr_of_driveStop {n : Node} (h : DriveStop (faultclrAxes n)) :
    applyFaultclr n = faultclrUnits n := stoppedTest_of_driveStop (faultclrUnits_driveStop h)

/-- The latch is as before step 5, or a drive's fault has set it. -/
theorem faultclrAxes_stopped (n : Node) :
    (faultclrAxes n).cu.stopped = n.cu.stopped ∨ DriveStop (faultclrAxes n) := by
  have h0 : (faultclrCleared n).cu.stopped = n.cu.stopped := faultclrCleared_only n .latch (by simp) (by decide)
  refine forAxes_induct (P := fun m => m.cu.stopped = n.cu.stopped ∨ DriveStop m) (.inl h0) fun c p m hm => ?_
  unfold axisFaultclr
  split_ifs
  · exact .inr (raiseStop_driveStop _ m)
  · have hs : (driveTo c .disabled m).cu.stopped = m.cu.stopped :=
      driveTo_only c .disabled m .latch (by cases c <;> decide) (by decide)
    exact hm.imp (fun h => hs.trans h) driveTo_driveStop
  · exact hm

/-! ### The drives (R111, R125) -/

section
variable {c : Chan} {p : AxisParams} {n : Node}

theorem axisFaultclr_other {d : Chan} {q : AxisParams} (hd : d ≠ c) (h : (getAx c n).drive ≠ .enabling) :
    getAx c (axisFaultclr d q n) = getAx c n := by
  unfold axisFaultclr
  split_ifs
  · exact raiseStop_getAx_of_notEnabling _ _ h
  · exact getAx_onAx_other hd.symm _ _
  · rfl

theorem axisFaultclr_pins (c : Chan) (p : AxisParams) (n : Node) : (axisFaultclr c p n).pins = n.pins :=
  axisFaultclr_only c p n .pins (by decide) (by decide)

theorem axisFaultclr_par (c : Chan) (p : AxisParams) (n : Node) : (axisFaultclr c p n).par = n.par :=
  axisFaultclr_only c p n .params (by decide) (by decide)

/-- A channel FAULTED with its fault input in a state, as it stands before its own step. -/
structure FaultedWith (c : Chan) (b : Bool) (n : Node) : Prop where
  drive : (getAx c n).drive = .faulted
  input : (axPins c n.pins).fault = b

theorem FaultedWith.cleared {b : Bool} (h : FaultedWith c b n) : FaultedWith c b (faultclrCleared n) where
  drive := by rw [getAx_of_only (faultclrCleared_only n) (by cases c <;> simp [chanPart]), h.drive]
  input := by rw [show (faultclrCleared n).pins = n.pins from faultclrCleared_only n .pins (by simp) (by decide), h.input]

theorem FaultedWith.other {b : Bool} {d : Chan} {q : AxisParams} (hd : d ≠ c) (h : FaultedWith c b n) :
    FaultedWith c b (axisFaultclr d q n) where
  drive := by rw [axisFaultclr_other hd (by simp [h.drive]), h.drive]
  input := by rw [axisFaultclr_pins, h.input]

theorem axParams_cleared (hp : axParams c n = some p) : axParams c (faultclrCleared n) = some p :=
  (axParams_of_par (faultclrCleared_only n .params (by simp) (by decide)) c).trans hp

/-- A FAULTED drive with its fault input active stays so and stops the machine. -/
theorem faultclrAxes_active (hp : axParams c n = some p) (h : FaultedWith c true n) :
    (getAx c (faultclrAxes n)).drive = .faulted ∧ DriveStop (faultclrAxes n) := by
  refine forAxes_own (P := FaultedWith c true) (Q := fun m => (getAx c m).drive = .faulted ∧ DriveStop m)
    (axParams_cleared hp) axisFaultclr_par h.cleared (fun d q m hd hm => hm.other hd) (fun m hm => ?_)
    fun d q m hd ⟨hm, hs⟩ => ⟨?_, axisFaultclr_driveStop hs⟩
  · rw [axisFaultclr, if_pos hm.drive, if_pos hm.input]
    exact ⟨by rw [raiseStop_getAx_of_notEnabling _ _ (by simp [hm.drive]), hm.drive], raiseStop_driveStop _ m⟩
  · rw [axisFaultclr_other hd (by simp [hm]), hm]

/-- One with its fault input inactive becomes DISABLED. -/
theorem faultclrAxes_inactive (hp : axParams c n = some p) (h : FaultedWith c false n) :
    (getAx c (faultclrAxes n)).drive = .disabled := by
  refine forAxes_own (P := FaultedWith c false) (Q := fun m => (getAx c m).drive = .disabled)
    (axParams_cleared hp) axisFaultclr_par h.cleared (fun d q m hd hm => hm.other hd) (fun m hm => ?_)
    fun d q m hd hm => ?_
  · rw [axisFaultclr, if_pos hm.drive, if_neg (by simp [hm.input])]
    exact driveTo_drive c .disabled m
  · rw [axisFaultclr_other hd (by simp [hm]), hm]

theorem axisEnable_other {d : Chan} {q : AxisParams} (hd : d ≠ c) : getAx c (axisEnable d q n) = getAx c n := by
  unfold axisEnable
  split
  · exact getAx_onAx_other hd.symm _ _
  · rfl

/-- As the latch clears a DISABLED drive without a fault begins ENABLING. -/
theorem stoppedTest_clears (hp : axParams c n = some p) (hs : (n.cu.stopped && permitTerms n) = true)
    (hd : (getAx c n).drive = .disabled) (hf : (axPins c n.pins).fault = false) :
    (getAx c (stoppedTest n)).drive = .enabling ∧ (stoppedTest n).cu.stopped = false := by
  have hst : stoppedTest n = forAxes axisEnable (latchCleared n) := if_pos hs
  have hpar (d : Chan) (q : AxisParams) (m : Node) : (axisEnable d q m).par = m.par :=
    axisEnable_only d q m .params (by simp) (by decide)
  have hpins (d : Chan) (q : AxisParams) (m : Node) : (axisEnable d q m).pins = m.pins :=
    axisEnable_only d q m .pins (by simp) (by decide)
  have hp' : axParams c (latchCleared n) = some p :=
    (axParams_of_par (latchCleared_only n .params (by simp) (by decide)) c).trans hp
  have ha : getAx c (latchCleared n) = getAx c n := getAx_of_only (latchCleared_only n) (by cases c <;> decide)
  rw [hst]
  refine ⟨?_, forAxes_only axisEnable_only (latchCleared n) .latch (by simp) (by decide)⟩
  refine forAxes_own (P := fun m => (getAx c m).drive = .disabled ∧ (axPins c m.pins).fault = false)
    (Q := fun m => (getAx c m).drive = .enabling) hp' hpar ⟨by rw [ha, hd], hf⟩ (fun d q m hne hm => ?_)
    (fun m hm => ?_) fun d q m hne hm => ?_
  · rwa [axisEnable_other hne, hpins]
  · rw [axisEnable, if_pos hm]
    exact driveTo_drive c .enabling m
  · rwa [axisEnable_other hne]

theorem faultclr_active (hu : (axParams c n).isSome = true) (hd : (getAx c n).drive = .faulted)
    (hf : (axPins c n.pins).fault = true) :
    (getAx c (applyFaultclr n)).drive = .faulted ∧ DriveStop (applyFaultclr n) := by
  obtain ⟨p, hp⟩ := Option.isSome_iff_exists.1 hu
  obtain ⟨hdrive, hstop⟩ := faultclrAxes_active hp ⟨hd, hf⟩
  rw [faultclr_of_driveStop hstop, faultclrUnits_getAx]
  exact ⟨hdrive, faultclrUnits_driveStop hstop⟩

/-- The latch that a FAULTCLR clears was set before it. -/
theorem faultclrUnits_stopped (h : n.cu.stopped = true) : (faultclrUnits n).cu.stopped = true := by
  have hu : (faultclrUnits n).cu.stopped = (faultclrAxes n).cu.stopped :=
    faultclrUnits_only n .latch (by simp) (by decide)
  exact hu.trans ((faultclrAxes_stopped n).elim (fun hs => hs.trans h) DriveStop.stopped)

theorem stopped_of_clears (h : ((faultclrUnits n).cu.stopped && permitTerms (faultclrUnits n)) = true) :
    n.cu.stopped = true := by
  obtain ⟨hs, hp⟩ := Bool.and_eq_true_iff.1 h
  rcases faultclrAxes_stopped n with ha | ha
  · have hu : (faultclrUnits n).cu.stopped = (faultclrAxes n).cu.stopped :=
      faultclrUnits_only n .latch (by simp) (by decide)
    rw [← ha, ← hu, hs]
  · rw [permitTerms_of_driveStop (faultclrUnits_driveStop ha)] at hp
    exact absurd hp (by simp)

theorem faultclr_inactive (hu : (axParams c n).isSome = true) (hd : (getAx c n).drive = .faulted)
    (hf : (axPins c n.pins).fault = false) :
    (getAx c (applyFaultclr n)).drive =
      if n.cu.stopped = true ∧ (applyFaultclr n).cu.stopped = false then .enabling else .disabled := by
  obtain ⟨p, hp⟩ := Option.isSome_iff_exists.1 hu
  have hdis : (getAx c (faultclrUnits n)).drive = .disabled :=
    (congrArg Axis.drive (faultclrUnits_getAx c n)).trans (faultclrAxes_inactive hp ⟨hd, hf⟩)
  by_cases hc : ((faultclrUnits n).cu.stopped && permitTerms (faultclrUnits n)) = true
  · have hax : onlyChanges stopParts (faultclrCleared n) (faultclrAxes n) := forAxes_only axisFaultclr_only _
    have hpar : (faultclrUnits n).par = n.par := (faultclrUnits_only n .params (by simp) (by decide)).trans
      ((hax .params (by decide) (by decide)).trans (faultclrCleared_only n .params (by simp) (by decide)))
    have hpins : (faultclrUnits n).pins = n.pins := (faultclrUnits_only n .pins (by simp) (by decide)).trans
      ((hax .pins (by decide) (by decide)).trans (faultclrCleared_only n .pins (by simp) (by decide)))
    obtain ⟨he, hs⟩ := stoppedTest_clears ((axParams_of_par hpar c).trans hp) hc hdis (by rw [hpins, hf])
    rw [applyFaultclr_eq, he, hs, if_pos ⟨stopped_of_clears hc, rfl⟩]
  · have ha : applyFaultclr n = faultclrUnits n := if_neg hc
    rw [ha, hdis, if_neg fun h => by simp [faultclrUnits_stopped h.1] at h]

end

/-! ### The gearbox (R144, R145) -/

theorem patternOf_of_view {p : SpindleParams} {a b : SG} (h : gearView a = gearView b) : patternOf p a = patternOf p b := by
  obtain ⟨-, -, h1, h2, h3, h4⟩ : a.gear = b.gear ∧ a.refRange = b.refRange ∧ a.a1 = b.a1 ∧ a.a2 = b.a2 ∧
      a.b1 = b.b1 ∧ a.b2 = b.b2 := by simpa [gearView] using h
  have hr (s : Shifter) : readingOf s a = readingOf s b := by cases s <;> simp [readingOf, h1, h2, h3, h4]
  simp only [patternOf, hr]

section
variable {n : Node}

theorem dropCommand_view (p : SpindleParams) (n : Node) : gearView (dropCommand p n).sg = gearView n.sg := by
  unfold dropCommand
  split <;> rfl

/-- A gearbox in GEAR_FAULT does not shift, so the latch leaves it there. -/
theorem sgStopReaction_view (h : n.sg.gear = .gearFault) : gearView (sgStopReaction n).sg = gearView n.sg := by
  unfold sgStopReaction
  split
  · rfl
  · rename_i p _
    have ha : abortShift p { n with sg := { n.sg with request := none, manualStop := false } } =
        { n with sg := { n.sg with request := none, manualStop := false } } := by
      simp [abortShift, shifting, h]
    dsimp only
    rw [dropCommand_view, ha]
    split <;> rfl

theorem setLatch_view (h : n.sg.gear = .gearFault) : gearView (setLatch n).sg = gearView n.sg := by
  cases hs : n.cu.stopped with
  | true => rw [setLatch_of_set hs]
  | false =>
    have hf := gearView_of_only (forAxes_only latchDrive_only { n with cu := { n.cu with stopped := true } })
      (by simp)
    have hg : (forAxes latchDrive { n with cu := { n.cu with stopped := true } }).sg.gear = .gearFault :=
      (congrArg Prod.fst hf).trans h
    rw [setLatch_of_clear hs, gearView_of_only (clStopReaction_only _) (by simp), latchedUnits, sgStopReaction_view hg, hf]

theorem raiseStop_view (c : Cond) (d : Byte) (h : n.sg.gear = .gearFault) :
    gearView (raiseStop c d n).sg = gearView n.sg := by
  have hv := gearView_of_only (stopRaised_only c d n) (by simp)
  rw [raiseStop_eq, setLatch_view ((congrArg Prod.fst hv).trans h), hv]

theorem faultclrAxes_view (h : n.sg.gear = .gearFault) : gearView (faultclrAxes n).sg = gearView n.sg := by
  refine forAxes_induct (P := fun m => gearView m.sg = gearView n.sg)
    (gearView_of_only (faultclrCleared_only n) (by simp)) fun c p m hm => ?_
  unfold axisFaultclr
  split_ifs
  · exact (raiseStop_view _ _ ((congrArg Prod.fst hm).trans h)).trans hm
  · exact (gearView_of_only (driveTo_only c _ m) (by cases c <;> decide)).trans hm
  · exact hm

/-- With the latch set step 5 of the channels leaves the spindle unit alone. -/
theorem faultclrAxes_spindle (h : n.cu.stopped = true) : keeps .spindle n (faultclrAxes n) := by
  have h0 := faultclrCleared_only n
  have hl : Latched (faultclrCleared n) := (h0 .latch (by simp) (by decide)).trans h
  refine (forAxes_induct (P := fun m => Latched m ∧ keeps .spindle n m) ⟨hl, h0 .spindle (by simp) (by decide)⟩
    fun c p m ⟨hm, hk⟩ => ?_).2
  unfold axisFaultclr
  split_ifs
  · exact ⟨raiseStop_latched _ _ _, keeps_trans hk (raiseStop_only_of_latched _ _ hm .spindle (by simp) (by decide))⟩
  · have ho := driveTo_only c .disabled m
    exact ⟨ho.latched hm (by cases c <;> decide), keeps_trans hk (ho .spindle (by cases c <;> decide) (by decide))⟩
  · exact ⟨hm, hk⟩

/-- What follows the spindle unit's act leaves the unit but for its drive signal. -/
theorem applyFaultclr_spindle (n : Node) : keeps .spindle (spindleFaultclr (faultclrAxes n)) (applyFaultclr n) :=
  keeps_trans (coolantFaultclr_only _ .spindle (by simp) (by decide))
    (stoppedTest_only _ .spindle (by simp) (by decide))

theorem applyFaultclr_gearFault (n : Node) : condIn .gearFault (applyFaultclr n).cu.own =
    condIn .gearFault (spindleFaultclr (faultclrAxes n)).cu.own :=
  (condIn_of_onlyChanges (stoppedTest_only _) (by simp) (by decide)).trans
    ((coolantFaultclr_acts _).condIn (by decide) (by decide) (by decide))

/-- Gearbox, request and retries of a spindle unit that stands as before. -/
theorem spindle_of_keeps {n m : Node} (h : keeps .spindle n m) :
    m.sg.gear = n.sg.gear ∧ m.sg.request = n.sg.request ∧ m.sg.retries = n.sg.retries := by
  have hs : ({ m.sg with driveCmd := 0 } : SG) = { n.sg with driveCmd := 0 } := h
  have hg := congrArg SG.gear hs
  have hr := congrArg SG.request hs
  have ht := congrArg SG.retries hs
  exact ⟨hg, hr, ht⟩

theorem setGear_retries (g : GearState) (sg : SG) : (setGear g sg).retries = sg.retries := by cases g <;> rfl

theorem setGear_gear (g : GearState) (sg : SG) : (setGear g sg).gear = g := by cases g <;> rfl

theorem gearFromPattern_retries (p : SpindleParams) (n : Node) : (gearFromPattern p n).sg.retries = n.sg.retries := by
  unfold gearFromPattern
  split
  · exact setGear_retries _ _
  · exact setGear_retries _ _
  · exact (congrArg SG.retries (raiseHold_sg _ _ _)).trans (setGear_retries _ _)

/-- The gearbox as a pattern sets it, with GEAR_FAULT in a conflict (R144). -/
def GearSet (x : Pattern) (n : Node) : Prop :=
  match x with
  | .valid r => n.sg.gear = .engaged r
  | .opened => n.sg.gear = .unknown
  | .conflict _ => n.sg.gear = .gearFault ∧ condIn .gearFault n.cu.own = true

theorem gearFromPattern_set (p : SpindleParams) (n : Node) : GearSet (patternOf p n.sg) (gearFromPattern p n) := by
  unfold gearFromPattern
  cases patternOf p n.sg with
  | valid r => exact setGear_gear _ _
  | opened => exact setGear_gear _ _
  | conflict sh =>
    exact ⟨(congrArg SG.gear (raiseHold_sg _ _ _)).trans (setGear_gear _ _), by simp [raiseHold_condIn]⟩

theorem GearSet.of_keeps {x : Pattern} {n m : Node} (h : GearSet x n) (hk : keeps .spindle n m)
    (hc : condIn .gearFault m.cu.own = condIn .gearFault n.cu.own) : GearSet x m := by
  obtain ⟨hg, -, -⟩ := spindle_of_keeps hk
  cases x with
  | valid r => exact hg.trans h
  | opened => exact hg.trans h
  | conflict sh => exact ⟨hg.trans h.1, hc.trans h.2⟩

theorem faultclrAxes_par (n : Node) : (faultclrAxes n).par = n.par :=
  forAxes_induct (P := fun m => m.par = n.par) (faultclrCleared_only n .params (by simp) (by decide))
    fun c p m hm => (axisFaultclr_par c p m).trans hm

section
variable {p : SpindleParams}

theorem faultclr_gearFault (hp : n.par.spindle = some p) (h : n.sg.gear = .gearFault) :
    GearSet (patternOf p n.sg) (applyFaultclr n) := by
  have hv := faultclrAxes_view h
  have hs : spindleFaultclr (faultclrAxes n) = gearFromPattern p (faultclrAxes n) := by
    have hg : (faultclrAxes n).sg.gear = .gearFault := (congrArg Prod.fst hv).trans h
    simp [spindleFaultclr, faultclrAxes_par, hp, hg]
  rw [← patternOf_of_view hv]
  refine GearSet.of_keeps ?_ (applyFaultclr_spindle n) (applyFaultclr_gearFault n)
  rw [hs]
  exact gearFromPattern_set p _

/-- With the latch set a FAULTCLR leaves request and retries, and a gearbox that is not in GEAR_FAULT. -/
theorem faultclr_latched (h : n.cu.stopped = true) :
    (applyFaultclr n).sg.request = n.sg.request ∧ (applyFaultclr n).sg.retries = n.sg.retries ∧
    (n.sg.gear ≠ .gearFault → (applyFaultclr n).sg.gear = n.sg.gear) := by
  obtain ⟨hgear, hreq, hret⟩ := spindle_of_keeps (faultclrAxes_spindle h)
  obtain ⟨hgear', hreq', hret'⟩ := spindle_of_keeps (applyFaultclr_spindle n)
  refine ⟨hreq'.trans (Eq.trans ?_ hreq), hret'.trans (Eq.trans ?_ hret),
    fun hg => hgear'.trans (Eq.trans ?_ hgear)⟩
  · unfold spindleFaultclr
    split
    · split
      · exact gearFromPattern_request _ _
      · rfl
    · rfl
  · unfold spindleFaultclr
    split
    · split
      · exact gearFromPattern_retries _ _
      · rfl
    · rfl
  · unfold spindleFaultclr
    split
    · rw [if_neg (by rwa [hgear])]
    · rfl

end

end

/-! ### Nothing to raise again (R179, R182, R183) -/

/-- Line controller, fault record, counts and overflow flags as before, and the path without a running block still. -/
structure NoReport (n m : Node) : Prop where
  lc : m.lc = n.lc := by rfl
  record : m.cu.record = n.cu.record := by rfl
  counts : m.cu.counts = n.cu.counts := by rfl
  overflow : m.cu.overflow = n.cu.overflow := by rfl
  run : m.pg.run = n.pg.run := by rfl

theorem NoReport.refl (n : Node) : NoReport n n := {}

theorem NoReport.trans {n m k : Node} (h : NoReport n m) (g : NoReport m k) : NoReport n k :=
  ⟨g.lc.trans h.lc, g.record.trans h.record, g.counts.trans h.counts, g.overflow.trans h.overflow, g.run.trans h.run⟩

theorem NoReport.ite {c : Prop} [Decidable c] {n a b : Node} (h : NoReport n a) (g : NoReport n b) :
    NoReport n (if c then a else b) := by
  split
  · exact h
  · exact g

theorem clearCond_noReport (c : Cond) (n : Node) : NoReport n (clearCond c n) := by
  unfold clearCond
  split
  · exact {}
  · exact {}

section
variable {n : Node}

/-- Without a running block no circuit is required, and the loss test raises nothing. -/
theorem lossTest_noReport (c : Circ) (h : n.pg.run = none) : NoReport n (lossTest c n) := by
  have hr : required c n = false := by simp [required, h]
  unfold lossTest
  simp only [hr, Bool.not_false, if_true]
  exact {}

theorem clLoss_noReport (h : n.pg.run = none) : NoReport n (clLoss n) := by
  have h1 := lossTest_noReport .flood h
  have h2 := lossTest_noReport .tsc (h1.run.trans h)
  have h3 := lossTest_noReport .air (h2.run.trans (h1.run.trans h))
  have ht : NoReport n (lossTest .air (lossTest .tsc (lossTest .flood n))) := (h1.trans h2).trans h3
  exact .ite (.ite (ht.trans (clearCond_noReport _ _)) ht) (.refl n)

theorem setTsc_noReport (s : CircuitState) (t b : Nat) (h : n.pg.run = none) (hd : n.cl.tsc ≠ .degraded) :
    NoReport n (setTsc s t b n) := by
  unfold setTsc
  dsimp only
  rw [if_neg fun hx => hd hx.1]
  exact NoReport.trans (m := { n with cl := _ }) {} (clLoss_noReport h)

theorem floodFaultclr_noReport (h : n.pg.run = none) : NoReport n (floodFaultclr n) :=
  .ite (NoReport.trans (m := { n with cl := _ }) {} (clLoss_noReport h)) (.refl n)

theorem tscFaultclr_noReport (h : n.pg.run = none) : NoReport n (tscFaultclr n) := by
  unfold tscFaultclr
  split
  · rename_i hf
    exact .ite (setTsc_noReport _ _ _ h (by simp [hf])) (setTsc_noReport _ _ _ h (by simp [hf]))
  · exact .refl n

theorem coolantFaultclr_noReport (h : n.pg.run = none) : NoReport n (coolantFaultclr n) := by
  have hf := floodFaultclr_noReport h
  rw [coolantFaultclr_eq]
  exact .ite (hf.trans (tscFaultclr_noReport (hf.run.trans h))) (.refl n)

theorem onAx_noReport (c : Chan) (f : Axis → Axis) (n : Node) : NoReport n (onAx c f n) := by cases c <;> exact {}

theorem stoppedTest_noReport (n : Node) : NoReport n (stoppedTest n) := by
  rw [stoppedTest_eq]
  refine .ite (NoReport.trans (m := latchCleared n) {} ?_) (.refl n)
  exact forAxes_induct (P := NoReport (latchCleared n)) (.refl _) fun c p m hm =>
    .ite (hm.trans (onAx_noReport c _ m)) hm

theorem askState_cu_of_room (h : n.lc.queue.length < 8) : (askState n).cu = n.cu := by
  rw [askState, ask, askWith_room]
  · rfl
  · exact h

/-- With room in the queue what follows a command leaves the condition unit. -/
theorem finish_cu (h : n.lc.queue.length < 8) : (finish n).cu = n.cu := by
  have hn : (noteChange n).cu = n.cu := by
    unfold noteChange
    split <;> rfl
  have hl : (noteChange n).lc.queue.length < 8 := by simpa using h
  have hc : (changeState (noteChange n)).cu = (noteChange n).cu := by
    unfold changeState
    split
    · exact askState_cu_of_room hl
    · rfl
  rw [finish, refresh_cu, hc, hn]

/-- With no drive and no gearbox in a fault and no block running, step 5 raises nothing. -/
theorem applyFaultclr_noReport (h0 : n.ax0.drive ≠ .faulted) (h1 : n.ax1.drive ≠ .faulted)
    (hg : n.sg.gear ≠ .gearFault) (hr : n.pg.run = none) : NoReport (faultclrCleared n) (applyFaultclr n) := by
  have ho := faultclrCleared_only n
  have hax (c : Chan) : (getAx c (faultclrCleared n)).drive ≠ .faulted := by
    rw [getAx_of_only ho (by cases c <;> simp [chanPart])]
    cases c
    · exact h0
    · exact h1
  have ha : faultclrAxes n = faultclrCleared n :=
    forAxes_induct (P := fun m => m = faultclrCleared n) rfl fun c p m hm => by
      rw [hm]
      exact if_neg (hax c)
  obtain ⟨hgear, -, -⟩ := spindle_of_keeps (ho .spindle (by simp) (by decide))
  have hs : spindleFaultclr (faultclrCleared n) = faultclrCleared n := by
    unfold spindleFaultclr
    split
    · exact if_neg (by rwa [hgear])
    · rfl
  have hrun : (faultclrCleared n).pg.run = none :=
    (congrArg PG.run (show _ = n.pg from ho .path (by simp) (by decide))).trans hr
  rw [applyFaultclr_eq, faultclrUnits, ha, hs]
  exact (coolantFaultclr_noReport hrun).trans (stoppedTest_noReport _)

/-- The record, counts and flags stand cleared after the command, and the FAULT with the record as it was waits. -/
theorem faultclr_reports (h0 : n.ax0.drive ≠ .faulted) (h1 : n.ax1.drive ≠ .faulted) (hg : n.sg.gear ≠ .gearFault)
    (hr : n.pg.run = none) (hroom : hasRoom n) :
    (finish (applyFaultclr n)).cu.record = none ∧ (finish (applyFaultclr n)).cu.counts = List.replicate 30 0 ∧
    (finish (applyFaultclr n)).cu.overflow = 0 ∧ waiting (.fault (faultBody n)) (finish (applyFaultclr n)) := by
  obtain ⟨hon, hlen⟩ := hroom
  have hn := applyFaultclr_noReport h0 h1 hg hr
  have hroomy : Roomy 7 (askWith (.fault (faultBody n)) true n) := askWith_roomy _ _ ⟨hon, hlen⟩ (by omega)
  have hlc : (applyFaultclr n).lc = (askWith (.fault (faultBody n)) true n).lc := hn.lc
  have hl : (applyFaultclr n).lc.queue.length < 8 := by
    rw [hlc]
    exact Nat.lt_succ_of_le hroomy.len
  have hw : waiting (.fault (faultBody n)) (applyFaultclr n) := by
    unfold waiting
    rw [hlc]
    exact askWith_enters true hon (by omega) fun _ => rfl
  rw [finish_cu hl]
  exact ⟨hn.record, hn.counts, hn.overflow, finish_waits hl (fun _ => rfl) hw⟩

end

/-- Settles O48: each row is its drive's change with the raising that goes with it, and a FAULTCLR the channels' steps
one after the other, the gearbox set from its pattern and the reports that nothing of this raises again. -/
theorem driveEvents : Obligations.DriveEvents := by
  unfold Obligations.DriveEvents
  have conj {c : Chan} {n t : Node} (h : DriveFaulted c t ∧ onlyChanges (.pins :: stopParts) n t) :
      (getAx c t).drive = .faulted ∧ (getAx c t).driveCommand = 0 ∧ condIn .driveFault t.cu.own = true ∧
        t.cu.stopped = true ∧ t.cu.owed = true ∧ onlyChanges (.pins :: stopParts) n t := by
    obtain ⟨⟨hd, hcmd, hc, hs, ho⟩, hch⟩ := h
    exact ⟨hd, hcmd, hc, hs, ho, hch⟩
  refine ⟨fun c s hl hu => ⟨driveReadyOn_completes hl hu, ?_, ?_, ?_, followingRunLimit_completes hl hu,
    saturationRunLimit_completes hl hu⟩, fun rx s => ?_⟩
  · obtain ⟨t, he, hp, hpin, hf, hs⟩ := driveReadyOff_completes hl hu
    exact ⟨t, he, hp, hpin, fun h => conj (hf h), hs⟩
  · obtain ⟨t, he, hp, hpin, hf, hs⟩ := driveFaultInput_completes hl hu
    exact ⟨t, he, hp, hpin, fun h => conj (hf h), hs⟩
  · obtain ⟨t, he, hp, hf, hs⟩ := driveTimerExpiry_completes hl hu
    exact ⟨t, he, hp, fun h => conj (hf h), hs⟩
  · refine frameCompletes_of (unit := fun _ n => applyFaultclr n) rfl ?_
    generalize accepted rx s.node = m
    refine ⟨fun c hu hd => ⟨fun hf => ?_, fun hf => ?_⟩, fun p hp => ⟨fun hg => ?_, fun hs => ?_⟩,
      fun h0 h1 hg hr hroom => faultclr_reports h0 h1 hg hr hroom⟩
    · obtain ⟨hdrive, hstop⟩ := faultclr_active hu hd hf
      have hinfo : keeps .stopInfo (applyFaultclr m) (finish (applyFaultclr m)) :=
        finish_only _ .stopInfo (by simp) (by decide)
      rw [finish_ax, finish_condIn _ (by decide), finish_stopped]
      exact ⟨hdrive, hstop.cond, hstop.stopped, hinfo.1.trans hstop.owed⟩
    · rw [finish_ax, finish_stopped]
      exact faultclr_inactive hu hd hf
    · have hset := (faultclr_gearFault hp hg).of_keeps (finish_only _ .spindle (by simp) (by decide))
        (finish_condIn _ (by decide))
      exact hset
    · obtain ⟨h1, h2, h3⟩ := faultclr_latched hs
      obtain ⟨hgear, hreq, hret⟩ := spindle_of_keeps (finish_only (applyFaultclr m) .spindle (by simp) (by decide))
      exact ⟨hreq.trans h1, hret.trans h2, fun hg => hgear.trans (h3 hg)⟩

end Sys2Proof.Machine
end

section
/-! PROOF. The parameters of the image stand through the acceptance of a frame, and COOLANT frames at the coolant node
(R62, R160). -/

namespace Sys2Proof.Machine

-- The text is checked as one file under a data limit that many waiting threads would exceed.
set_option Elab.async false

/-! ### The parameters through an acceptance (R28) -/

theorem lineAccept_par (rx : Rx) (n : Node) : (lineAccept rx n).par = n.par := by
  have hover : (frameOver rx n).par = n.par := par_of_only (frameOver_only rx n)
  have hc : (countAccepted rx (frameOver rx n)).par = n.par := by
    unfold countAccepted
    split_ifs
    · exact (par_of_only (recount_only _)).trans ((par_of_only (attemptSucceeded_only _)).trans hover)
    · exact hover
    · exact (par_of_only (recount_only _)).trans hover
  unfold lineAccept
  dsimp only
  split
  · exact (par_of_only (enterActive_only _)).trans hc
  · exact hc

theorem heard_par (i : Nat) (n : Node) : (heard i n).par = n.par := by
  by_cases hl : (entryAt i n).state = .live
  · rw [heard_live hl]
    exact par_of_only (entryHeard_only i n)
  · have he : (entryLive i (entryHeard i n)).par = n.par :=
      (entryLive_acts i _).par.trans (par_of_only (entryHeard_only i n))
    rw [heard_notLive hl]
    split
    · exact (par_of_only (stopLearnt_only i _)).trans he
    · exact he

theorem accepted_par (rx : Rx) (n : Node) : (accepted rx n).par = n.par := by
  have hl := lineAccept_par rx n
  unfold accepted tableAccept
  split_ifs
  · exact (par_of_only (raiseStop_only _ _ _)).trans hl
  · exact (heard_par _ _).trans hl
  · exact hl

/-! ### COOLANT frames (R62, R160) -/

theorem finish_cl (n : Node) : (finish n).cl = n.cl := finish_only n .coolant (by simp) (by decide)

/-- A circuit's demand after one part of a COOLANT frame (R160). -/
def demandAfter (part : Option Bool) (n : Node) (old : Bool) : Bool :=
  match part with
  | none => old
  | some true => old || !(n.nt.mode == .auto || n.cu.stopped)
  | some false => false

theorem putCirc_self (c : Circ) (s : CircSet) : putCirc c (inCirc c s) s = s := by cases c <;> rfl

/-- One part of a COOLANT frame writes its circuit's demand, and in AUTO perhaps a manual off mark (R157, R160). -/
theorem obeyPart_eq (c : Circ) (part : Option Bool) (n : Node) : ∃ off, obeyPart c part n =
    { n with cl := { n.cl with
      demand := putCirc c (demandAfter part n (inCirc c n.cl.demand)) n.cl.demand, manualOff := off } } ∧
    (n.nt.mode ≠ .auto → off = n.cl.manualOff) := by
  unfold obeyPart demandAfter
  split
  · exact ⟨n.cl.manualOff, by rw [putCirc_self], fun _ => rfl⟩
  · refine ⟨n.cl.manualOff, ?_, fun _ => rfl⟩
    split_ifs with h
    · have hs : (n.nt.mode == .auto || n.cu.stopped) = true := by simpa using h
      rw [hs, Bool.not_true, Bool.or_false, putCirc_self]
    · have hs : (n.nt.mode == .auto || n.cu.stopped) = false := by simpa using h
      rw [hs, Bool.not_false, Bool.or_true]
      rfl
  · dsimp only
    split_ifs with h
    · exact ⟨_, rfl, fun hm => absurd h.1 hm⟩
    · exact ⟨_, rfl, fun _ => rfl⟩

/-- The three parts of a COOLANT frame at a node with the unit (R62, R160). -/
theorem acceptCoolant_eq {flood tsc air : Byte} {f x a : Option Bool} {n : Node} (hf : partOfCode flood = some f)
    (hx : partOfCode tsc = some x) (ha : partOfCode air = some a) (hu : n.par.coolant.isSome = true) :
    ∃ off, acceptCoolant flood tsc air n = { n with
      bq := { n.bq with coolantForce := none }
      cl := { n.cl with
        demand := { flood := demandAfter f n n.cl.demand.flood, tsc := demandAfter x n n.cl.demand.tsc,
                    air := demandAfter a n n.cl.demand.air }
        manualOff := off } } ∧
    (n.nt.mode ≠ .auto → off = n.cl.manualOff) := by
  obtain ⟨o1, h1, k1⟩ := obeyPart_eq .flood f n
  obtain ⟨o2, h2, k2⟩ := obeyPart_eq .tsc x (obeyPart .flood f n)
  obtain ⟨o3, h3, k3⟩ := obeyPart_eq .air a (obeyPart .tsc x (obeyPart .flood f n))
  refine ⟨o3, ?_, fun hm => ?_⟩
  · simp only [acceptCoolant, hf, hx, ha, hu, if_true]
    rw [h3, h2, h1]
    rfl
  · rw [h1] at k2
    rw [h2, h1] at k3
    exact (k3 hm).trans ((k2 hm).trans (k1 hm))

theorem acceptCoolant_discards {flood tsc air : Byte} {n : Node}
    (h : partOfCode flood = none ∨ partOfCode tsc = none ∨ partOfCode air = none) :
    acceptCoolant flood tsc air n = forgetCoolant n := by
  unfold acceptCoolant
  split
  · rename_i hf hx ha
    simp [hf, hx, ha] at h
  · rfl

theorem forgetCoolant_only (n : Node) : onlyChanges [.blocks] n (forgetCoolant n) := withBq_only _ n

/-- Settles O51: the parts write the demands one after the other, and the queue forgets the set in force in either
case. -/
theorem coolantFrames : Obligations.CoolantFrames := by
  unfold Obligations.CoolantFrames
  intro rx flood tsc air s hu
  refine frameCompletes_of (unit := fun _ n => acceptCoolant flood tsc air n) rfl ?_
  replace hu : (accepted rx s.node).par.coolant.isSome = true := by rwa [accepted_par]
  generalize accepted rx s.node = m at hu
  rw [finish_bq, finish_cl]
  refine ⟨?_, fun f x a hf hx ha => ?_, fun h => ?_⟩
  · by_cases h : partOfCode flood = none ∨ partOfCode tsc = none ∨ partOfCode air = none
    · rw [acceptCoolant_discards h]
      rfl
    · simp only [not_or, ← ne_eq, Option.ne_none_iff_exists'] at h
      obtain ⟨⟨f, hf⟩, ⟨x, hx⟩, ⟨a, ha⟩⟩ := h
      obtain ⟨off, he, -⟩ := acceptCoolant_eq hf hx ha hu
      rw [he]
  · obtain ⟨off, he, hoff⟩ := acceptCoolant_eq hf hx ha hu
    have ho : onlyChanges [.coolant, .blocks] m (acceptCoolant flood tsc air m) := by
      rw [he]
      exact onlyChanges_both (forgetCoolant_only m) (withCl_only _ (forgetCoolant m)) (by simp) (by simp)
    refine ⟨?_, fun hm => ?_, ?_, finish_line_only ho⟩
    · rw [he]
      rfl
    · rw [he]
      exact hoff hm
    · rw [he]
  · rw [acceptCoolant_discards h]
    exact finish_line_only (forgetCoolant_only m)

end Sys2Proof.Machine
end

section
/-! PROOF. An accepted READY at the block queue (R67, R68, R186), with the test of candidacy (R69) that follows it. -/

namespace Sys2Proof.Machine

-- The text is checked as one file under a data limit that many waiting threads would exceed.
set_option Elab.async false

/-- The test of candidacy is a request or a withdrawal (R69). -/
theorem goTest_only (n : Node) : onlyChanges [] n (goTest n) := by
  unfold goTest
  split
  · split_ifs
    · exact onlyChanges_refl _ n
    · exact ask_only _ n
    · exact withdrawNamed_only _ n
  · exact onlyChanges_refl _ n

/-- An entry with the verdict of a node replaced (R67). -/
def withVerdict (i : Nat) (v : Verdict) (e : Entry) : Entry :=
  { e with verdicts := (e.verdicts.filter fun y => y.1 != i) ++ [(i, v)] }

theorem recordedVerdict_withVerdict (i : Nat) (v : Verdict) (e : Entry) :
    recordedVerdict i (withVerdict i v e) = some v := by
  have hf : (e.verdicts.filter fun y => y.1 != i).find? (fun x => x.1 == i) = none := by
    simp
  simp [recordedVerdict, withVerdict, List.find?_append, hf]

/-- The head of a number is the first uncommitted entry of it, and a change that leaves numbers and states writes it
there. -/
theorem find_uncommitted_onEntry {num : BlockNo} {f : Entry → Entry} (hn : ∀ x, (f x).num = x.num)
    (hs : ∀ x, (f x).state = x.state) {n : Node} {e : Entry} (he : headEntry n = some e) (hnum : e.num = num) :
    (onEntry num f n).bq.entries.find? (fun x => x.num == num && uncommitted x) = some (f e) := by
  have hp : ((fun x : Entry => x.num == num && uncommitted x) ∘ fun e => if e.num = num then f e else e) =
      fun x => x.num == num && uncommitted x := by
    funext x
    by_cases hx : x.num = num <;> simp [hx, hn, hs, uncommitted, inChain]
  have hu : uncommitted e = true := List.find?_some he
  have hfind : n.bq.entries.find? (fun x => x.num == num && uncommitted x) = some e := by
    obtain ⟨x, hx⟩ := Option.isSome_iff_exists.1
      (List.find?_isSome (p := fun x : Entry => x.num == num && uncommitted x)
        |>.2 ⟨e, List.mem_of_find?_eq_some he, by simp [hnum, hu]⟩)
    have hxu := List.find?_some (p := fun x : Entry => x.num == num && uncommitted x) hx
    rw [hx, find_unique hx he (by simpa using (Bool.and_eq_true_iff.1 hxu).2) (by simp [hnum, hu])]
  simp only [onEntry, List.find?_map, hp, hfind, Option.map_some, hnum, if_true]

/-- The queue's own part of a READY that passes its tests, with BLOCK_REFUSED for a REFUSE (R67, R68). -/
def readyTaken (i : Nat) (num : BlockNo) (v : Verdict) (n : Node) : Node :=
  match v with
  | .refuse _ => raiseWarn .blockRefused (BitVec.ofNat 8 i) (onEntry num (withVerdict i v) n)
  | _ => onEntry num (withVerdict i v) n

theorem readyTaken_only (i : Nat) (num : BlockNo) (v : Verdict) (n : Node) :
    onlyChanges [.conds] (onEntry num (withVerdict i v) n) (readyTaken i num v n) := by
  unfold readyTaken
  split
  · exact raiseWarn_only _ _ _
  · exact onlyChanges_refl _ _

theorem readyTaken_refused {i : Nat} {num : BlockNo} {v : Verdict} (n : Node) (h : ∃ r, v = .refuse r) :
    condIn .blockRefused (readyTaken i num v n).cu.own = true := by
  obtain ⟨r, rfl⟩ := h
  simp [readyTaken, raiseWarn_condIn]

theorem recordReady_taken {i : Nat} {num : BlockNo} {v : Verdict} {n : Node} {e : Entry}
    (he : evaluatedHead n = some e) (hn : e.num = num) (hp : (participants e).contains i = true) :
    recordReady i num v n = goTest (readyTaken i num v n) := by
  unfold recordReady readyTaken
  simp only [he, if_pos (And.intro hn hp)]
  cases v <;> rfl

/-- A READY for no EVALUATED head, for another number or from a node that is no participant. -/
theorem recordReady_passed {i : Nat} {num : BlockNo} {v : Verdict} {n : Node}
    (h : ∀ e, evaluatedHead n = some e → e.num ≠ num ∨ (participants e).contains i = false) :
    recordReady i num v n = goTest n := by
  unfold recordReady
  split
  · rename_i e he
    rw [if_neg]
    rintro ⟨hn, hp⟩
    rcases h e he with h | h
    · exact h hn
    · rw [hp] at h
      cases h
  · rfl

/-- Settles O22: the verdict is written into the head, a REFUSE raises its condition, and a READY that fails a test
leaves at most the test of candidacy. -/
theorem readyRecordsTheVerdict : Obligations.ReadyRecordsTheVerdict := by
  unfold Obligations.ReadyRecordsTheVerdict
  intro rx num verdict arg s
  refine frameCompletes_of (unit := fun _ n => acceptReady rx num verdict arg n) rfl ?_
  generalize accepted rx s.node = m
  refine ⟨fun v e hv he hn hp => ?_, fun h => ?_⟩
  · have ht := readyTaken_only rx.sender.val num v m
    have hg := finish_line_only (goTest_only (readyTaken rx.sender.val num v m))
    have hbq : (finish (goTest (readyTaken rx.sender.val num v m))).bq =
        (onEntry num (withVerdict rx.sender.val v) m).bq :=
      (show _ = _ from hg .blocks (by simp) (by decide)).trans (ht .blocks (by simp) (by decide))
    have hr : acceptReady rx num verdict arg m = goTest (readyTaken rx.sender.val num v m) := by
      simp only [acceptReady, hv, recordReady_taken he hn hp]
    rw [hr, hbq, condIn_of_onlyChanges hg (by simp) (by decide)]
    refine ⟨⟨withVerdict rx.sender.val v e, ?_, recordedVerdict_withVerdict _ _ _⟩, readyTaken_refused m, ?_⟩
    · exact find_uncommitted_onEntry (f := withVerdict rx.sender.val v) (fun _ => rfl) (fun _ => rfl)
        (evaluatedHead_iff.1 he).1 hn
    · exact onlyChanges_trans (onlyChanges_both (onEntry_only _ _ m) ht (by simp) (by simp)) (onlyChanges_nil hg)
  · unfold acceptReady
    split
    · rename_i v hv
      rw [recordReady_passed]
      · exact finish_line_only (goTest_only m)
      · intro e he
        rcases h with h | h | ⟨x, hx, h⟩
        · rw [hv] at h
          cases h
        · rw [he] at h
          cases h
        · exact Option.some.inj (hx.symm.trans he) ▸ h
    · exact finish_only m

end Sys2Proof.Machine
end

section
/-! PROOF. SPINDLE frames at the spindle node (R62, R128, R129, R135). -/

namespace Sys2Proof.Machine

-- The text is checked as one file under a data limit that many waiting threads would exceed.
set_option Elab.async false

/-! ### A request settled and taken (R128, R140) -/

theorem spindle_command_of_keeps {n m : Node} (h : keeps .spindle n m) :
    m.sg.command = n.sg.command ∧ m.sg.override = n.sg.override := by
  have hs : ({ m.sg with driveCmd := 0 } : SG) = { n.sg with driveCmd := 0 } := h
  have hc := congrArg SG.command hs
  have ho := congrArg SG.override hs
  exact ⟨hc, ho⟩

theorem noteSettled_only (r : Gear) (c : Bool) (n : Node) : onlyChanges [.conds] n (noteSettled r c n) := by
  unfold noteSettled
  split
  · exact raiseWarn_only _ _ n
  · exact clearCond_only _ n

/-- SPEED_LIMITED says whether the settling clamped the speed (R128). -/
theorem noteSettled_condIn (r : Gear) (c : Bool) (n : Node) :
    condIn .speedLimited (noteSettled r c n).cu.own = c := by
  unfold noteSettled
  cases c
  · simp
  · simp [raiseWarn_condIn]

theorem takeRequest_request (q : Option SpeedDir) (r : Gear) (sg : SG) :
    (takeRequest q (some r) sg).request = q := by
  unfold takeRequest
  dsimp only
  split
  · rfl
  · exact setGear_request _ _

/-- A shift begins where the gearbox is not ENGAGED in the request's range (R140). -/
theorem takeRequest_gear (q : Option SpeedDir) (r : Gear) (sg : SG) :
    (takeRequest q (some r) sg).gear = if sg.gear = .engaged r then sg.gear else .stoppingForShift := by
  unfold takeRequest
  by_cases h : sg.gear = .engaged r
  · simp [engagedIn, h]
  · simp [engagedIn, h, beginShift, setGear_gear]

theorem dropCommand_request (p : SpindleParams) (n : Node) :
    (dropCommand p n).sg.request = n.sg.request ∧ (dropCommand p n).sg.gear = n.sg.gear := by
  unfold dropCommand
  split <;> exact ⟨rfl, rfl⟩

theorem dropCommand_cu (p : SpindleParams) (n : Node) : (dropCommand p n).cu = n.cu := by
  unfold dropCommand
  split <;> rfl

/-! ### The forms at the unit (R129, R135) -/

/-- The request "stopped", with the command 0 and the gearbox as it was. -/
structure RequestStopped (n m : Node) : Prop where
  request : m.sg.request = none
  command : m.sg.command = 0
  gear : m.sg.gear = n.sg.gear
  cond : condIn .speedLimited m.cu.own = false
  only : onlyChanges [.spindle, .conds] n m

/-- A SPINDLE_FAULT behind the stop leaves request, command and gearbox (R134). -/
theorem RequestStopped.spindleFault {n m : Node} (h : RequestStopped n m) : RequestStopped n (spindleFault m) := by
  have hr : onlyChanges [.conds] m (Machine.spindleFault m) := raiseHold_only _ _ m
  have hk := hr .spindle (by simp) (by decide)
  obtain ⟨hg, hq, -⟩ := spindle_of_keeps hk
  obtain ⟨hc, -⟩ := spindle_command_of_keeps hk
  refine ⟨hq.trans h.request, hc.trans h.command, hg.trans h.gear, ?_, onlyChanges_both h.only hr (by simp) (by simp)⟩
  rw [Machine.spindleFault, raiseHold_condIn _ _ _ (by decide), h.cond]
  decide

/-- The unit with its request "stopped", before SPEED_LIMITED clears and the command follows (R135, R137). -/
def requestCleared (n : Node) : Node :=
  { n with sg := { n.sg with
      request := none, manualStop := n.sg.manualStop || (n.nt.mode == .auto && fillsHead .spindle n) } }

/-- A stop form stops a block that runs in AUTO at a command above 0 (R135). -/
def stopHits (n : Node) : Bool := n.nt.mode == .auto && n.pg.run.isSome && 0 < n.sg.command

theorem obeyStop_eq (p : SpindleParams) (n : Node) : obeyStop p n =
    if stopHits n then spindleFault (dropCommand p (clearCond .speedLimited (requestCleared n)))
    else dropCommand p (clearCond .speedLimited (requestCleared n)) := rfl

theorem obeyStop_stops (p : SpindleParams) (n : Node) : RequestStopped n (obeyStop p n) := by
  have hc := clearCond_only .speedLimited (requestCleared n)
  obtain ⟨hg, hq, -⟩ := spindle_of_keeps (hc .spindle (by simp) (by decide))
  obtain ⟨hr, hcmd⟩ := dropCommand_stopped (p := p) hq
  have hs : RequestStopped n (dropCommand p (clearCond .speedLimited (requestCleared n))) := by
    refine ⟨hr, hcmd, (dropCommand_request p _).2.trans hg, ?_, ?_⟩
    · rw [dropCommand_cu]
      simp
    · have h0 : onlyChanges [.spindle] n (requestCleared n) := withSg_only _ n
      exact onlyChanges_trans (onlyChanges_both h0 hc (by simp) (by simp))
        (onlyChanges_mono (by simp) (dropCommand_only p _))
  rw [obeyStop_eq]
  split
  · exact hs.spindleFault
  · exact hs

theorem obeyStop_faults {p : SpindleParams} {n : Node} (h : stopHits n = true) :
    condIn .spindleFault (obeyStop p n).cu.own = true := by
  rw [obeyStop_eq, if_pos h, spindleFault, raiseHold_condIn _ _ _ (by decide)]
  simp

/-- A start form obeyed: the settled speed with its direction, its range and SPEED_LIMITED (R128, R135, R140). -/
structure RequestTaken (q : Gear × Nat × Bool) (ccw : Bool) (n m : Node) : Prop where
  request : m.sg.request = keptRequest q.2.1 ccw
  gear : m.sg.gear = if n.sg.gear = .engaged q.1 then n.sg.gear else .stoppingForShift
  cond : condIn .speedLimited m.cu.own = q.2.2
  only : onlyChanges [.spindle, .conds] n m

theorem obeyStart_takes (p : SpindleParams) (rpm : Nat) (ccw : Bool) (n : Node) :
    RequestTaken (settle p rpm none) ccw n (obeyStart p rpm ccw n) := by
  generalize hq : settle p rpm none = q
  have hn := noteSettled_only q.1 q.2.2 n
  obtain ⟨hg, -, -⟩ := spindle_of_keeps (hn .spindle (by simp) (by decide))
  have he : obeyStart p rpm ccw n = dropCommand p { noteSettled q.1 q.2.2 n with
      sg := takeRequest (keptRequest q.2.1 ccw) (some q.1) (noteSettled q.1 q.2.2 n).sg } := by
    rw [← hq]
    rfl
  rw [he]
  obtain ⟨hdr, hdg⟩ := dropCommand_request p { noteSettled q.1 q.2.2 n with
    sg := takeRequest (keptRequest q.2.1 ccw) (some q.1) (noteSettled q.1 q.2.2 n).sg }
  refine ⟨hdr.trans (takeRequest_request _ _ _), ?_, ?_, ?_⟩
  · rw [hdg, takeRequest_gear, hg]
  · rw [dropCommand_cu]
    exact noteSettled_condIn _ _ n
  · exact onlyChanges_trans (onlyChanges_both hn (withSg_only _ _) (by simp) (by simp))
      (onlyChanges_mono (by simp) (dropCommand_only p _))

theorem spindleStart_ignored {p : SpindleParams} {rpm : Nat} {ccw : Bool} {n : Node}
    (h : n.nt.mode = .auto ∨ n.cu.stopped = true ∨ takesRequest n.sg = false) : spindleStart p rpm ccw n = n := if_pos h

theorem spindleStart_obeyed {p : SpindleParams} {rpm : Nat} {ccw : Bool} {n : Node} (hm : n.nt.mode ≠ .auto)
    (hs : n.cu.stopped = false) (ht : takesRequest n.sg = true) :
    spindleStart p rpm ccw n = if rpm = 0 then obeyStop p n else obeyStart p rpm ccw n :=
  if_neg (by simp [hm, hs, ht])

theorem spindleStart_only (p : SpindleParams) (rpm : Nat) (ccw : Bool) (n : Node) :
    onlyChanges [.spindle, .conds] n (spindleStart p rpm ccw n) := by
  unfold spindleStart
  split_ifs
  · exact onlyChanges_refl _ n
  · exact (obeyStop_stops p n).only
  · exact (obeyStart_takes p rpm ccw n).only

/-! ### The forms at the node (R62, R135, R169, R173) -/

theorem forgetSpindle_only (n : Node) : onlyChanges [.blocks] n (forgetSpindle n) := withBq_only _ n

theorem manualSpeed_eq (rpm : Nat) (ccw : Bool) (n : Node) : ∃ pd, manualSpeed rpm ccw n = { n with pd := pd } := by
  unfold manualSpeed
  split
  · exact ⟨_, rfl⟩
  · exact ⟨n.pd, rfl⟩

theorem noteSpindleOverride_eq (value : Nat) (n : Node) :
    ∃ pd, noteSpindleOverride value n = { n with pd := pd } := by
  unfold noteSpindleOverride
  split
  · exact ⟨_, rfl⟩
  · exact ⟨n.pd, rfl⟩

section
variable {p : SpindleParams} {n : Node} {speed : BitVec 16} {dir value : Byte}

theorem acceptSpindle_start {ccw : Bool} (hp : n.par.spindle = some p) (hd : boolOfCode dir = some ccw) :
    ∃ pd, acceptSpindle 0 speed dir value n =
      { forgetSpindle (spindleStart p speed.toNat ccw n) with pd := pd } := by
  simp only [acceptSpindle, hd, sgFrame, hp, if_true]
  exact manualSpeed_eq _ _ _

theorem acceptSpindle_noDirection (hd : boolOfCode dir = none) :
    acceptSpindle 0 speed dir value n = forgetSpindle n := by
  simp [acceptSpindle, hd]

theorem acceptSpindle_stop (hp : n.par.spindle = some p) :
    acceptSpindle 1 speed dir value n = forgetSpindle (obeyStop p n) := by
  simp [acceptSpindle, sgFrame, hp]

theorem acceptSpindle_override (hp : n.par.spindle = some p) :
    ∃ pd, acceptSpindle 2 speed dir value n = { spindleOverride value.toNat n with pd := pd } := by
  simp only [acceptSpindle, sgFrame, hp]
  exact noteSpindleOverride_eq _ _

theorem acceptSpindle_unlisted {form : Byte} (hf : 2 < form.toNat) : acceptSpindle form speed dir value n = n := by
  have h0 : form ≠ 0 := by rintro rfl; simp at hf
  have h1 : form ≠ 1 := by rintro rfl; simp at hf
  have h2 : form ≠ 2 := by rintro rfl; simp at hf
  rw [acceptSpindle, if_neg h0, if_neg h1, if_neg h2]

theorem spindleForm_cases (form : Byte) : form = 0 ∨ form = 1 ∨ form = 2 ∨ 2 < form.toNat := by
  bv_omega

theorem clampNat_override (v : Nat) : clampNat 50 120 v = max 50 (min 120 v) := by
  unfold clampNat
  split_ifs <;> omega

end

/-- What a frame leaves where its unit's part leaves `k`: the request in force unknown, and the pendant's own record
apart the rest of `k`. -/
theorem forgotten_only {ps : List Part} {n k : Node} (h : onlyChanges ps n k) (pd : PD) :
    onlyChanges (ps ++ [.blocks, .pendant]) n { forgetSpindle k with pd := pd } :=
  onlyChanges_both (onlyChanges_both (ps := ps ++ [.blocks, .pendant]) h (forgetSpindle_only k)
    (fun _ hp => List.mem_append_left _ hp) (by simp))
    (withPd_only pd (forgetSpindle k)) (fun _ hp => hp) (by simp)

section
variable {p : SpindleParams} {n : Node} {speed : BitVec 16} {dir value : Byte}

theorem acceptSpindle_start_only (hp : n.par.spindle = some p) :
    onlyChanges [.spindle, .conds, .blocks, .pendant] n (acceptSpindle 0 speed dir value n) := by
  cases hd : boolOfCode dir with
  | none =>
    rw [acceptSpindle_noDirection hd]
    exact onlyChanges_mono (by simp) (forgetSpindle_only n)
  | some ccw =>
    obtain ⟨pd, he⟩ := acceptSpindle_start (speed := speed) (value := value) hp hd
    rw [he]
    exact forgotten_only (spindleStart_only p _ ccw n) pd

theorem acceptSpindle_only {form : Byte} (hp : n.par.spindle = some p) :
    onlyChanges [.spindle, .conds, .blocks, .pendant] n (acceptSpindle form speed dir value n) := by
  rcases spindleForm_cases form with rfl | rfl | rfl | hf
  · exact acceptSpindle_start_only hp
  · rw [acceptSpindle_stop hp]
    exact forgotten_only (obeyStop_stops p n).only (obeyStop p n).pd
  · obtain ⟨pd, he⟩ := acceptSpindle_override (speed := speed) (dir := dir) (value := value) hp
    have ho : onlyChanges [.spindle] n (spindleOverride value.toNat n) := withSg_only _ n
    rw [he]
    exact onlyChanges_both ho (withPd_only pd _) (by simp) (by simp)
  · rw [acceptSpindle_unlisted hf]
    exact onlyChanges_refl _ n

/-- The queue after a start form: the request and the range in force are unknown, whatever the direction (R62). -/
theorem acceptSpindle_start_bq (hp : n.par.spindle = some p) :
    (acceptSpindle 0 speed dir value n).bq = { n.bq with spindleForce := none, rangeForce := none } := by
  cases hd : boolOfCode dir with
  | none => rw [acceptSpindle_noDirection hd, forgetSpindle]
  | some ccw =>
    obtain ⟨pd, he⟩ := acceptSpindle_start (speed := speed) (value := value) hp hd
    have hb : (spindleStart p speed.toNat ccw n).bq = n.bq := spindleStart_only p _ ccw n .blocks (by simp) (by decide)
    rw [he, ← hb]
    rfl

end

/-- Settles O50: each form is its act at the unit, with what the queue and the pendant note of it. -/
theorem spindleFrames : Obligations.SpindleFrames := by
  unfold Obligations.SpindleFrames
  intro rx form speed dir value s p hp
  refine frameCompletes_of (unit := fun _ n => acceptSpindle form speed dir value n) rfl ?_
  replace hp : (accepted rx s.node).par.spindle = some p := by rwa [accepted_par]
  generalize accepted rx s.node = m at hp
  have hfin := finish_only (acceptSpindle form speed dir value m) .spindle (by simp) (by decide)
  obtain ⟨hgear, hreq, -⟩ := spindle_of_keeps hfin
  obtain ⟨hcmd, hovr⟩ := spindle_command_of_keeps hfin
  rw [hgear, hreq, hcmd, hovr, finish_bq, finish_condIn _ (by decide), finish_condIn _ (by decide)]
  refine ⟨finish_line_only (acceptSpindle_only hp), ?_, fun ccw hf hd => ?_, fun hf => ?_, fun hf => ?_,
    fun hf hd => ?_, fun hf => ?_⟩
  · rintro (rfl | rfl)
    · exact acceptSpindle_start_bq hp
    · rw [acceptSpindle_stop hp, forgetSpindle, (obeyStop_stops p m).only .blocks (by simp) (by decide)]
  · subst hf
    obtain ⟨pd, he⟩ := acceptSpindle_start (speed := speed) (value := value) hp hd
    refine ⟨fun hi => ?_, fun hm hs ht => ⟨fun hv => ?_, fun hv => ?_⟩⟩
    · rw [he, spindleStart_ignored hi]
      exact finish_line_only (forgotten_only (ps := []) (onlyChanges_refl _ m) pd)
    · have hk := obeyStart_takes p speed.toNat ccw m
      rw [he, spindleStart_obeyed hm hs ht, if_neg (by omega)]
      exact ⟨hk.request, hk.cond, hk.gear⟩
    · have hk := obeyStop_stops p m
      rw [he, spindleStart_obeyed hm hs ht, if_pos hv]
      exact ⟨hk.request, hk.command, hk.gear, hk.cond⟩
  · subst hf
    have hk := obeyStop_stops p m
    rw [acceptSpindle_stop hp]
    exact ⟨hk.request, hk.command, hk.cond, hk.gear, fun hm hr hc => obeyStop_faults (by simp [stopHits, hm, hr, hc])⟩
  · subst hf
    obtain ⟨pd, he⟩ := acceptSpindle_override (speed := speed) (dir := dir) (value := value) hp
    rw [he]
    exact ⟨clampNat_override _, rfl, rfl⟩
  · rw [hf, acceptSpindle_noDirection hd]
    exact finish_line_only (forgetSpindle_only m)
  · rw [acceptSpindle_unlisted hf]
    exact finish_only m

end Sys2Proof.Machine
end

section
/-! PROOF. The start of the first COMMITTED entry (R71, R80, R86, R158). -/

namespace Sys2Proof.Machine

-- The text is checked as one file under a data limit that many waiting threads would exceed.
set_option Elab.async false

/-! ### The circuits compared with their demands (R148) -/

theorem compareFlood_only (n : Node) : onlyChanges [.coolant, .conds] n (compareFlood n) := by
  unfold compareFlood
  split_ifs
  · exact withCl_loss_only _ n
  · exact onlyChanges_refl _ n
  · exact floodStop_only n
  · exact onlyChanges_refl _ n

theorem compareTsc_only (p : CoolantParams) (n : Node) : onlyChanges [.coolant, .conds] n (compareTsc p n) := by
  unfold compareTsc
  split_ifs
  · exact setTsc_only _ _ _ n
  · exact onlyChanges_refl _ n
  · exact tscStop_only n
  · exact onlyChanges_refl _ n

theorem compareAir_only (n : Node) : onlyChanges [.coolant, .conds] n (compareAir n) := by
  unfold compareAir
  split_ifs
  · exact withCl_loss_only _ n
  · exact onlyChanges_refl _ n
  · exact airOff_only n
  · exact onlyChanges_refl _ n

theorem compareAll_only (n : Node) : onlyChanges [.coolant, .conds] n (compareAll n) := by
  unfold compareAll
  split
  · exact onlyChanges_trans (compareFlood_only n) (onlyChanges_trans (compareTsc_only _ _) (compareAir_only _))
  · exact onlyChanges_refl _ n

theorem clActHead_only (n : Node) : onlyChanges [.coolant] n (clActHead n) := by
  unfold clActHead
  split
  · exact clActOn_only _ n
  · exact onlyChanges_refl _ n

/-! ### The entry started (R71, R80) -/

section
variable {n : Node} {e : Entry} {f : BlockFields}

theorem startable_of_head {k : Tick} (hh : n.bq.entries.head? = some e) (hr : n.pg.run = none)
    (hc : e.state = .committed) (hk : e.start = .at k) (hf : e.fields = some f) : startable n = some (e, f, k) := by
  simp [startable, hh, hr, hc, hk, hf]

theorem startEntry_only (e : Entry) (f : BlockFields) (n : Node) :
    onlyChanges [.blocks, .path, .coolant] n (startEntry e f n) := by
  intro p hp hr
  cases p <;> simp_all [keeps, reporting, startEntry, onEntry]

theorem startEntry_head (hh : n.bq.entries.head? = some e) :
    (startEntry e f n).bq.entries.head? = some { e with state := .running } := by
  simp [startEntry, onEntry, hh]

theorem startEntry_run (e : Entry) (f : BlockFields) (n : Node) :
    (startEntry e f n).pg.run = some (startRun e f n) := rfl

/-- The tick just before is the one whose successor is the present tick. -/
theorem carriedInto_eq : (∀ k v, n.pg.carry = some (k, v) → carriedInto n = if k = n.pg.tick - 1 then v else 0) ∧
    (n.pg.carry = none → carriedInto n = 0) := by
  have hk (k : Tick) : k + 1 = n.pg.tick ↔ k = n.pg.tick - 1 := ⟨fun h => by simp [← h], fun h => by simp [h]⟩
  refine ⟨fun k v h => ?_, fun h => ?_⟩
  · simp only [carriedInto, h, hk]
  · simp only [carriedInto, h]

/-- The velocity and the dwell count that a block starts with (R80, R86). -/
theorem startRun_start (e : Entry) (f : BlockFields) (n : Node) :
    (f.len = 0 → (startRun e f n).v = 0 ∧ (startRun e f n).dwell = max f.dwell 1) ∧
    (0 < f.len → (startRun e f n).v = carriedInto n) :=
  ⟨fun h => ⟨if_pos h, if_pos h⟩, fun h => if_neg (Nat.pos_iff_ne_zero.1 h)⟩

end

/-- Settles O15: the first entry RUNNING with its start values on the path, which the coolant unit's acts at a start
tick leave. -/
theorem blockStartTakesTheCommittedEntry : Obligations.BlockStartTakesTheCommittedEntry := by
  unfold Obligations.BlockStartTakesTheCommittedEntry
  intro s e f k hl hh hr hc hk hf
  refine completes_live (f := blockStarts) rfl hl ?_
  have hb : blockStarts s.node = compareAll (clActHead (startEntry e f s.node)) := by
    simp only [blockStarts, startable_of_head hh hr hc hk hf]
  have ha : onlyChanges [.coolant, .conds] (startEntry e f s.node) (finish (blockStarts s.node)) := by
    rw [hb]
    exact finish_line_only (onlyChanges_both (clActHead_only _) (compareAll_only _) (by simp) (fun _ h => h))
  have hrun : (finish (blockStarts s.node)).pg.run = some (startRun e f s.node) :=
    congrArg PG.run (show _ = (startEntry e f s.node).pg from ha .path (by simp) (by decide))
  have hbq : (finish (blockStarts s.node)).bq = (startEntry e f s.node).bq := ha .blocks (by simp) (by decide)
  obtain ⟨hdwell, hlen⟩ := startRun_start e f s.node
  obtain ⟨hcarry, hnone⟩ := carriedInto_eq (n := s.node)
  refine ⟨_, hrun, rfl, rfl, rfl, rfl, rfl, rfl, rfl, rfl, rfl, rfl, hdwell, fun h => ?_, ?_, ?_⟩
  · rw [hlen h]
    exact ⟨hcarry, hnone⟩
  · rw [hbq]
    exact startEntry_head hh
  · exact onlyChanges_both (startEntry_only e f s.node) ha (by simp) (by simp)

end Sys2Proof.Machine
end

section
/-! PROOF. The resolution of a component, its path command, and the frame records that an OFFSET writes (R60, R104,
R105). -/

namespace Sys2Proof.Machine

-- The text is checked as one file under a data limit that many waiting threads would exceed.
set_option Elab.async false

/-! ### The resolution (R60, R105) -/

theorem insideWindow_iff (r : FrameRec) (m : Int) :
    insideWindow r m = true ↔ ∀ lo hi, r.window = some (lo, hi) → lo ≤ m ∧ m ≤ hi := by
  unfold insideWindow
  cases r.window with
  | none => simp
  | some w =>
    obtain ⟨lo, hi⟩ := w
    simp only [Bool.and_eq_true, decide_eq_true_eq, Option.some.injEq, Prod.mk.injEq]
    exact ⟨fun h _ _ ⟨h1, h2⟩ => h1 ▸ h2 ▸ h, fun h => h lo hi ⟨rfl, rfl⟩⟩

section
variable {sel : Nat} {x : Int} {a : Axis} {r : FrameRec}

/-- A component through the frame record that its block selects (R60). -/
theorem resolveComp_of_record (hr : a.frames[sel]? = some r) : resolveComp sel x a =
    if r.valid = false then (.unresolved .frameInvalid, a.planned)
    else if machineTarget r x < posMin ∨ posMax < machineTarget r x then (.unresolved .travel, a.planned)
    else (.resolved a.planned (machineTarget r x) (insideWindow r (machineTarget r x)), machineTarget r x) := by
  simp only [resolveComp, List.getD_eq_getElem?_getD, hr, Option.getD_some]

end

/-! ### The path command (R104) -/

theorem roundDiv_neg {b : Int} (hb : 0 < b) (a : Int) : roundDiv (-a) b = -roundDiv a b := by
  have h0 : b / (2 * b) = 0 := Int.ediv_eq_zero_of_lt hb.le (by omega)
  unfold roundDiv
  rcases lt_trichotomy a 0 with h | rfl | h
  · rw [if_pos (by omega), if_neg (by omega), neg_neg]
  · simp [h0]
  · rw [if_neg (by omega), if_pos h.le, neg_neg]

/-- The rounded share of a displacement that is not negative, after p of l. -/
theorem roundDiv_share {d p l : Int} (hd : 0 ≤ d) (hl : 0 < l) (hp : 0 ≤ p) (hpl : p ≤ l) :
    0 ≤ roundDiv (d * p) l ∧ roundDiv (d * p) l ≤ d := by
  have h0 : 0 ≤ d * p := mul_nonneg hd hp
  have h1 : d * p ≤ d * l := mul_le_mul_of_nonneg_left hpl hd
  rw [roundDiv, if_pos h0]
  refine ⟨Int.ediv_nonneg (by omega) (by omega), Int.lt_add_one_iff.1 ((Int.ediv_lt_iff_lt_mul (by omega)).2 ?_)⟩
  have he : (d + 1) * (2 * l) = 2 * (d * l) + 2 * l := by ring
  omega

theorem roundDiv_full {l : Int} (hl : 0 < l) (d : Int) : roundDiv (d * l) l = d := by
  have hpos {d : Int} (hd : 0 ≤ d) : roundDiv (d * l) l = d := by
    refine le_antisymm (roundDiv_share hd hl hl.le le_rfl).2 ?_
    rw [roundDiv, if_pos (mul_nonneg hd hl.le), Int.le_ediv_iff_mul_le (by omega)]
    have he : d * (2 * l) = 2 * (d * l) := by ring
    omega
  rcases le_total 0 d with hd | hd
  · exact hpos hd
  · have h := roundDiv_neg hl (-d * l)
    rw [hpos (d := -d) (by omega), neg_mul, neg_neg] at h
    omega

theorem roundDiv_zero {l : Int} (hl : 0 < l) : roundDiv 0 l = 0 := by
  simpa using (roundDiv_share (d := 0) (p := 0) le_rfl hl le_rfl hl.le).2.antisymm
    (roundDiv_share (d := 0) (p := 0) le_rfl hl le_rfl hl.le).1

theorem pathCommand_between (s t : Int) {p l : Nat} (hl : 0 < l) (hp : p ≤ l) :
    min s t ≤ pathCommand s t p l ∧ pathCommand s t p l ≤ max s t := by
  have hl' : (0 : Int) < l := by omega
  unfold pathCommand
  rcases le_total s t with h | h
  · obtain ⟨h0, h1⟩ := roundDiv_share (d := t - s) (p := p) (l := l) (by omega) hl' (by omega) (by omega)
    omega
  · obtain ⟨h0, h1⟩ := roundDiv_share (d := s - t) (p := p) (l := l) (by omega) hl' (by omega) (by omega)
    have hn : (t - s) * (p : Int) = -((s - t) * p) := by ring
    rw [hn, roundDiv_neg hl']
    omega

/-! ### OFFSET (R105) -/

section
variable {b : OffsetBody} {n : Node}

theorem acceptOffset_writes {c : Chan} {p : AxisParams} (hc : chanOf b.axis.toNat n = some (c, p))
    (h1 : 1 ≤ b.frameNo.toNat) (h31 : b.frameNo.toNat ≤ 31) :
    toChannel b.axis (fun c _ m => acceptOffset b c m) n =
      onAx c (fun a => { a with frames := a.frames.set b.frameNo.toNat (offsetRecord b) }) n := by
  simp only [toChannel, hc]
  exact if_pos ⟨h1, h31⟩

theorem acceptOffset_passes
    (h : chanOf b.axis.toNat n = none ∨ b.frameNo.toNat = 0 ∨ 31 < b.frameNo.toNat) :
    toChannel b.axis (fun c _ m => acceptOffset b c m) n = n := by
  unfold toChannel
  split
  · rename_i c p hc
    refine if_neg ?_
    rintro ⟨h1, h31⟩
    rcases h with h | h | h
    · rw [hc] at h
      cases h
    · omega
    · omega
  · rfl

end

/-- Settles O21: the resolution row by row, the path command as the rounded share of the displacement, and an OFFSET
as one record of one channel. -/
theorem componentResolutionAndPathCommand : Obligations.ComponentResolutionAndPathCommand := by
  unfold Obligations.ComponentResolutionAndPathCommand
  refine ⟨fun sel x a r hr => ?_, fun s t p l hl hp => ?_, fun rx b s => ?_⟩
  · intro m
    rw [resolveComp_of_record hr]
    change (_ → _) ∧ (_ → m < posMin ∨ posMax < m → _) ∧ (_ → posMin ≤ m → m ≤ posMax → _)
    refine ⟨fun hv => if_pos hv, fun hv hm => ?_, fun hv hlo hhi => ?_⟩
    · rw [if_neg (by simp [hv])]
      exact if_pos hm
    · have hm : ¬(m < posMin ∨ posMax < m) := by omega
      rw [if_neg (by simp [hv])]
      exact ⟨_, if_neg hm, insideWindow_iff r m⟩
  · have hl' : (0 : Int) < l := by omega
    refine ⟨?_, ?_, pathCommand_between s t hl hp⟩
    · simp [pathCommand, roundDiv_zero hl']
    · rw [pathCommand, roundDiv_full hl']
      omega
  · refine frameCompletes_of (unit := fun _ n => toChannel b.axis (fun c _ m => acceptOffset b c m) n) rfl ?_
    generalize accepted rx s.node = m
    refine ⟨fun c p hc h1 h31 => ?_, fun h => ?_⟩
    · rw [finish_ax, acceptOffset_writes hc h1 h31, getAx_onAx]
      exact ⟨rfl, rfl, finish_line_only (onAx_only c _ m)⟩
    · rw [acceptOffset_passes h]
      exact finish_only m

end Sys2Proof.Machine
end

section
/-! PROOF. The cases of an accepted GO (R58, R70). -/

namespace Sys2Proof.Machine

-- The text is checked as one file under a data limit that many waiting threads would exceed.
set_option Elab.async false

/-! ### The fault record of a raising that an overflow does not outrank (R15, R181) -/

section
variable {r : FaultRecord} {n : Node} (hc : classRank r.cond ≤ classRank .txqOverflow)
include hc

theorem raiseOverflow_record (h : n.cu.record = some r) : (raiseOverflow n).cu.record = some r := by
  have hw : writesRecord .txqOverflow n.cu = false := by simp [writesRecord, h, hc]
  simp only [raiseOverflow, hw, noteRaise, raisedCU]
  exact h

theorem ask_record (p : Payload) (h : n.cu.record = some r) : (ask p n).cu.record = some r := by
  unfold ask askWith
  dsimp only
  split
  · exact raiseOverflow_record hc h
  · exact h

theorem askFault_record (h : n.cu.record = some r) : (askFault n).cu.record = some r := by
  unfold askFault
  dsimp only
  split
  · exact raiseOverflow_record hc h
  · exact h

theorem heldTest_record (h : n.cu.record = some r) : (heldTest n).cu.record = some r := by
  unfold heldTest
  split
  · exact ask_record hc _ h
  · exact h

theorem finish_record (h : n.cu.record = some r) : (finish n).cu.record = some r := by
  have hn : (noteChange n).cu.record = some r := by
    unfold noteChange
    split <;> exact h
  have hs : (changeState (noteChange n)).cu.record = some r := by
    unfold changeState
    split
    · exact ask_record (n := { noteChange n with nt := _ }) hc _ hn
    · exact hn
  exact hs

end

/-- A HOLD-class raising over an empty record fills it, and what it asks for leaves it so (R181). -/
theorem finish_raiseHold_record {c : Cond} (d : Byte) {n : Node} (hc : classRank c ≤ classRank .txqOverflow)
    (h : n.cu.record = none) : (finish (raiseHold c d n)).cu.record =
      some { cond := c, tick := n.pg.tick, running := runningBlock n, detail := d } := by
  have hw : writesRecord c n.cu = true := by simp [writesRecord, h]
  refine finish_record (by exact hc) (heldTest_record (by exact hc) ?_)
  simp only [raiseCommon, hw, if_true]
  exact askFault_record (by exact hc) (by simp [noteRaise, raisedCU, hw])

/-! ### The cases (R70) -/

section
variable {num : BlockNo} {n : Node} {e : Entry}

/-- A GO that the queue passes over: for an entry of the chain, the last completed block or an entry with a GO. -/
def goDuplicate (num : BlockNo) (n : Node) (e : Entry) : Prop :=
  e.state = .committed ∨ e.state = .running ∨ n.bq.last = some num ∨ e.goStamp.isSome = true

theorem goCase_of_none (h : ∀ e ∈ n.bq.entries, e.num ≠ num) : goCase num n = .ignored := by
  have hf : n.bq.entries.find? (fun e => e.num == num) = none := List.find?_eq_none.2 fun e he => by simp [h e he]
  simp only [goCase, hf]

theorem goDuplicate_iff : goDuplicate num n e ↔ n.bq.last = some num ∨ (inChain e || e.goStamp.isSome) = true := by
  simp only [goDuplicate, inChain, Bool.or_eq_true, beq_iff_eq]
  tauto

theorem goCase_duplicate (h : n.bq.entries.find? (fun e => e.num == num) = some e) (hd : goDuplicate num n e) :
    goCase num n = .ignored := by
  simp only [goCase, h]
  exact if_pos (goDuplicate_iff.1 hd)

theorem goCase_first (h : n.bq.entries.find? (fun e => e.num == num) = some e) (hd : ¬goDuplicate num n e) :
    goCase num n = if headNum n = some num then if e.state = .evaluated then .kept else .gap else .gap := by
  simp only [goCase, h]
  exact if_neg (mt goDuplicate_iff.2 hd)

end

section
variable {rx : Rx} {st : Stamp} {num : BlockNo} {c : Moment} {n : Node}

theorem acceptGo_ignored (h : goCase num n = .ignored) : acceptGo rx st num c n = n := by
  simp only [acceptGo, h]

/-- A GO in the gap case raises SEQUENCE_GAP with the low byte of its number, and is dropped (R58, R70). -/
theorem acceptGo_gap (h : goCase num n = .gap) :
    condIn .sequenceGap (finish (acceptGo rx st num c n)).cu.own = true ∧
    onlyChanges [.conds] n (finish (acceptGo rx st num c n)) ∧
    (n.cu.record = none → (finish (acceptGo rx st num c n)).cu.record = some
      { cond := .sequenceGap, tick := n.pg.tick, running := runningBlock n, detail := num.setWidth 8 }) := by
  have hg : acceptGo rx st num c n = raiseHold .sequenceGap (num.setWidth 8) n := by
    simp only [acceptGo, h, raiseGap]
  rw [hg]
  exact ⟨finish_raiseHold_condIn _ _ _ (by decide), finish_line_only (raiseHold_only _ _ n),
    finish_raiseHold_record _ (by decide)⟩

/-- A GO kept in its window, with its stamp in the head (R70, R78). -/
theorem acceptGo_kept {e : Entry} (h : goCase num n = .kept) (he : evaluatedHead n = some e)
    (hw : windowOf (keptOf rx c st (.go num)).apply c.tick n.pg.tick = .inTime) :
    let full := fullStampTick st.tick c.tick
    let t := finish (acceptGo rx st num c n)
    t.kept = n.kept ++ [keptOf rx c st (.go num)] ∧ evaluatedHead t = some (stampedAs full e) ∧
    onlyChanges [.kept, .blocks] n t := by
  intro full t
  have ht : t = finish { onEntry num (stampedAs full) n with kept := n.kept ++ [keptOf rx c st (.go num)] } := by
    simp only [t, acceptGo, h]
    exact congrArg finish (placeFrame_inTime (n := onEntry num (stampedAs full) n) hw)
  rw [ht]
  refine ⟨finish_kept _, ?_, finish_line_only (onlyChanges_both (onEntry_only num (stampedAs full) n)
    (withKept_only _ (onEntry num (stampedAs full) n)) (by simp) (by simp))⟩
  refine (evaluatedHead_of_bq (finish_bq _)).trans ?_
  exact evaluatedHead_onEntry (f := stampedAs full) (fun _ => rfl) he (find_of_kept h he).1

end

/-- Settles O23: the case that the queue makes of the GO decides, and each case is one act. -/
theorem goAcceptanceCases : Obligations.GoAcceptanceCases := by
  unfold Obligations.GoAcceptanceCases
  intro rx st num s
  refine frameCompletes_of (unit := fun c n => stamped rx st (acceptGo rx st num) c (goWithdraw rx num n)) rfl ?_
  simp only [stamped]
  generalize alignTime rx (captureOf rx s.node) st (goWithdraw rx num (accepted rx s.node)) = x
  obtain ⟨n, c⟩ := x
  refine ⟨fun h => ?_, fun e he => ⟨fun hd => ?_, fun hd hh => ?_, fun hd hh hs => ?_, fun hd hev hw => ?_⟩⟩
  · rw [acceptGo_ignored (goCase_of_none h)]
    exact finish_only n
  · rw [acceptGo_ignored (goCase_duplicate he hd)]
    exact finish_only n
  · exact acceptGo_gap (by rw [goCase_first he hd, if_neg hh])
  · exact acceptGo_gap (by rw [goCase_first he hd, if_pos hh, if_neg (by simp [hs])])
  · obtain ⟨hh, hst⟩ := evaluatedHead_iff.1 hev
    have hn : e.num = num := by simpa using List.find?_some he
    have hk : goCase num n = .kept := by
      rw [goCase_first he hd, if_pos (by simp [headNum, hh, hn]), if_pos hst]
    exact acceptGo_kept hk hev hw

end Sys2Proof.Machine
end

section
/-! PROOF. The commitment of the head at a GO_APPLY, part by part (R62, R70, R71, R72, R102, R114, R137, R157, R173). -/

namespace Sys2Proof.Machine

-- The text is checked as one file under a data limit that many waiting threads would exceed.
set_option Elab.async false

/-! ### The node that a commitment leaves before the next head is evaluated -/

/-- The queue after a commitment: the head COMMITTED, the records in force taken and the head wait timer preset. -/
def committedQueue (e : Entry) (f : BlockFields) (g : Tick) (n : Node) : BQ :=
  { takeForce f n.bq with
    entries := n.bq.entries.map fun x => if x.num = e.num then committedAs e g n x else x
    headTimer := n.par.headWait }

/-- A channel as the chain leaves rest: its abandoned-unclamp mark clear, and a used channel in CHAIN where its motion
was IDLE (R102, R114). -/
def leftRest (c : Chan) (n : Node) : Axis :=
  { getAx c n with
    abandoned := false
    motion := if (axParams c n).isSome ∧ (getAx c n).motion = .idle then .chain else (getAx c n).motion }

theorem manualFromBlock_eq (f : BlockFields) (n : Node) :
    ∃ q, manualFromBlock f n = { n with pd := { n.pd with manual := q } } := by
  unfold manualFromBlock manualSpeed
  split
  · split
    · exact ⟨_, rfl⟩
    · exact ⟨n.pd.manual, rfl⟩
  · exact ⟨n.pd.manual, rfl⟩

/-- A channel's motion as the chain leaves rest (R102). -/
def leavesRest (c : Chan) (n : Node) : Axis := if (axParams c n).isSome then chainMotion (getAx c n) else getAx c n

theorem forAxes_axLeavesRest (n : Node) :
    forAxes axLeavesRest n = { n with ax0 := leavesRest .ax0 n, ax1 := leavesRest .ax1 n } := by
  cases h0 : n.par.axis0 <;> cases h1 : n.par.axis1 <;>
    simp [forAxes, axLeavesRest, axParams, onAx, setAx, getAx, leavesRest, h0, h1]

theorem leavesRest_clearAbandoned (c : Chan) (n : Node) : leavesRest c (clearAbandoned n) = leftRest c n := by
  have key (used : Bool) (a : Axis) :
      (if used then chainMotion { a with abandoned := false } else { a with abandoned := false }) =
        { a with abandoned := false, motion := if used ∧ a.motion = .idle then .chain else a.motion } := by
    by_cases hm : a.motion = .idle <;> cases used <;> simp [chainMotion, hm]
  cases c
  · exact key n.par.axis0.isSome n.ax0
  · exact key n.par.axis1.isSome n.ax1

theorem committedNode_eq (e : Entry) (f : BlockFields) (g : Tick) (n : Node) : ∃ lc nt cu q,
    committedNode e f g n = { n with
      lc := lc, nt := nt, cu := cu, bq := committedQueue e f g n, ax0 := leftRest .ax0 n, ax1 := leftRest .ax1 n
      sg := { n.sg with manualStop := false }, cl := { n.cl with manualOff := .empty }
      pd := { n.pd with manual := q } } ∧
    ∀ x, condIn x cu.own = (condIn x n.cu.own && !decide (x = .startStall)) := by
  obtain ⟨q, hq⟩ := manualFromBlock_eq f (committedEntries e f g n)
  generalize hm : withdrawReady e.num (manualFromBlock f (committedEntries e f g n)) = m
  obtain ⟨cu, nt, hc, -⟩ := clearCond_eq .startStall (presetHead m)
  have hcond (x : Cond) : condIn x cu.own = (condIn x n.cu.own && !decide (x = .startStall)) := by
    have h := clearCond_condIn .startStall (presetHead m) x
    rw [hc] at h
    rw [show n.cu = (presetHead m).cu by rw [← hm, hq]; rfl]
    exact h
  refine ⟨m.lc, nt, cu, q, ?_, hcond⟩
  have h0 := leavesRest_clearAbandoned .ax0 n
  have h1 := leavesRest_clearAbandoned .ax1 n
  rw [committedNode, hm, forAxes_axLeavesRest, headChanged, hc, ← h0, ← h1, ← hm, hq]
  rfl

/-! ### The next head (R61) -/

theorem clActOn_eq (e : Entry) (n : Node) : ∃ d, clActOn e n = { n with cl := { n.cl with demand := d } } := by
  unfold clActOn
  split
  · split
    · exact ⟨_, rfl⟩
    · exact ⟨n.cl.demand, rfl⟩
  · exact ⟨n.cl.demand, rfl⟩

/-- The evaluation of the head touches of the coolant unit the demands alone (R157). -/
theorem evaluateHead_cl (n : Node) : ∃ d, (evaluateHead n).cl = { n.cl with demand := d } := by
  obtain h | ⟨e, x, -, -, h⟩ := evaluateHead_cases n
  · exact ⟨n.cl.demand, by rw [h]⟩
  · obtain ⟨d, hd⟩ := clActOn_eq x (onEntry e.num (fun _ => x) n)
    refine ⟨d, ?_⟩
    rw [h, firstVerdict_only x _ .coolant (by simp) (by decide), hd]
    rfl

/-- A head that is not QUEUED, or INVALID without fields, is not evaluated (R61). -/
theorem evaluateHead_still {n : Node} (h : ∀ e, headEntry n = some e → e.state ≠ .queued ∨ e.fields = none) :
    evaluateHead n = n := by
  unfold evaluateHead
  split
  · rename_i e he
    split
    · rename_i f hq hf
      rcases h e he with h | h
      · exact absurd hq h
      · rw [hf] at h
        cases h
    · rfl
  · rfl

theorem evaluateHead_queued {n : Node} {e : Entry} {f : BlockFields} (he : headEntry n = some e)
    (hq : e.state = .queued) (hf : e.fields = some f) : ∃ rs, evaluateHead n =
      firstVerdict (evaluatedAs e rs) (clActOn (evaluatedAs e rs) (onEntry e.num (fun _ => evaluatedAs e rs) n)) := by
  refine ⟨fillRoles (neededRoles f n.bq) n, ?_⟩
  simp only [evaluateHead, evaluatedAs, he, hq, hf]

theorem firstVerdict_entries (e : Entry) (n : Node) : ∃ v : Entry → Option Verdict,
    (firstVerdict e n).bq.entries =
      n.bq.entries.map (fun x => if x.num = e.num then { x with lastAsked := v x } else x) := by
  unfold firstVerdict
  split
  · exact ⟨fun _ => some (ownVerdict e n), congrArg BQ.entries (ask_bq _ _)⟩
  · exact ⟨Entry.lastAsked, by simp⟩

/-- A change of the entries of a number that one entry carries changes that entry in its place. -/
theorem map_of_unique {before after : List Entry} {e : Entry} (f : Entry → Entry)
    (hu : ∀ x ∈ before ++ after, x.num ≠ e.num) :
    (before ++ e :: after).map (fun x => if x.num = e.num then f x else x) = before ++ f e :: after := by
  have hid {l : List Entry} (hl : ∀ x ∈ l, x.num ≠ e.num) : l.map (fun x => if x.num = e.num then f x else x) = l := by
    refine (List.map_congr_left fun x hx => ?_).trans (List.map_id l)
    exact if_neg (hl x hx)
  simp only [List.map_append, List.map_cons, if_true]
  rw [hid fun x hx => hu x (List.mem_append_left _ hx), hid fun x hx => hu x (List.mem_append_right _ hx)]

/-- A QUEUED head that carries its number alone is evaluated in its place, and keeps its fields and records. -/
theorem evaluateHead_entries {n : Node} {before rest : List Entry} {h : Entry} (he : n.bq.entries = before ++ h :: rest)
    (hb : ∀ x ∈ before, inChain x = true) (hq : h.state = .queued) (hf : h.fields.isSome = true)
    (hu : ∀ x ∈ before ++ rest, x.num ≠ h.num) :
    ∃ g, (evaluateHead n).bq.entries = before ++ g :: rest ∧ g.state = .evaluated ∧ g.num = h.num ∧
      g.fields = h.fields ∧ g.rec0 = h.rec0 ∧ g.rec1 = h.rec1 := by
  obtain ⟨f, hf⟩ := Option.isSome_iff_exists.1 hf
  have hhead : headEntry n = some h := by
    have hnone : before.find? uncommitted = none := List.find?_eq_none.2 fun x hx => by simp [uncommitted, hb x hx]
    simp [headEntry, he, List.find?_append, hnone, uncommitted, inChain, hq]
  obtain ⟨rs, hev⟩ := evaluateHead_queued hhead hq hf
  obtain ⟨v, hv⟩ := firstVerdict_entries (evaluatedAs h rs)
    (clActOn (evaluatedAs h rs) (onEntry h.num (fun _ => evaluatedAs h rs) n))
  have hmap : (onEntry h.num (fun _ => evaluatedAs h rs) n).bq.entries = before ++ evaluatedAs h rs :: rest := by
    rw [← map_of_unique (fun _ => evaluatedAs h rs) hu, ← he]
    rfl
  refine ⟨{ evaluatedAs h rs with lastAsked := v (evaluatedAs h rs) }, ?_, rfl, rfl, rfl, rfl, rfl⟩
  rw [hev, hv, clActOn_bq, hmap]
  exact map_of_unique (e := evaluatedAs h rs) (fun x => { x with lastAsked := v x }) hu

/-! ### The queue through a commitment -/

section
variable {e : Entry} {f : BlockFields} {g : Tick} {n : Node}

/-- Every entry of the committed number is written as the committed one, and the evaluation of the next head leaves
them. -/
theorem commit_find_map (e : Entry) (f : BlockFields) (g : Tick) (n : Node) :
    (commit e f g n).bq.entries.find? (fun y => y.num == e.num) =
      (n.bq.entries.find? fun y => y.num == e.num).map (committedAs e g n) := by
  rw [commit_eq, find_evaluateHead fun x hx => committedNode_head hx, committedNode_entries]
  exact find_onEntry_self (f := committedAs e g n) (fun _ => rfl) n

/-- The entries before a head that carries its number alone belong to the chain. -/
theorem inChain_before_head {before after : List Entry} (hh : headEntry n = some e)
    (hs : n.bq.entries = before ++ e :: after) (hu : ∀ x ∈ before ++ after, x.num ≠ e.num) :
    ∀ x ∈ before, inChain x = true := by
  intro x hx
  by_contra hc
  obtain ⟨y, hy⟩ := Option.isSome_iff_exists.1
    (List.find?_isSome (p := uncommitted) |>.2 ⟨x, hx, by simp [uncommitted, hc]⟩)
  have hye : y = e := by simpa [headEntry, hs, List.find?_append, hy] using hh
  exact hu y (List.mem_append_left _ (List.mem_of_find?_eq_some hy)) (congrArg Entry.num hye)

theorem committedNode_split {before after : List Entry} (hs : n.bq.entries = before ++ e :: after)
    (hu : ∀ x ∈ before ++ after, x.num ≠ e.num) :
    (committedNode e f g n).bq.entries = before ++ committedAs e g n e :: after := by
  rw [committedNode_entries, ← map_of_unique (committedAs e g n) hu, ← hs]
  rfl

/-- The head behind a commitment is the first uncommitted entry behind the committed one. -/
theorem committedNode_headEntry {before after : List Entry} (hs : n.bq.entries = before ++ e :: after)
    (hu : ∀ x ∈ before ++ after, x.num ≠ e.num) (hb : ∀ x ∈ before, inChain x = true) :
    headEntry (committedNode e f g n) = after.find? uncommitted := by
  have hnone : before.find? uncommitted = none := List.find?_eq_none.2 fun x hx => by simp [uncommitted, hb x hx]
  have hc : uncommitted (committedAs e g n e) = false := rfl
  simp only [headEntry, committedNode_split hs hu, List.find?_append, hnone, Option.none_or, List.find?_cons, hc]

theorem commit_entries_still {before after : List Entry} (hh : headEntry n = some e)
    (hs : n.bq.entries = before ++ e :: after) (hu : ∀ x ∈ before ++ after, x.num ≠ e.num)
    (hn : ∀ h, after.find? uncommitted = some h → h.state ≠ .queued ∨ h.fields = none) :
    (commit e f g n).bq.entries = before ++ committedAs e g n e :: after := by
  have hb := inChain_before_head hh hs hu
  rw [commit_eq, evaluateHead_still (by rwa [committedNode_headEntry hs hu hb]), committedNode_split hs hu]

theorem commit_entries_evaluated {before mid rest : List Entry} {h : Entry} (hh : headEntry n = some e)
    (hs : n.bq.entries = before ++ e :: (mid ++ h :: rest)) (hu : ∀ x ∈ before ++ (mid ++ h :: rest), x.num ≠ e.num)
    (hm : ∀ x ∈ mid, inChain x = true) (hq : h.state = .queued) (hf : h.fields.isSome = true)
    (huh : ∀ x ∈ before ++ mid ++ rest, x.num ≠ h.num) :
    ∃ x, (commit e f g n).bq.entries = before ++ committedAs e g n e :: (mid ++ x :: rest) ∧ x.state = .evaluated ∧
      x.num = h.num ∧ x.fields = h.fields ∧ x.rec0 = h.rec0 ∧ x.rec1 = h.rec1 := by
  have hb := inChain_before_head hh hs hu
  have hc : (committedNode e f g n).bq.entries = (before ++ committedAs e g n e :: mid) ++ h :: rest := by
    rw [committedNode_split hs hu]
    simp
  have hne : (committedAs e g n e).num ≠ h.num := (hu h (by simp)).symm
  obtain ⟨x, hx, hrest⟩ := evaluateHead_entries hc
    (by
      intro y hy
      rcases List.mem_append.1 hy with hy | hy
      · exact hb y hy
      · rcases List.mem_cons.1 hy with rfl | hy
        · rfl
        · exact hm y hy)
    hq hf
    (by
      intro y hy
      simp only [List.mem_append, List.mem_cons] at hy huh
      rcases hy with (hy | rfl | hy) | hy
      · exact huh y (.inl (.inl hy))
      · exact hne
      · exact huh y (.inl (.inr hy))
      · exact huh y (.inr hy))
  refine ⟨x, ?_, hrest⟩
  rw [commit_eq, hx]
  simp

end

/-! ### GO_APPLY (R70, R71) -/

/-- What a commitment leaves of the queue but for its entries, with the reports that follow it. -/
theorem finish_commit_bq (e : Entry) (f : BlockFields) (g : Tick) (n : Node) :
    ({ (finish (commit e f g n)).bq with entries := [] } : BQ) = { committedQueue e f g n with entries := [] } := by
  obtain ⟨lc, nt, cu, q, hcn, -⟩ := committedNode_eq e f g n
  obtain ⟨y, hy, -⟩ := evaluateHead_bq (committedNode e f g n)
  rw [finish_bq, commit_eq, hy, hcn]

theorem finish_commit_cl (e : Entry) (f : BlockFields) (g : Tick) (n : Node) :
    ({ (finish (commit e f g n)).cl with demand := .empty } : CL) =
      { n.cl with demand := .empty, manualOff := .empty } := by
  obtain ⟨lc, nt, cu, q, hcn, -⟩ := committedNode_eq e f g n
  obtain ⟨d, hd⟩ := evaluateHead_cl (committedNode e f g n)
  rw [finish_cl, commit_eq, hd, hcn]

/-- What a commitment leaves of the conditions and of the units other than the coolant unit (R72, R102, R114, R137,
R173). -/
theorem finish_commit_units (e : Entry) (f : BlockFields) (g : Tick) (n : Node) :
    let t := finish (commit e f g n)
    t.kept = n.kept ∧
    (∀ x, x ≠ .txqOverflow → condIn x t.cu.own = (condIn x n.cu.own && !decide (x = .startStall))) ∧
    (∀ c, getAx c t = leftRest c n) ∧
    ({ t.sg with driveCmd := 0 } : SG) = { n.sg with manualStop := false, driveCmd := 0 } ∧
    ({ t.pd with manual := none } : PD) = { n.pd with manual := none } := by
  obtain ⟨lc, nt, cu, q, hcn, hcond⟩ := committedNode_eq e f g n
  have h := finish_line_only (evaluateHead_only (committedNode e f g n))
  rw [← commit_eq, hcn] at h
  intro t
  have hpd : t.pd = { n.pd with manual := q } := h .pendant (by simp) (by decide)
  refine ⟨h .kept (by simp) (by decide), fun x hx => ?_, fun c => ?_, h .spindle (by simp) (by decide), by rw [hpd]⟩
  · rw [← hcond x]
    exact condIn_of_onlyChanges h (by simp) hx
  · cases c
    · exact h .channel0 (by simp) (by decide)
    · exact h .channel1 (by simp) (by decide)

/-- GO_APPLY with the first kept GO (R70). -/
theorem goApply_completes {s : State} {k : Kept} {num : BlockNo} {P : Node → Prop} (hl : loaded s.node = true)
    (hk : s.node.kept.find? (fun x => isGo x.payload) = some k) (hp : k.payload = .go num)
    (h : P (finish (applyGo num k.stamp k.sender.val (withoutKept k s.node)))) : completes .goApply s P := by
  refine completes_applyFirst (test := isGo) rfl hl hk ?_
  unfold applyKept
  rw [hp]
  exact h

/-- A GO whose entry is not the EVALUATED head does nothing (R70). -/
theorem applyGo_passes {num : BlockNo} {g : Tick} {i : Nat} {n : Node}
    (h : ∀ e, evaluatedHead n = some e → e.num ≠ num) : applyGo num g i n = n := by
  unfold applyGo
  split
  · rename_i e he
    split
    · exact if_pos (h e he)
    · rfl
  · rfl

/-- Settles O24: a commitment part by part, the discard as one raising, and a GO for no EVALUATED head taken out of the
kept frames alone. -/
theorem goApplyCommitsTheHead : Obligations.GoApplyCommitsTheHead := by
  unfold Obligations.GoApplyCommitsTheHead
  refine ⟨fun s k e f hl hk hp he hf => ⟨fun hs ho => ?_, fun hd => ?_⟩, fun s hl => ⟨fun hno => ?_,
    fun k num hk hp hne => ?_⟩⟩
  · refine goApply_completes hl hk hp ?_
    rw [applyGo_commits (n := withoutKept k s.node) he hf rfl hs ho]
    obtain ⟨hkept, hcond, hax, hsg, hpd⟩ := finish_commit_units e f k.stamp (withoutKept k s.node)
    have hh : headEntry (withoutKept k s.node) = some e := (evaluatedHead_iff.1 he).1
    rw [finish_bq]
    refine ⟨hkept, commit_find_map e f k.stamp (withoutKept k s.node), fun before after hsplit hu => ⟨fun hn => ?_,
      fun mid h rest ha hm hq hfl huh => ?_⟩, ?_, ?_, fun x h1 h2 => ?_,
      fun x => (hax x).trans (by cases x <;> rfl), hsg, finish_commit_cl _ _ _ _, hpd, ?_⟩
    · exact commit_entries_still (n := withoutKept k s.node) hh hsplit hu hn
    · subst ha
      exact commit_entries_evaluated (n := withoutKept k s.node) hh hsplit hu hm hq hfl huh
    · rw [← finish_bq]
      exact finish_commit_bq e f k.stamp (withoutKept k s.node)
    · simp [hcond .startStall (by decide)]
    · exact (hcond x h2).trans (by simp [h1, withoutKept])
    · have h0 : onlyChanges [.kept] s.node (withoutKept k s.node) := withKept_only _ _
      exact onlyChanges_both h0 (finish_line_only (commit_only e f k.stamp _)) (by simp) (by simp)
  · refine goApply_completes hl hk hp ?_
    rw [applyGo_discards (n := withoutKept k s.node) he (by simp [hf]) rfl hd]
    have hr := finish_line_only (raiseHold_only .syncSlip (BitVec.ofNat 8 k.sender.val) (withoutKept k s.node))
    have h0 : onlyChanges [.kept] s.node (withoutKept k s.node) := withKept_only _ _
    exact ⟨hr .kept (by simp) (by decide), finish_raiseHold_condIn _ _ _ (by decide),
      (evaluatedHead_of_bq (hr .blocks (by simp) (by decide))).trans he, onlyChanges_both h0 hr (by simp) (by simp)⟩
  · refine completes_applyFirst_none (test := isGo) rfl hl fun k hk => ?_
    simpa using List.find?_eq_none.1 hno k hk
  · refine goApply_completes hl hk hp ?_
    rw [applyGo_passes (n := withoutKept k s.node) hne]
    exact ⟨finish_kept _, withoutKept_only k s.node⟩

end Sys2Proof.Machine
end

section
/-! PROOF. The judgements of the axis channels on the head (R65, R106, R123). -/

namespace Sys2Proof.Machine

-- The text is checked as one file under a data limit that many waiting threads would exceed.
set_option Elab.async false

/-! ### Cells on the way (R106, R123) -/

theorem invalidAmong_iff {a : Axis} {k n : Nat} :
    invalidAmong a k n = true ↔ ∃ j, k ≤ j ∧ j < k + n ∧ cellValid a j = false := by
  induction n generalizing k with
  | zero => simp only [invalidAmong, Bool.false_eq_true, false_iff, not_exists]; omega
  | succ n ih =>
    simp only [invalidAmong, Bool.or_eq_true, Bool.not_eq_true', ih]
    constructor
    · rintro (h | ⟨j, h1, h2, h⟩)
      · exact ⟨k, le_rfl, by omega, h⟩
      · exact ⟨j, by omega, by omega, h⟩
    · rintro ⟨j, h1, h2, h⟩
      rcases Nat.eq_or_lt_of_le h1 with rfl | h1
      · exact .inl h
      · exact .inr ⟨j, h1, by omega, h⟩

section
variable {seg : Nat} {a : Axis}

theorem compCell_below {x : Int} (hx : x < 0) : compCell seg a x = 0 := if_pos hx

theorem compCell_beyond {x : Int} (h0 : 0 ≤ x) (hx : (compLast a : Int) * seg ≤ x) :
    compCell seg a x = compLast a + 1 := by
  rw [compCell, if_neg (by omega), if_pos hx]

theorem compCell_within {x : Int} (h0 : 0 ≤ x) (hx : x < (compLast a : Int) * seg) :
    compCell seg a x = x.toNat / seg + 1 := by
  rw [compCell, if_neg (by omega), if_neg (by omega)]

/-- A position before the last index lies in one of the segments before it. -/
theorem segment_lt_last (hs : 0 < seg) {x : Int} (hx : x < (compLast a : Int) * seg) (h0 : 0 ≤ x) :
    x.toNat / seg < compLast a := by
  have hn : x.toNat < compLast a * seg := by
    have : ((compLast a * seg : Nat) : Int) = (compLast a : Int) * seg := by push_cast; rfl
    omega
  exact (Nat.div_lt_iff_lt_mul hs).2 hn

theorem compCell_mono (hs : 0 < seg) {x y : Int} (h : x ≤ y) : compCell seg a x ≤ compCell seg a y := by
  rcases lt_or_ge x 0 with hx | hx
  · rw [compCell_below hx]
    exact Nat.zero_le _
  · have hy : 0 ≤ y := hx.trans h
    rcases lt_or_ge y ((compLast a : Int) * seg) with hyl | hyl
    · rw [compCell_within hx (by omega), compCell_within hy hyl]
      exact Nat.succ_le_succ (Nat.div_le_div_right (by omega))
    · rw [compCell_beyond hy hyl]
      rcases lt_or_ge x ((compLast a : Int) * seg) with hxl | hxl
      · rw [compCell_within hx hxl]
        exact Nat.succ_le_succ (segment_lt_last hs hxl hx).le
      · rw [compCell_beyond hx hxl]

theorem compCell_le_last (hs : 0 < seg) (x : Int) : compCell seg a x ≤ compLast a + 1 := by
  have h := compCell_mono (a := a) hs (le_max_left x (max 0 ((compLast a : Int) * seg)))
  have he := compCell_beyond (a := a) (seg := seg) (x := max x (max 0 ((compLast a : Int) * seg)))
    (le_max_of_le_right (le_max_left _ _)) (le_max_of_le_right (le_max_right _ _))
  omega

/-- The start of a segment lies in its cell. -/
theorem compCell_segment_start (hs : 0 < seg) {i : Nat} (hi : i < compLast a) :
    compCell seg a ((i * seg : Nat) : Int) = i + 1 := by
  have hlt : ((i * seg : Nat) : Int) < (compLast a : Int) * seg := by
    have := Nat.mul_lt_mul_of_pos_right hi hs
    push_cast
    exact_mod_cast this
  rw [compCell_within (by omega) hlt, Int.toNat_natCast, Nat.mul_div_cancel i hs]

/-- The cells between those of two positions are the cells of the positions between them. -/
theorem exists_between_of_cell (hs : 0 < seg) {u v : Int} {k : Nat} (huv : u ≤ v) (hu : compCell seg a u ≤ k)
    (hv : k ≤ compCell seg a v) : ∃ x, u ≤ x ∧ x ≤ v ∧ compCell seg a x = k := by
  rcases Nat.eq_or_lt_of_le hu with hu | hu
  · exact ⟨u, le_rfl, huv, hu⟩
  · rcases Nat.eq_or_lt_of_le hv with hv | hv
    · exact ⟨v, huv, le_rfl, hv.symm⟩
    · have hl := compCell_le_last (a := a) hs v
      obtain ⟨i, rfl⟩ : ∃ i, k = i + 1 := ⟨k - 1, by omega⟩
      have hx := compCell_segment_start (a := a) hs (i := i) (by omega)
      refine ⟨((i * seg : Nat) : Int), ?_, ?_, hx⟩
      · by_contra h
        have hm := compCell_mono (a := a) hs (le_of_not_ge h)
        omega
      · by_contra h
        have hm := compCell_mono (a := a) hs (le_of_not_ge h)
        omega

end

/-- A way crosses a gap where one of its positions lies in a cell that is not valid (R123). -/
theorem crossesGap_iff {p : AxisParams} {a : Axis} {seg : Nat} (hp : p.seg = some seg) (hs : 0 < seg) (s t : Int) :
    crossesGap p a s t = true ↔ ∃ x : Int, min s t ≤ x ∧ x ≤ max s t ∧
      cellValid a (compCell seg a (x - p.compOrigin)) = false := by
  have hmin : min (cellOf p seg a s) (cellOf p seg a t) = compCell seg a (min s t - p.compOrigin) := by
    unfold cellOf
    rcases le_total s t with h | h
    · rw [min_eq_left h, min_eq_left (compCell_mono hs (by omega))]
    · rw [min_eq_right h, min_eq_right (compCell_mono hs (by omega))]
  have hmax : max (cellOf p seg a s) (cellOf p seg a t) = compCell seg a (max s t - p.compOrigin) := by
    unfold cellOf
    rcases le_total s t with h | h
    · rw [max_eq_right h, max_eq_right (compCell_mono hs (by omega))]
    · rw [max_eq_left h, max_eq_left (compCell_mono hs (by omega))]
  have hle : compCell seg a (min s t - p.compOrigin) ≤ compCell seg a (max s t - p.compOrigin) :=
    compCell_mono hs (by omega)
  simp only [crossesGap, hp, hmin, hmax, invalidAmong_iff]
  constructor
  · rintro ⟨k, h1, h2, hk⟩
    obtain ⟨x, hx1, hx2, rfl⟩ := exists_between_of_cell (a := a) hs (u := min s t - p.compOrigin)
      (v := max s t - p.compOrigin) (k := k) (by omega) h1 (by omega)
    exact ⟨x + p.compOrigin, by omega, by omega, by rwa [Int.add_sub_cancel]⟩
  · rintro ⟨x, hx1, hx2, hx⟩
    have h1 : compCell seg a (min s t - p.compOrigin) ≤ compCell seg a (x - p.compOrigin) :=
      compCell_mono hs (by omega)
    have h2 : compCell seg a (x - p.compOrigin) ≤ compCell seg a (max s t - p.compOrigin) :=
      compCell_mono hs (by omega)
    exact ⟨_, h1, by omega, hx⟩

/-! ### The rows of R123 -/

theorem towardMark_iff (a : Axis) (d : Int) :
    towardMark a d = true ↔ (0 < d ∧ a.markPlus = true) ∨ (d < 0 ∧ a.markMinus = true) := by
  simp [towardMark]

theorem rated_iff (f : BlockFields) (d : Int) : rated f d = true ↔ d ≠ 0 ∧ 0 < f.len := by simp [rated]

/-- The component cannot be reached: outside the windows, or toward a side whose limit mark is set (R123). -/
def travelBarred (p : AxisParams) (a : Axis) (s t : Int) (w : Bool) : Prop :=
  t < p.winLow ∨ p.winHigh < t ∨ w = false ∨ (0 < t - s ∧ a.markPlus = true) ∨ (t - s < 0 ∧ a.markMinus = true)

section
variable {p : AxisParams} {a : Axis} {f : BlockFields} {s t : Int} {w : Bool}

theorem travelBarred_iff :
    (t < p.winLow ∨ p.winHigh < t ∨ w = false ∨ towardMark a (t - s) = true) ↔ travelBarred p a s t w := by
  rw [towardMark_iff]
  rfl

theorem axisJudge_travel (h : travelBarred p a s t w) : axisJudge p a f s t w = .refuse .travel :=
  if_pos (travelBarred_iff.2 h)

theorem axisJudge_gap (h1 : ¬travelBarred p a s t w) (h2 : a.referenced = true ∧ crossesGap p a s t = true) :
    axisJudge p a f s t w = .refuse .compGap := by
  rw [axisJudge, if_neg (mt travelBarred_iff.1 h1), if_pos h2]

theorem axisJudge_unreferenced (h1 : ¬travelBarred p a s t w)
    (h2 : ¬(a.referenced = true ∧ crossesGap p a s t = true)) (h3 : a.referenced = false) :
    axisJudge p a f s t w = .refuse .unreferenced := by
  rw [axisJudge, if_neg (mt travelBarred_iff.1 h1), if_neg h2, if_pos h3]

/-- Of a referenced axis with a way free of gaps the rows of R65 and the axis's readiness are left. -/
theorem axisJudge_reachable (h1 : ¬travelBarred p a s t w)
    (h2 : ¬(a.referenced = true ∧ crossesGap p a s t = true)) (h3 : a.referenced = true) :
    axisJudge p a f s t w =
      if (t - s ≠ 0 ∧ 0 < f.len) ∧ p.amax * f.len < f.acc * (t - s).natAbs then .refuse .axisAccel
      else if (t - s ≠ 0 ∧ 0 < f.len) ∧ axisCeiling p f (t - s) = 0 then .refuse .axisSpeed
      else if a.drive ≠ .enabled ∨ a.motion = .jog ∨ a.motion = .reference then .wait .driveOff
      else if p.clampFitted = true ∧ t - s ≠ 0 ∧ a.clamp ≠ .unclamped then .wait .unclamping
      else .ready (if t - s ≠ 0 ∧ 0 < f.len then some (axisCeiling p f (t - s)) else none) := by
  rw [axisJudge, if_neg (mt travelBarred_iff.1 h1), if_neg h2, if_neg (by simp [h3])]
  simp only [rated_iff]

variable (h1 : ¬travelBarred p a s t w) (h2 : ¬(a.referenced = true ∧ crossesGap p a s t = true))
  (h3 : a.referenced = true)
include h1 h2 h3

theorem axisJudge_slow (h : (t - s ≠ 0 ∧ 0 < f.len) ∧ p.amax * f.len < f.acc * (t - s).natAbs) :
    axisJudge p a f s t w = .refuse .axisAccel := by
  rw [axisJudge_reachable h1 h2 h3, if_pos h]

theorem axisJudge_noCeiling (h4 : ¬((t - s ≠ 0 ∧ 0 < f.len) ∧ p.amax * f.len < f.acc * (t - s).natAbs))
    (h : (t - s ≠ 0 ∧ 0 < f.len) ∧ axisCeiling p f (t - s) = 0) : axisJudge p a f s t w = .refuse .axisSpeed := by
  rw [axisJudge_reachable h1 h2 h3, if_neg h4, if_pos h]

section
variable (h4 : ¬((t - s ≠ 0 ∧ 0 < f.len) ∧ p.amax * f.len < f.acc * (t - s).natAbs))
  (h5 : ¬((t - s ≠ 0 ∧ 0 < f.len) ∧ axisCeiling p f (t - s) = 0))
include h4 h5

theorem axisJudge_busy (h : a.drive ≠ .enabled ∨ a.motion = .jog ∨ a.motion = .reference) :
    axisJudge p a f s t w = .wait .driveOff := by
  rw [axisJudge_reachable h1 h2 h3, if_neg h4, if_neg h5, if_pos h]

theorem axisJudge_free (h : ¬(a.drive ≠ .enabled ∨ a.motion = .jog ∨ a.motion = .reference)) :
    axisJudge p a f s t w =
      if p.clampFitted = true ∧ t - s ≠ 0 ∧ a.clamp ≠ .unclamped then .wait .unclamping
      else .ready (if t - s ≠ 0 ∧ 0 < f.len then some (axisCeiling p f (t - s)) else none) := by
  rw [axisJudge_reachable h1 h2 h3, if_neg h4, if_neg h5, if_neg h]

end

end

end Sys2Proof.Machine
end

section
/-! PROOF. The judgements of the spindle and coolant units on the head (R136, R156), and the verdict formed of the
units' judgements (R64). -/

namespace Sys2Proof.Machine

-- The text is checked as one file under a data limit that many waiting threads would exceed.
set_option Elab.async false

/-! ### A channel's judgement -/

section
variable {c : Chan} {e : Entry} {n : Node} {p : AxisParams} {f : BlockFields}

theorem chanJudge_unlisted (h : recFor c e = none) : chanJudge c e n = none := by simp [chanJudge, h]

variable (hp : axParams c n = some p) (hf : e.fields = some f)
include hp hf

theorem chanJudge_unresolved {r : RefuseReason} (h : recFor c e = some (.unresolved r)) :
    chanJudge c e n = some (.refuse r) := by
  simp [chanJudge, hp, hf, h]

theorem chanJudge_resolved {s t : Int} {w : Bool} (h : recFor c e = some (.resolved s t w)) :
    chanJudge c e n = some (axisJudge p (getAx c n) f s t w) := by
  simp [chanJudge, hp, hf, h]

end

/-! ### The spindle unit (R136) -/

section
variable {p : SpindleParams} {f : BlockFields} {sg : SG} {n : Node}

theorem settle_eq (p : SpindleParams) (x : Nat) (sel : Option Gear) :
    settle p x sel = (sel.getD (autoRange p x), min x (rangeOf p (sel.getD (autoRange p x))).max,
      decide ((rangeOf p (sel.getD (autoRange p x))).max < x)) := by
  unfold settle
  dsimp only
  split_ifs with h
  · rw [min_eq_left h, decide_eq_false (Nat.not_lt.2 h)]
  · rw [min_eq_right (Nat.le_of_not_le h), decide_eq_true (Nat.lt_of_not_le h)]

theorem spindleTarget_stopped (h : targetSpeed f sg = none) :
    spindleTarget p f sg = { request := none, range := gearOfNumber f.gear, clamped := false } := by
  rw [spindleTarget, h]

theorem spindleTarget_settled {y : SpeedDir} (h : targetSpeed f sg = some y) :
    spindleTarget p f sg =
      { request := keptRequest (min y.rpm (rangeOf p ((gearOfNumber f.gear).getD (autoRange p y.rpm))).max) y.ccw,
        range := some ((gearOfNumber f.gear).getD (autoRange p y.rpm)),
        clamped := decide ((rangeOf p ((gearOfNumber f.gear).getD (autoRange p y.rpm))).max < y.rpm) } := by
  simp only [spindleTarget, h, settle_eq]

theorem wantsShift_iff {t : SpindleTarget} :
    wantsShift t sg = true ↔ ∃ r, t.range = some r ∧ sg.gear ≠ .engaged r := by
  unfold wantsShift
  split <;> simp_all [engagedIn]

theorem wantsShift_eq_false_iff {t : SpindleTarget} :
    ¬wantsShift t sg = true ↔ ∀ r, t.range = some r → sg.gear = .engaged r := by
  rw [wantsShift_iff]
  push Not
  rfl

/-- With the manual stop mark clear, a sound gearbox and the chain at rest the rows of the target are left. -/
theorem spindleJudge_ofTarget (hm : n.sg.manualStop = false) (hg : n.sg.gear ≠ .gearFault)
    (hc : chainAtRest n = true) :
    spindleJudge p f n =
      if wantsShift (spindleTarget p f n.sg) n.sg = true then .wait .shifting
      else if n.sg.request ≠ (spindleTarget p f n.sg).request ∨
        ((spindleTarget p f n.sg).request.isSome = true ∧ n.sg.atSpeed = false) ∨
        ((spindleTarget p f n.sg).request = none ∧ n.sg.spindle ≠ .stopped) then .wait .spindleSpeed
      else .ready none := by
  rw [spindleJudge, if_neg (by simp [hm]), if_neg hg, if_neg (by simp [hc])]

end

/-! ### The coolant unit (R156) -/

theorem anyCirc_iff {k : CircSet} {test : Circ → Bool} :
    anyCirc k test = true ↔ ∃ x, inCirc x k = true ∧ test x = true := by
  simp only [anyCirc, Bool.or_eq_true, Bool.and_eq_true]
  constructor
  · rintro ((h | h) | h)
    exacts [⟨.flood, h⟩, ⟨.tsc, h⟩, ⟨.air, h⟩]
  · rintro ⟨x | _, h⟩
    exacts [.inl (.inl h), .inl (.inr h), .inr h]

/-- A circuit counts as proven: TSC also while it is DEGRADED. -/
def Proven (x : Circ) (cl : CL) : Prop := circState x cl = .proven ∨ (x = .tsc ∧ cl.tsc = .degraded)

theorem circProven_iff {x : Circ} {cl : CL} : circProven x cl = true ↔ Proven x cl := by
  cases x <;> simp [circProven, circState, Proven]

theorem circProven_eq_false_iff {x : Circ} {cl : CL} : circProven x cl = false ↔ ¬Proven x cl := by
  rw [← circProven_iff, Bool.not_eq_true]

section
variable {p : CoolantParams} {k : CircSet} {n : Node}

theorem namesFault_iff : anyCirc k (fun x => circState x n.cl == .fault) = true ↔
    ∃ x, inCirc x k = true ∧ circState x n.cl = .fault := by
  simp only [anyCirc_iff, beq_iff_eq]

theorem tscEarly_iff : (k.tsc && !circProven .tsc n.cl && spindleView n < p.tscMin) = true ↔
    k.tsc = true ∧ ¬Proven .tsc n.cl ∧ spindleView n < p.tscMin := by
  simp only [Bool.and_eq_true, Bool.not_eq_true', circProven_eq_false_iff, decide_eq_true_eq, and_assoc]

theorem runsDry_iff :
    (((k.flood && !circProven .flood n.cl) || (k.tsc && !circProven .tsc n.cl)) && tankIsLow n) = true ↔
    ((k.flood = true ∧ ¬Proven .flood n.cl) ∨ (k.tsc = true ∧ ¬Proven .tsc n.cl)) ∧
      condIn .tankLow n.cu.own = true := by
  simp only [Bool.and_eq_true, Bool.or_eq_true, Bool.not_eq_true', circProven_eq_false_iff, tankIsLow]

theorem namesStarting_iff : anyCirc k (fun x => !circProven x n.cl) = true ↔
    ∃ x, inCirc x k = true ∧ ¬Proven x n.cl := by
  simp only [anyCirc_iff, Bool.not_eq_true', circProven_eq_false_iff]

end

/-! ### The verdict of the node (R64) -/

theorem mem_refusals {r : RefuseReason} {vs : List UnitVerdict} : r ∈ refusals vs ↔ .refuse r ∈ vs := by
  simp only [refusals, List.mem_filterMap]
  constructor
  · rintro ⟨v, hv, h⟩
    split at h <;> simp_all
  · exact fun h => ⟨_, h, rfl⟩

theorem mem_waits {r : WaitReason} {vs : List UnitVerdict} : r ∈ waits vs ↔ .wait r ∈ vs := by
  simp only [waits, List.mem_filterMap]
  constructor
  · rintro ⟨v, hv, h⟩
    split at h <;> simp_all
  · exact fun h => ⟨_, h, rfl⟩

theorem mem_ceilings {k : Nat} {vs : List UnitVerdict} : k ∈ ceilings vs ↔ .ready (some k) ∈ vs := by
  simp only [ceilings, List.mem_filterMap]
  constructor
  · rintro ⟨v, hv, h⟩
    split at h <;> simp_all
  · exact fun h => ⟨_, h, rfl⟩

/-- The first of a list that is not empty is a member of it, and none stands before it. -/
theorem firstBy_spec {α : Type} (key : α → Nat) {xs : List α} (h : xs ≠ []) :
    ∃ x ∈ xs, firstBy key xs = some x ∧ ∀ y ∈ xs, key x ≤ key y := by
  induction xs with
  | nil => exact absurd rfl h
  | cons a xs ih =>
    by_cases hx : xs = []
    · subst hx
      exact ⟨a, by simp, rfl, by simp⟩
    · obtain ⟨x, hm, hf, hle⟩ := ih hx
      simp only [firstBy, hf]
      split_ifs with hlt
      · exact ⟨x, .tail _ hm, rfl, List.forall_mem_cons.2 ⟨hlt.le, hle⟩⟩
      · exact ⟨a, .head _, rfl, List.forall_mem_cons.2 ⟨le_rfl, fun y hy => (Nat.le_of_not_lt hlt).trans (hle y hy)⟩⟩

theorem foldl_min_spec (m : Nat) (xs : List Nat) :
    xs.foldl min m ≤ m ∧ (xs.foldl min m = m ∨ xs.foldl min m ∈ xs) ∧ ∀ x ∈ xs, xs.foldl min m ≤ x := by
  induction xs generalizing m with
  | nil => simp
  | cons a xs ih =>
    obtain ⟨hle, hor, hall⟩ := ih (min m a)
    refine ⟨hle.trans (min_le_left _ _), ?_, List.forall_mem_cons.2 ⟨hle.trans (min_le_right _ _), hall⟩⟩
    rcases hor with h | h
    · rcases min_choice m a with hm | hm
      · exact .inl (h.trans hm)
      · exact .inr (List.mem_cons.2 (.inl (h.trans hm)))
    · exact .inr (.tail _ h)

section
variable {vs : List UnitVerdict}

theorem verdictFrom_refuses (h : ∃ r, UnitVerdict.refuse r ∈ vs) :
    ∃ r, verdictFrom vs = .refuse r ∧ .refuse r ∈ vs ∧
      ∀ x, UnitVerdict.refuse x ∈ vs → refuseCode r ≤ refuseCode x := by
  obtain ⟨r0, h0⟩ := h
  obtain ⟨r, hm, hf, hle⟩ := firstBy_spec refuseCode (List.ne_nil_of_mem (mem_refusals.2 h0))
  exact ⟨r, by rw [verdictFrom, hf], mem_refusals.1 hm, fun x hx => hle x (mem_refusals.2 hx)⟩

theorem refusals_eq_nil (h : ∀ r, UnitVerdict.refuse r ∉ vs) : refusals vs = [] :=
  List.eq_nil_iff_forall_not_mem.2 fun r hr => h r (mem_refusals.1 hr)

theorem waits_eq_nil (h : ∀ r, UnitVerdict.wait r ∉ vs) : waits vs = [] :=
  List.eq_nil_iff_forall_not_mem.2 fun r hr => h r (mem_waits.1 hr)

theorem verdictFrom_waits (hr : ∀ r, UnitVerdict.refuse r ∉ vs) (h : ∃ r, UnitVerdict.wait r ∈ vs) :
    ∃ r, verdictFrom vs = .wait r ∧ .wait r ∈ vs ∧
      ∀ x, UnitVerdict.wait x ∈ vs → waitCode r ≤ waitCode x := by
  obtain ⟨r0, h0⟩ := h
  obtain ⟨r, hm, hf, hle⟩ := firstBy_spec waitCode (List.ne_nil_of_mem (mem_waits.2 h0))
  exact ⟨r, by rw [verdictFrom, refusals_eq_nil hr, hf]; rfl, mem_waits.1 hm,
    fun x hx => hle x (mem_waits.2 hx)⟩

theorem verdictFrom_ready (hr : ∀ r, UnitVerdict.refuse r ∉ vs) (hw : ∀ r, UnitVerdict.wait r ∉ vs) :
    ∃ k, verdictFrom vs = .ready k ∧ k ≤ 150 ∧ (k = 150 ∨ .ready (some k) ∈ vs) ∧
      ∀ x, UnitVerdict.ready (some x) ∈ vs → k ≤ x := by
  obtain ⟨hle, hor, hall⟩ := foldl_min_spec 150 (ceilings vs)
  exact ⟨_, by rw [verdictFrom, refusals_eq_nil hr, waits_eq_nil hw]; rfl, hle, hor.imp_right mem_ceilings.1,
    fun x hx => hall x (mem_ceilings.2 hx)⟩

end

/-- The judgements come from the used channels and from the units whose roles the node fills. -/
theorem mem_unitVerdicts {e : Entry} {n : Node} {u : UnitVerdict} :
    u ∈ unitVerdicts e n ↔
      chanJudge .ax0 e n = some u ∨ chanJudge .ax1 e n = some u ∨
      (fills .spindle e n = true ∧ ∃ p f, n.par.spindle = some p ∧ e.fields = some f ∧
        u = spindleJudge p f n) ∨
      (fills .coolant e n = true ∧ ∃ p f, n.par.coolant = some p ∧ e.fields = some f ∧
        u = coolantJudge p (f.coolant.getD .empty) n) := by
  simp only [unitVerdicts, List.mem_append, Option.mem_toList, or_assoc]
  refine or_congr Iff.rfl (or_congr Iff.rfl (or_congr ?spindle ?coolant))
  case spindle => cases n.par.spindle <;> cases e.fields <;> cases fills .spindle e n <;> simp
  case coolant => cases n.par.coolant <;> cases e.fields <;> cases fills .coolant e n <;> simp

end Sys2Proof.Machine
end

section
/-! PROOF. The requests of a READY and a GO that follow the judgement of the head (R66, R69), and O28. -/

namespace Sys2Proof.Machine

-- The text is checked as one file under a data limit that many waiting threads would exceed.
set_option Elab.async false

/-! ### READY (R66) -/

theorem txHas_eq_false_iff {test : Payload → Bool} {n : Node} :
    txHas test n = false ↔ ∀ x ∈ n.lc.queue, test x.payload = false := by simp [txHas]

theorem hasRoom.length_lt {n : Node} (h : hasRoom n) : n.lc.queue.length < 8 := h.2.trans_lt (by decide)

theorem askReady_waiting {n : Node} (h : hasRoom n) (num : BlockNo) (v : Verdict) :
    waiting (.ready num (verdictBytes v).1 (verdictBytes v).2) (askReady num v n) :=
  askWith_enters false (n := onEntry num (fun e => { e with lastAsked := some v }) n) h.1 h.length_lt fun _ => rfl

theorem evaluatedHead_askReady {n : Node} {e : Entry} (he : evaluatedHead n = some e) (v : Verdict) :
    evaluatedHead (askReady e.num v n) = some { e with lastAsked := some v } := by
  rw [askReady, evaluatedHead_of_bq (ask_bq _ _)]
  exact evaluatedHead_onEntry (f := fun x => { x with lastAsked := some v }) (fun _ => rfl) he rfl

section
variable {n : Node} {e : Entry}

theorem verdictTick_participant (he : evaluatedHead n = some e) (hp : participates e n = true) :
    verdictTick n =
      if e.lastAsked ≠ some (ownVerdict e n) ∨ (recordedVerdict (me n) e ≠ some (ownVerdict e n) ∧
        ∀ x ∈ n.lc.queue, isReadyFor e.num x.payload = false)
      then askReady e.num (ownVerdict e n) n else n := by
  simp only [verdictTick, he, hp, if_true, txHas_eq_false_iff]

theorem verdictTick_other (h : ∀ e, evaluatedHead n = some e → participates e n = false) : verdictTick n = n := by
  unfold verdictTick
  split
  · next e he => rw [if_neg (by simp [h e he])]
  · rfl

/-! ### GO (R69) -/

theorem allReady_iff : allReady e = true ↔ ∀ i ∈ participants e, ∃ k, recordedVerdict i e = some (.ready k) := by
  simp only [allReady, List.all_eq_true]
  refine forall₂_congr fun i _ => ?_
  split
  · next k h => simp [h]
  · next h => simpa using h

theorem isCandidate_iff :
    isCandidate e n = true ↔ participates e n = true ∧
      (∀ i ∈ participants e, ∃ k, recordedVerdict i e = some (.ready k)) ∧ e.orphan = false ∧
      n.nt.mode = .auto ∧ n.cu.held = false ∧ hasHold (machineConds n) = false ∧
      hasStop (machineConds n) = false ∧ n.cu.stopped = false ∧ e.goStamp = none := by
  simp only [isCandidate, Bool.and_eq_true, Bool.not_eq_true', beq_iff_eq, Option.isNone_iff_eq_none, allReady_iff,
    and_assoc]

theorem dropsGo_go (num : BlockNo) (q : Payload) : dropsGo (.go num) q = isGoFor num q := by cases q <;> rfl

theorem goTest_waiting (he : evaluatedHead n = some e) (hc : isCandidate e n = true)
    (hq : ∃ x ∈ n.lc.queue, isGoFor e.num x.payload = true) : goTest n = n := by
  simp only [goTest, he, if_pos hc]
  exact if_pos (List.any_eq_true.2 hq)

theorem goTest_asks (he : evaluatedHead n = some e) (hc : isCandidate e n = true)
    (hq : ∀ x ∈ n.lc.queue, isGoFor e.num x.payload = false) : goTest n = ask (.go e.num) n := by
  simp only [goTest, he, if_pos hc, txHas_eq_false_iff.2 hq, Bool.false_eq_true, if_false]

theorem goTest_withdraws (he : evaluatedHead n = some e) (hc : ¬isCandidate e n = true) :
    goTest n = withdrawNamed (isGoFor e.num) n := by
  simp only [goTest, he, if_neg hc, withdrawGo]

/-- A GO that no entry of its block stands for waits after its request, on the line and with room for it. -/
theorem askGo_waiting (hr : hasRoom n) {num : BlockNo} (hq : ∀ x ∈ n.lc.queue, isGoFor num x.payload = false) :
    waiting (.go num) (ask (.go num) n) := by
  have hj : ¬(n.lc.state = .joining ∨ n.lc.state = .off) := by
    rintro (h | h) <;> simp [hasRoom, h, onLine] at hr
  have hd : ¬n.lc.queue.any (fun x => dropsGo (.go num) x.payload) = true := by
    simpa [dropsGo_go] using hq
  have hm : ¬n.lc.queue.any (meets (.go num)) = true := by
    simp [meets, replaces]
  rw [ask, askWith_room _ _ hr.length_lt, enqueueAt, enqueue, if_neg hj, if_neg hd, if_neg hm, if_pos hr.length_lt]
  exact ⟨_, mem_insertTx.2 (.inl rfl), rfl⟩

theorem withdrawNamed_inTx {test : Payload → Bool} {x : TxEntry} (hx : x ∈ (withdrawNamed test n).lc.queue)
    (ht : test x.payload = true) : x.inTx = true := by
  obtain ⟨y, hy, rfl⟩ := List.mem_map.1 hx
  have hin := (List.mem_filter.1 hy).2
  split_ifs at ht ⊢ with h
  · simpa [h] using hin
  · exact absurd ht h

theorem withdrawNamed_stays {test : Payload → Bool} {x : TxEntry} (hx : x ∈ n.lc.queue)
    (ht : test x.payload = false) : x ∈ (withdrawNamed test n).lc.queue :=
  List.mem_map.2 ⟨x, List.mem_filter.2 ⟨hx, by simp [ht]⟩, by simp [ht]⟩

end

/-- Settles O28: the rows of each unit's judgement are read off its chain of tests, the node's verdict is the first
reason of the lists of refusals and waits or the smallest ceiling, and the requests follow from what the transmit
queue takes in. -/
theorem headJudgementVerdictAndGo : Obligations.HeadJudgementVerdictAndGo := by
  refine ⟨fun p a f s t w => ⟨axisJudge_travel, axisJudge_gap, ?unreferenced, ?reachable,
      fun seg hseg hs => crossesGap_iff hseg hs s t⟩,
    fun c e n p f hp hf => ⟨chanJudge_unlisted, fun r => chanJudge_unresolved hp hf,
      fun s t w => chanJudge_resolved hp hf⟩,
    fun p f n => ⟨?stopped, ?settled, ?manual, ?gear, ?target⟩,
    fun p k n => ?coolant,
    fun us => ⟨verdictFrom_refuses, verdictFrom_waits, verdictFrom_ready⟩,
    fun e n u => mem_unitVerdicts,
    fun n => ⟨fun e he hp => ⟨?asks, ?rests⟩, verdictTick_other⟩,
    fun n => ⟨fun e he => ⟨?pending, ?candidate, ?noCandidate⟩, ?noHead⟩⟩
  case unreferenced => exact fun h1 h2 h3 => axisJudge_unreferenced h1 h2 h3
  case reachable =>
    intro h1 h2 h3
    refine ⟨axisJudge_slow h1 h2 h3, fun h4 h h0 => axisJudge_noCeiling h1 h2 h3 h4 ⟨h, h0⟩, fun h4 h5 => ?_⟩
    have h5 : ¬((t - s ≠ 0 ∧ 0 < f.len) ∧ axisCeiling p f (t - s) = 0) := fun h => h5.elim (· h.1) (· h.2)
    have free (hi : a.drive = .enabled ∧ a.motion ≠ .jog ∧ a.motion ≠ .reference) :=
      axisJudge_free h1 h2 h3 h4 h5 (by simpa using hi)
    refine ⟨fun h => axisJudge_busy h1 h2 h3 h4 h5 (by tauto), fun hi h => ?_, fun hi hs h => ?_, fun hi hs h => ?_⟩
    · rw [free hi, if_pos h]
    · rw [free hi, if_neg hs, if_pos h]
      rfl
    · rw [free hi, if_neg hs, if_neg h]
  case stopped =>
    intro hq
    rw [spindleTarget_stopped hq]
    exact ⟨rfl, rfl, rfl⟩
  case settled =>
    intro y hq
    rw [spindleTarget_settled hq]
    exact ⟨rfl, rfl, rfl⟩
  case manual => exact fun hm => if_pos hm
  case gear => exact fun hm hg => by rw [spindleJudge, if_neg (by simp [hm]), if_pos hg]
  case target =>
    intro hm hg
    refine ⟨fun hc => ?_, fun hc hw => ?_, fun hc hw => ⟨fun hu => ?_, fun hu => ?_⟩⟩
    · rw [spindleJudge, if_neg (by simp [hm]), if_neg hg, if_pos hc]
    · rw [spindleJudge_ofTarget hm hg hc, if_pos (wantsShift_iff.2 hw)]
    · rw [spindleJudge_ofTarget hm hg hc, if_neg (wantsShift_eq_false_iff.2 hw), if_pos hu]
    · rw [spindleJudge_ofTarget hm hg hc, if_neg (wantsShift_eq_false_iff.2 hw), if_neg hu]
  case coolant =>
    refine ⟨fun h => ?_, fun h1 h => ?_, fun h1 h2 h => ?_, fun h1 h2 h3 h => ?_, fun h1 h2 h3 h4 => ?_⟩
    · rw [coolantJudge, if_pos (namesFault_iff.2 h)]
    · rw [coolantJudge, if_neg (mt namesFault_iff.1 h1), if_pos (tscEarly_iff.2 h)]
    · rw [coolantJudge, if_neg (mt namesFault_iff.1 h1), if_neg (mt tscEarly_iff.1 h2), if_pos (runsDry_iff.2 h)]
    · rw [coolantJudge, if_neg (mt namesFault_iff.1 h1), if_neg (mt tscEarly_iff.1 h2), if_neg (mt runsDry_iff.1 h3),
        if_pos (namesStarting_iff.2 h)]
    · rw [coolantJudge, if_neg (mt namesFault_iff.1 h1), if_neg (mt tscEarly_iff.1 h2), if_neg (mt runsDry_iff.1 h3),
        if_neg (mt namesStarting_iff.1 h4)]
  case asks =>
    intro hu
    have h : verdictTick n = askReady e.num (ownVerdict e n) n :=
      (verdictTick_participant he hp).trans (if_pos hu)
    simp only [h]
    exact ⟨evaluatedHead_askReady he _, askReady_only _ _ n, fun hr => askReady_waiting hr _ _⟩
  case rests => exact fun hu => (verdictTick_participant he hp).trans (if_neg hu)
  case pending => exact fun hc hq => goTest_waiting he (isCandidate_iff.2 hc) hq
  case candidate =>
    intro hc hq
    simp only [goTest_asks he (isCandidate_iff.2 hc) hq]
    exact ⟨ask_only _ n, fun hr => askGo_waiting hr hq⟩
  case noCandidate =>
    intro hc
    simp only [goTest_withdraws he (mt isCandidate_iff.1 hc)]
    exact ⟨fun x => withdrawNamed_inTx, fun x => withdrawNamed_stays, withdrawNamed_only _ n⟩
  case noHead => exact fun hn => by rw [goTest, hn]

end Sys2Proof.Machine
end

section
/-! PROOF. What the profile step of a motion tick reads (R81 to R92), and that the tick's other work leaves it as it
is: the shared operations, the block queue, the axis channels and the units. -/

namespace Sys2Proof.Machine

-- The text is checked as one file under a data limit that many waiting threads would exceed.
set_option Elab.async false

/-! ### What the profile step reads -/

/-- What the profile step and the tests behind it read of a node. -/
structure PathView where
  run : Option Run
  stopMark : Bool
  knob : Nat
  clamps : List Nat
  held : Bool
  switching : Bool
  queue : List (BlockNo × EntryState × Option BlockFields)

/-- What the profile step reads of an entry. -/
def entryView (e : Entry) : BlockNo × EntryState × Option BlockFields := (e.num, e.state, e.fields)

def pathView (n : Node) : PathView where
  run := n.pg.run
  stopMark := n.pg.stopMark
  knob := n.pg.knob
  clamps := n.pg.clamps
  held := n.cu.held
  switching := condIn .modeSwitch n.cu.own
  queue := n.bq.entries.map entryView

theorem successorOf_view {num : BlockNo} {es fs : List Entry} (h : es.map entryView = fs.map entryView) :
    (successorOf num es).map entryView = (successorOf num fs).map entryView := by
  induction es generalizing fs with
  | nil => rw [List.map_eq_nil_iff.1 h.symm]
  | cons e es ih =>
    obtain _ | ⟨f, fs⟩ := fs
    · simp at h
    · obtain ⟨hef, hes⟩ := List.cons.inj h
      have hn : e.num = f.num := congrArg Prod.fst hef
      simp only [successorOf, hn]
      split_ifs
      · rw [← List.head?_map, ← List.head?_map, hes]
      · exact ih hes

theorem continuing_view {r : Run} {es fs : List Entry} (h : es.map entryView = fs.map entryView) :
    continuing r es = continuing r fs := by
  have hs := successorOf_view (num := r.num) h
  unfold continuing
  cases he : successorOf r.num es <;> cases hf : successorOf r.num fs <;> simp_all [entryView]

/-- The step of a running block is a function of what it reads. -/
theorem runStep_view {n m : Node} (h : pathView m = pathView n) (r : Run) : runStep m r = runStep n r := by
  simp only [pathView, PathView.mk.injEq] at h
  obtain ⟨-, hstop, hknob, hclamps, hheld, -, hq⟩ := h
  have hc (x : Run) : continuing x m.bq.entries = continuing x n.bq.entries := continuing_view hq
  simp only [runStep, stopStep, profileStep, hstop, hknob, hclamps, hheld, hc]

/-! ### What leaves it as it is -/

/-- The profile step reads `v` of a node. -/
def Viewing (v : PathView) (n : Node) : Prop := pathView n = v

section
variable {v : PathView} {n : Node}

theorem Viewing.ite {c : Prop} [Decidable c] {a b : Node} (ha : Viewing v a) (hb : Viewing v b) :
    Viewing v (if c then a else b) := by
  split
  · exact ha
  · exact hb

/-- A last step that is made under a condition. -/
theorem Viewing.thenIf {c : Prop} [Decidable c] {a b : Node} (hb : Viewing v a → Viewing v b) (ha : Viewing v a) :
    Viewing v (if c then b else a) := .ite (hb ha) ha

/-- The parts that the profile step reads but for the conditions. -/
abbrev readParts : List Part := [.path, .blocks, .held]

theorem viewing_of_parts {ps : List Part} {m : Node} (g : onlyChanges ps n m) (hp : ∀ p ∈ readParts, p ∉ ps)
    (hc : condIn .modeSwitch m.cu.own = condIn .modeSwitch n.cu.own) (h : Viewing v n) : Viewing v m := by
  have hpath : m.pg = n.pg := g .path (hp _ (by simp)) (by decide)
  have hbq : m.bq = n.bq := g .blocks (hp _ (by simp)) (by decide)
  have hheld : m.cu.held = n.cu.held := g .held (hp _ (by simp)) (by decide)
  rw [Viewing, ← h]
  simp only [pathView, hpath, hbq, hheld, hc]

/-- An operation whose frame leaves out what the profile step reads. -/
theorem onlyChanges.viewing {ps : List Part} {m : Node} (g : onlyChanges ps n m) (h : Viewing v n)
    (hp : ∀ p ∈ readParts, p ∉ ps := by decide) (hc : Part.conds ∉ ps := by decide) : Viewing v m :=
  viewing_of_parts g hp (condIn_of_onlyChanges g hc (by decide)) h

/-- A reaction that neither raises nor clears MODE_SWITCH. -/
theorem Acts.viewing {as : List Act} {ps : List Part} {m : Node} (a : Acts as n m) (g : onlyChanges ps n m)
    (h : Viewing v n) (hr : Act.raise .modeSwitch ∉ as := by decide) (hc : Act.clear .modeSwitch ∉ as := by decide)
    (hp : ∀ p ∈ readParts, p ∉ ps := by decide) : Viewing v m :=
  viewing_of_parts g hp (a.condIn (by decide) hr hc) h

theorem forAxes_viewing {f : Chan → AxisParams → Node → Node}
    (hf : ∀ {c p m}, Viewing v m → Viewing v (f c p m)) (h : Viewing v n) : Viewing v (forAxes f n) := by
  have one {c : Chan} {m : Node} (hm : Viewing v m) :
      Viewing v (match axParams c m with | some p => f c p m | none => m) := by
    split
    · exact hf hm
    · exact hm
  exact one (one h)

theorem ask_viewing {p : Payload} (h : Viewing v n) : Viewing v (ask p n) := (ask_only p n).viewing h

theorem askClamp_viewing (h : Viewing v n) : Viewing v (askClamp n) := (askClamp_only n).viewing h

theorem setAx_viewing {c : Chan} {a : Axis} (h : Viewing v n) : Viewing v (setAx c a n) := by
  cases c <;> exact h

theorem onAx_viewing {c : Chan} {f : Axis → Axis} (h : Viewing v n) : Viewing v (onAx c f n) := setAx_viewing h

section
variable {c : Cond} {d : Byte} (hc : c ≠ .modeSwitch)
include hc

theorem raiseWarn_viewing (h : Viewing v n) : Viewing v (raiseWarn c d n) :=
  (raiseWarn_acts c d n).viewing (raiseWarn_only c d n) h (by simp [hc.symm]) (by simp)

theorem raiseHold_viewing (h : Viewing v n) : Viewing v (raiseHold c d n) :=
  (raiseHold_acts c d n).viewing (raiseHold_only c d n) h (by simp [hc.symm]) (by simp)

theorem raiseStop_viewing (h : Viewing v n) : Viewing v (raiseStop c d n) :=
  (raiseStop_acts c d n).viewing (raiseStop_only c d n) h (by simp [hc.symm]) (by simp)

theorem clearCond_viewing (h : Viewing v n) : Viewing v (clearCond c n) :=
  (Acts.clear (as := [.clear c]) .refl (by simp)).viewing (clearCond_only c n) h (by simp) (by simp [hc.symm])

end

/-! ### The axis channels (chapter 7) -/

theorem driveFault_viewing {c : Chan} (h : Viewing v n) : Viewing v (driveFault c n) :=
  raiseStop_viewing (by decide) (onAx_viewing h)

theorem limitTest_viewing {c : Chan} {side : Side} (h : Viewing v n) : Viewing v (limitTest c side n) :=
  .ite (raiseStop_viewing (by decide) (onAx_viewing h)) (.ite (onAx_viewing h) h)

theorem driveTick_viewing {c : Chan} {p : AxisParams} (h : Viewing v n) : Viewing v (driveTick c p n) := by
  have hd {d : DriveState} : Viewing v (driveTo c d n) := onAx_viewing h
  have hf := driveFault_viewing (c := c) h
  unfold driveTick
  split
  · exact h
  · exact .ite hf (.ite h hd)
  · exact .ite hf (.ite hd (.ite hd (.ite hf (onAx_viewing h))))
  · exact .ite hf h

theorem clampTick_viewing {c : Chan} {p : AxisParams} (h : Viewing v n) : Viewing v (clampTick c p n) := by
  have hx {f : Axis → Axis} : Viewing v (onAx c f n) := onAx_viewing h
  unfold clampTick
  refine .ite h ?_
  split
  · exact .ite hx h
  · exact .ite hx (.ite hx (.ite hx hx))
  · exact .ite h hx
  · exact .ite hx (.ite hx (.ite hx hx))

theorem refFailed_viewing {c : Chan} (h : Viewing v n) : Viewing v (refFailed c n) :=
  raiseWarn_viewing (by decide) (onAx_viewing h)

theorem raiseParity_viewing {c : Chan} (h : Viewing v n) (k : Nat) : Viewing v (raiseParity c k n) := by
  induction k generalizing n with
  | zero => exact h
  | succ k ih => exact ih (raiseStop_viewing (by decide) h)

theorem endTest_viewing {c : Chan} {p : AxisParams} (h : Viewing v n) : Viewing v (endTest c p n) :=
  have hp := raiseParity_viewing (setAx_viewing h) _
  .ite (onAx_viewing hp) (refFailed_viewing hp)

theorem phaseArrived_viewing {c : Chan} {p : AxisParams} (h : Viewing v n) : Viewing v (phaseArrived c p n) := by
  unfold phaseArrived
  split
  · exact .ite (refFailed_viewing h) (onAx_viewing h)
  · exact refFailed_viewing h
  · exact refFailed_viewing h
  · exact onAx_viewing h

theorem phaseStopped_viewing {c : Chan} {p : AxisParams} (h : Viewing v n) : Viewing v (phaseStopped c p n) := by
  unfold phaseStopped
  split
  · exact onAx_viewing h
  · exact endTest_viewing h
  · exact onAx_viewing h

theorem refFollow_viewing {c : Chan} {p : AxisParams} (h : Viewing v n) : Viewing v (refFollow c p n) :=
  .ite (.ite (phaseStopped_viewing h) (phaseArrived_viewing h)) h

theorem commandStep_viewing {c : Chan} {p : AxisParams} (h : Viewing v n) : Viewing v (commandStep c p n) := by
  have hx {f : Axis → Axis} : Viewing v (onAx c f n) := onAx_viewing h
  unfold commandStep
  refine .ite ?_ (.ite (raiseParity_viewing (setAx_viewing h) _) ?_)
  · split
    · exact hx
    · exact refFollow_viewing h
    · exact h
  · split
    · exact hx
    · exact hx
    · exact refFollow_viewing (.ite (setAx_viewing h) h)
    · exact hx

theorem servoStep_viewing {c : Chan} {p : AxisParams} (h : Viewing v n) : Viewing v (servoStep c p n) :=
  limitTest_viewing (limitTest_viewing (.thenIf (raiseHold_viewing (by decide))
    (.thenIf (raiseStop_viewing (by decide)) (setAx_viewing h))))

theorem disableTick_viewing {c : Chan} (h : Viewing v n) : Viewing v (disableTick c n) :=
  .thenIf onAx_viewing (onAx_viewing h)

theorem axisTick_viewing {c : Chan} {p : AxisParams} (h : Viewing v n) : Viewing v (axisTick c p n) := by
  refine onAx_viewing (disableTick_viewing (servoStep_viewing (raiseParity_viewing (setAx_viewing ?_) _)))
  exact commandStep_viewing (onAx_viewing (.thenIf onAx_viewing (clampTick_viewing (driveTick_viewing h))))

/-! ### The spindle and gearbox unit (chapter 8) -/

theorem endShift_viewing {p : SpindleParams} (h : Viewing v n) : Viewing v (endShift p n) := by
  unfold endShift
  split_ifs
  · split
    · exact clearCond_viewing (by decide) h
    · exact h
  · exact h

theorem beginStepB_viewing {p : SpindleParams} (h : Viewing v n) : Viewing v (beginStepB p n) :=
  .ite (endShift_viewing h) h

theorem beginStepA_viewing {p : SpindleParams} (h : Viewing v n) : Viewing v (beginStepA p n) :=
  .ite (beginStepB_viewing h) h

theorem beginStep_viewing {p : SpindleParams} {sh : Shifter} (h : Viewing v n) : Viewing v (beginStep p sh n) := by
  cases sh
  · exact beginStepA_viewing h
  · exact beginStepB_viewing h

theorem stepConfirmed_viewing {p : SpindleParams} (h : Viewing v n) : Viewing v (stepConfirmed p n) := by
  unfold stepConfirmed
  split
  · exact beginStepB_viewing h
  · exact endShift_viewing h

theorem shiftGivenUp_viewing (h : Viewing v n) : Viewing v (shiftGivenUp n) := raiseHold_viewing (by decide) h

theorem neutralReached_viewing {p : SpindleParams} (h : Viewing v n) : Viewing v (neutralReached p n) :=
  .ite (beginStep_viewing (raiseWarn_viewing (by decide) h)) (shiftGivenUp_viewing h)

theorem speedTick_viewing {p : SpindleParams} (h : Viewing v n) : Viewing v (speedTick p n) :=
  have hf {m : Node} (hm : Viewing v m) : Viewing v (faultRunTick m) := .thenIf (raiseHold_viewing (by decide)) hm
  hf (m := atSpeedTick { formCommand p (estimateTick p n) with sg := _ }) h

theorem atRestTest_viewing {p : SpindleParams} (h : Viewing v n) : Viewing v (atRestTest p n) :=
  .ite (.ite (beginStepA_viewing h) (.ite h h)) h

theorem conflictTest_viewing {sh : Shifter} {before : SG} (h : Viewing v n) :
    Viewing v (conflictTest sh before n) := by
  refine .ite ?_ h
  unfold shifterConflict
  simp only
  split
  · exact .thenIf (raiseStop_viewing (by decide)) (raiseHold_viewing (by decide) h)
  · exact raiseHold_viewing (by decide) h

theorem patternWatch_viewing {p : SpindleParams} (h : Viewing v n) : Viewing v (patternWatch p n) := by
  have hl {r : Gear} : Viewing v (if turning n.sg then gearLost r n else n) := .ite (raiseStop_viewing (by decide) h) h
  unfold patternWatch
  split
  · exact .ite h hl
  · exact hl
  · exact h
  · exact h

theorem gearTest_viewing {p : SpindleParams} (h : Viewing v n) : Viewing v (gearTest p n) := by
  unfold gearTest
  split
  · exact .ite (stepConfirmed_viewing h) h
  · exact .ite (stepConfirmed_viewing h) h
  · exact .ite (neutralReached_viewing h) h
  · exact h
  · exact h
  · exact patternWatch_viewing h
  · exact patternWatch_viewing h

theorem shiftTimerOut_viewing (h : Viewing v n) : Viewing v (shiftTimerOut n) := by
  unfold shiftTimerOut
  split
  · exact h
  · exact h
  · exact shiftGivenUp_viewing h
  · exact h

theorem gearTick_viewing {p : SpindleParams} (h : Viewing v n) : Viewing v (gearTick p n) :=
  .thenIf shiftTimerOut_viewing (gearTest_viewing (conflictTest_viewing (conflictTest_viewing h)))

theorem spindleTick_viewing (h : Viewing v n) : Viewing v (spindleTick n) := by
  unfold spindleTick
  split
  · exact atRestTest_viewing (gearTick_viewing (speedTick_viewing h))
  · exact h

/-! ### The coolant unit (chapter 9) -/

theorem withCl_viewing {cl : CL} (h : Viewing v n) : Viewing v { n with cl := cl } := h

theorem clLoss_viewing (h : Viewing v n) : Viewing v (clLoss n) := (clLoss_acts n).viewing (clLoss_only n) h

theorem withCl_loss_viewing {cl : CL} (h : Viewing v n) : Viewing v (clLoss { n with cl := cl }) :=
  (withCl_loss_acts cl n).viewing (withCl_loss_only cl n) h

theorem setTsc_viewing {s : CircuitState} {t b : Nat} (h : Viewing v n) : Viewing v (setTsc s t b n) :=
  (setTsc_acts s t b n).viewing (setTsc_only s t b n) h

theorem tscStop_viewing (h : Viewing v n) : Viewing v (tscStop n) := (tscStop_acts n).viewing (tscStop_only n) h

theorem floodStop_viewing (h : Viewing v n) : Viewing v (floodStop n) := (floodStop_acts n).viewing (floodStop_only n) h

theorem airOff_viewing (h : Viewing v n) : Viewing v (airOff n) := (airOff_acts n).viewing (airOff_only n) h

theorem tscInterlockTest_viewing (h : Viewing v n) : Viewing v (tscInterlockTest n) := by
  unfold tscInterlockTest
  split
  · exact .thenIf tscStop_viewing h
  · exact h

theorem tscDegrade_viewing {p : CoolantParams} (h : Viewing v n) : Viewing v (tscDegrade p n) :=
  askClamp_viewing (raiseWarn_viewing (by decide) (setTsc_viewing h))

theorem tankTo_viewing {l : Level} (h : Viewing v n) : Viewing v (tankTo l n) := by
  have ht : Viewing v { n with cl := { n.cl with tank := l } } := h
  have hr := tscInterlockTest_viewing (floodStop_viewing (raiseWarn_viewing (d := 0) (by decide : Cond.tankLow ≠ _) ht))
  have hc := tscInterlockTest_viewing (clearCond_viewing (by decide : Cond.tankLow ≠ _) ht)
  exact .ite hr (.ite hc ht)

theorem compareFlood_viewing (h : Viewing v n) : Viewing v (compareFlood n) :=
  .ite (.ite (withCl_loss_viewing h) h) (.ite (floodStop_viewing h) h)

theorem compareTsc_viewing {p : CoolantParams} (h : Viewing v n) : Viewing v (compareTsc p n) :=
  .ite (.ite (setTsc_viewing h) h) (.ite (tscStop_viewing h) h)

theorem compareAir_viewing (h : Viewing v n) : Viewing v (compareAir n) :=
  .ite (.ite (withCl_loss_viewing h) h) (.ite (airOff_viewing h) h)

theorem floodTick_viewing (h : Viewing v n) : Viewing v (floodTick n) := by
  have hl {cl : CL} : Viewing v (clLoss { n with cl := cl }) := withCl_loss_viewing h
  unfold floodTick
  split
  · exact compareFlood_viewing h
  · exact .ite (floodStop_viewing h) (.ite hl (.ite hl h))
  · exact .ite (floodStop_viewing h) (.ite hl h)
  · exact .ite hl h
  · exact h
  · exact h

theorem tscTick_viewing {p : CoolantParams} (h : Viewing v n) : Viewing v (tscTick p n) := by
  have hs {s : CircuitState} {t b : Nat} : Viewing v (setTsc s t b n) := setTsc_viewing h
  unfold tscTick
  refine .ite (tscStop_viewing h) ?_
  split
  · exact compareTsc_viewing h
  · exact .ite hs (.ite hs h)
  · exact .ite (tscDegrade_viewing h) h
  · exact .ite hs h
  · exact .ite hs h
  · exact h

theorem coolantTick_viewing (h : Viewing v n) : Viewing v (coolantTick n) := by
  unfold coolantTick
  split
  · rename_i p _
    have hs : Viewing v (lossRunTick p (pressureTick p (switchesTick n))) :=
      withCl_viewing (withCl_viewing (withCl_viewing (tankTo_viewing h)))
    exact clLoss_viewing (compareAir_viewing (tscTick_viewing (floodTick_viewing hs)))
  · exact h

/-! ### The pendant unit (chapter 10) -/

theorem wheelGate_viewing (h : Viewing v n) : Viewing v (wheelGate n) := .ite h h

theorem selectorGate_viewing {before : PD} (h : Viewing v n) : Viewing v (selectorGate before n) := .ite h h

theorem jogRequest_viewing (h : Viewing v n) : Viewing v (jogRequest n) := .ite (ask_viewing h) h

theorem knobRequest_viewing (h : Viewing v n) : Viewing v (knobRequest n) := .ite (ask_viewing h) h

theorem spindleKnobRequest_viewing (h : Viewing v n) : Viewing v (spindleKnobRequest n) := .ite (ask_viewing h) h

theorem panelRequest_viewing (h : Viewing v n) : Viewing v (panelRequest n) := by
  unfold panelRequest
  split
  · exact h
  · exact .ite h (ask_viewing h)

theorem pressed_viewing {b : Button} (h : Viewing v n) : Viewing v (pressed b n) := by
  have ha {p : Payload} : Viewing v (ask p n) := ask_viewing h
  cases b with
  | cycleStart => exact .ite ha h
  | feedHold => exact h
  | spindleStop => exact ha
  | reset => exact .ite h ha
  | spindleStart =>
    change Viewing v (pressStart n)
    unfold pressStart
    split
    · exact .ite h ha
    · exact h
  | coolant =>
    change Viewing v (pressCoolant n)
    unfold pressCoolant
    split
    · exact ha
    · exact ha
    · exact .ite h ha
    · exact .ite h ha
    · exact .ite h ha
    · exact h
    · exact h
  | ref =>
    change Viewing v (pressRef n)
    unfold pressRef
    split
    · exact ha
    · exact h

theorem feedHoldTick_viewing (h : Viewing v n) : Viewing v (feedHoldTick n) := .ite (ask_viewing h) h

theorem pressesTick_viewing {before : PD} (h : Viewing v n) : Viewing v (pressesTick before n) := by
  unfold pressesTick
  generalize buttonOrder = bs
  induction bs generalizing n with
  | nil => exact h
  | cons b bs ih => exact ih (.ite (pressed_viewing h) h)

theorem pendantTick_viewing (h : Viewing v n) : Viewing v (pendantTick n) := by
  refine .ite (pressesTick_viewing (panelRequest_viewing (spindleKnobRequest_viewing ?_))) h
  exact knobRequest_viewing (jogRequest_viewing (.thenIf id (wheelGate_viewing (selectorGate_viewing h))))

end

end Sys2Proof.Machine
end

section
/-! PROOF. A motion tick around the profile step (R71 to R98): its start, its tests, and what the profile step finds. -/

namespace Sys2Proof.Machine

-- The text is checked as one file under a data limit that many waiting threads would exceed.
set_option Elab.async false

section
variable {v : PathView} {n : Node}

/-! ### The start of the tick -/

/-- The count of a tick, before its inputs stand. -/
def tickCounted (n : Node) : Node := stopTimerCount (circuitTimers (eligibleTick (countTick (historyEnd n))))

theorem tickCounted_viewing (h : Viewing v n) : Viewing v (tickCounted n) := by
  have hh : Viewing v (historyEnd n) := .ite h h
  exact Viewing.ite (a := { eligibleTick (countTick (historyEnd n)) with cl := _ }) hh hh

theorem tickCounted_kept (n : Node) : (tickCounted n).kept = n.kept := by
  simp only [tickCounted, stopTimerCount, circuitTimers, eligibleTick, countTick, historyEnd]
  split_ifs <;> rfl

theorem tickCounted_tick (n : Node) : (tickCounted n).pg.tick = n.pg.tick + 1 := by
  simp only [tickCounted, stopTimerCount, circuitTimers, eligibleTick, countTick, historyEnd]
  split_ifs <;> rfl

theorem tickCounted_entries (n : Node) : (tickCounted n).nt.entries = n.nt.entries := by
  simp only [tickCounted, stopTimerCount, circuitTimers, eligibleTick, countTick, historyEnd]
  split_ifs <;> rfl

theorem joinTick_only (n : Node) : onlyChanges [.start] n (joinTick n) := by
  unfold joinTick
  split
  · exact askJoining_only n
  · exact onlyChanges_refl _ n

theorem endOfTick_running {r : Run} (hr : n.pg.run = some r) (hf : r.final = false) : endOfTick n = n := by
  simp [endOfTick, hr, hf]

theorem historyEnd_run (n : Node) : (historyEnd n).pg.run = n.pg.run := by
  unfold historyEnd
  split <;> rfl

/-- With no kept frame due nothing is applied. -/
theorem applyDue_none (h : ∀ k ∈ n.kept, later k.apply n.pg.tick = true) : applyDue n = n := by
  have hd : n.kept.filter (isDue n.pg.tick) = [] := by simpa [isDue] using h
  have hk : n.kept.filter (fun k => !isDue n.pg.tick k) = n.kept := by simpa [isDue] using h
  simp only [applyDue, applyDueBy, hd, hk]
  rfl

theorem entryAt_setEntry_other {i j : Nat} (hij : i ≠ j) (e : NodeEntry) (n : Node) :
    entryAt j (setEntry i e n) = entryAt j n := by
  simp [entryAt, setEntry, hij]

/-- A silence timer that does not end only counts. -/
theorem silenceTick_counts {i : Nat} (h : (entryAt i n).state = .live → (entryAt i n).silence ≠ 1) :
    silenceTick i n = n ∨ ∃ e, silenceTick i n = setEntry i e n := by
  unfold silenceTick
  dsimp only
  split_ifs with hl h1
  · exact absurd h1 (h hl.1)
  · exact .inr ⟨_, rfl⟩
  · exact .inl rfl

/-- No silence timer of the entries ends at this tick. -/
def NoTimeout (n : Node) : Prop := ∀ i, (entryAt i n).state = .live → (entryAt i n).silence ≠ 1

theorem noTimeout_of_mem (h : ∀ e ∈ n.nt.entries, e.state = .live → e.silence ≠ 1) : NoTimeout n := by
  intro i
  rcases lt_or_ge i n.nt.entries.length with hi | hi
  · have he : entryAt i n = n.nt.entries[i] := by simp [entryAt, hi]
    rw [he]
    exact h _ (List.getElem_mem hi)
  · simp [entryAt, List.getElem?_eq_none hi, NodeEntry.reset]

/-- The silence timers of the entries below `k` leave the others for their turn. -/
theorem silenceTicks_above (h : NoTimeout n) (k : Nat) : ∀ j, k ≤ j → entryAt j (silenceTicks k n) = entryAt j n := by
  induction k with
  | zero => exact fun _ _ => rfl
  | succ k ih =>
    intro j hj
    rw [silenceTicks]
    rcases silenceTick_counts (n := silenceTicks k n) (i := k) (by rw [ih k le_rfl]; exact h k) with hs | ⟨e, hs⟩
    · rw [hs, ih j (by omega)]
    · rw [hs, entryAt_setEntry_other (by omega), ih j (by omega)]

theorem silenceTicks_viewing (ht : NoTimeout n) (h : Viewing v n) (k : Nat) : Viewing v (silenceTicks k n) := by
  induction k with
  | zero => exact h
  | succ k ih =>
    rw [silenceTicks]
    rcases silenceTick_counts (n := silenceTicks k n) (i := k) (by rw [silenceTicks_above ht k k le_rfl]; exact ht k)
      with hs | ⟨e, hs⟩
    · rw [hs]
      exact ih
    · rw [hs]
      exact ih

/-- The start of a tick whose running block goes on, with no frame due and no silence timer ending. -/
theorem tickStart_viewing {inputs : Pins} {r : Run} (hr : n.pg.run = some r) (hf : r.final = false)
    (hk : ∀ k ∈ n.kept, later k.apply (n.pg.tick + 1) = true)
    (hs : ∀ e ∈ n.nt.entries, e.state = .live → e.silence ≠ 1) (h : Viewing v n) :
    Viewing v (tickStart inputs n) := by
  have hstart : tickStart inputs n =
      silenceTicks 16 (applyDue { joinTick (tickCounted n) with pins := inputs }) := by
    rw [tickStart, endOfTick_running ((historyEnd_run n).trans hr) hf, tickCounted]
  have hj := joinTick_only (tickCounted n)
  have hkept : (joinTick (tickCounted n)).kept = n.kept :=
    Eq.trans (hj .kept (by decide) (by decide)) (tickCounted_kept n)
  have htick : (joinTick (tickCounted n)).pg.tick = n.pg.tick + 1 :=
    (congrArg PG.tick (hj .path (by decide) (by decide))).trans (tickCounted_tick n)
  have hent : (joinTick (tickCounted n)).nt.entries = n.nt.entries :=
    Eq.trans (hj .table (by decide) (by decide)).1 (tickCounted_entries n)
  rw [hstart, applyDue_none (n := { joinTick (tickCounted n) with pins := inputs }) (by rwa [hkept, htick])]
  have hv : Viewing v { joinTick (tickCounted n) with pins := inputs } := hj.viewing (tickCounted_viewing h)
  exact silenceTicks_viewing (noTimeout_of_mem (by rwa [hent])) hv _

/-! ### The tests before the profile step -/

theorem chainTick_viewing (h : Viewing v n) : Viewing v (chainTick n) :=
  .ite (.ite h (raiseStop_viewing (by decide) (by exact h)))
    (.ite h (.ite (clearCond_viewing (by decide) (by exact h)) h))

/-- No block starts while one runs. -/
theorem startTick_running (h : n.pg.run.isSome = true) : startTick n = n := by
  obtain ⟨r, hr⟩ := Option.isSome_iff_exists.1 h
  have hs : startable n = none := by
    unfold startable
    rw [hr]
    cases n.bq.entries.head? <;> rfl
  rw [startTick, hs]

theorem Viewing.run (h : Viewing v n) : n.pg.run = v.run := congrArg PathView.run h

theorem tickInputs_viewing (hr : v.run.isSome = true) (h : Viewing v n) : Viewing v (tickInputs n) := by
  have hc := chainTick_viewing h
  rw [tickInputs, startTick_running (by rwa [hc.run])]
  exact pendantTick_viewing hc

theorem headTimerTick_viewing (h : Viewing v n) : Viewing v (headTimerTick n) :=
  .ite (.ite (raiseWarn_viewing (by decide) (by exact h)) h) h

theorem clActHead_viewing (h : Viewing v n) : Viewing v (clActHead n) := (clActHead_only n).viewing h

theorem onEntry_viewing {num : BlockNo} {f : Entry → Entry} (hf : ∀ e, entryView (f e) = entryView e)
    (h : Viewing v n) : Viewing v (onEntry num f n) := by
  have hq : (onEntry num f n).bq.entries.map entryView = n.bq.entries.map entryView := by
    simp only [onEntry, List.map_map]
    refine List.map_congr_left fun e _ => ?_
    simp only [Function.comp_apply]
    split
    · exact hf e
    · rfl
  rw [Viewing, ← h]
  simp only [pathView, hq]
  rfl

theorem askReady_viewing {num : BlockNo} {x : Verdict} (h : Viewing v n) : Viewing v (askReady num x n) :=
  ask_viewing (onEntry_viewing (fun _ => rfl) h)

theorem verdictTick_viewing (h : Viewing v n) : Viewing v (verdictTick n) := by
  unfold verdictTick
  split
  · exact .ite (.ite (askReady_viewing h) h) h
  · exact h

theorem noteSettled_viewing {r : Gear} {c : Bool} (h : Viewing v n) : Viewing v (noteSettled r c n) :=
  .ite (raiseWarn_viewing (by decide) h) (clearCond_viewing (by decide) h)

theorem sgActOn_viewing {t : SpindleTarget} (h : Viewing v n) : Viewing v (sgActOn t n) := by
  cases hr : t.range with
  | none => simp only [sgActOn, hr]; exact clearCond_viewing (c := .speedLimited) (by decide) h
  | some r => simp only [sgActOn, hr]; exact noteSettled_viewing (r := r) (c := t.clamped) h

theorem sgActHead_viewing (h : Viewing v n) : Viewing v (sgActHead n) := by
  unfold sgActHead
  split
  · split
    · exact .ite ((dropCommand_only _ _).viewing (sgActOn_viewing h)) h
    · exact h
  · exact h

theorem tickHead_viewing (h : Viewing v n) : Viewing v (tickHead n) := by
  have hr {m : Node} (hm : Viewing v m) : Viewing v (clampRepeat m) := .thenIf askClamp_viewing hm
  have hg := sgActHead_viewing (verdictTick_viewing (hr (clActHead_viewing (headTimerTick_viewing h))))
  exact (goTest_only _).viewing hg

theorem tickRequests_viewing (h : Viewing v n) : Viewing v (tickRequests n) :=
  .thenIf feedHoldTick_viewing ((askStopall_only _).viewing ((heldTest_only n).viewing h))

/-! ### The profile step and the machine side -/

/-- What the profile step reads once it has been made. -/
def stepped (n : Node) (r : Run) : PathView := { pathView n with run := some (runStep n r) }

theorem pathTick_viewing {m : Node} {r : Run} (hr : m.pg.run = some r) (h : Viewing (pathView m) n) :
    Viewing (stepped m r) (pathTick n) := by
  have hn : n.pg.run = some r := h.run.trans hr
  have hp : pathTick n = { n with pg := { n.pg with run := some (runStep m r) } } := by
    rw [pathTick, hn, ← runStep_view h]
  have hv : pathView n = pathView m := h
  rw [hp, Viewing, stepped, ← hv]
  rfl

theorem tickPath_viewing {m : Node} {r : Run} (hr : m.pg.run = some r) (h : Viewing (pathView m) n) :
    Viewing (stepped m r) (tickPath n) :=
  .thenIf id (pathTick_viewing hr (.thenIf ask_viewing h))

theorem tickMachine_viewing (h : Viewing v n) : Viewing v (tickMachine n) :=
  coolantTick_viewing (spindleTick_viewing (forAxes_viewing axisTick_viewing h))

/-- The tick's work up to its tests at the end. -/
def tickWork (inputs : Pins) (n : Node) : Node :=
  tickMachine (tickPath (tickRequests (tickHead (tickInputs (tickStart inputs n)))))

/-- A tick makes the step of its running block and leaves the rest of what the step reads. -/
theorem tickWork_viewing {inputs : Pins} {r : Run} (hr : n.pg.run = some r) (hf : r.final = false)
    (hk : ∀ k ∈ n.kept, later k.apply (n.pg.tick + 1) = true)
    (hs : ∀ e ∈ n.nt.entries, e.state = .live → e.silence ≠ 1) : Viewing (stepped n r) (tickWork inputs n) := by
  have h0 : Viewing (pathView n) (tickStart inputs n) := tickStart_viewing hr hf hk hs rfl
  have hi := tickInputs_viewing (by simp [pathView, hr]) h0
  exact tickMachine_viewing (tickPath_viewing hr (tickRequests_viewing (tickHead_viewing hi)))

end

end Sys2Proof.Machine
end

section
/-! PROOF. The end of a motion tick's work (R92, R75), and O13. -/

namespace Sys2Proof.Machine

-- The text is checked as one file under a data limit that many waiting threads would exceed.
set_option Elab.async false

/-! ### The steps of a held and of a stopped path -/

theorem moveTo_v (vnew carry : Nat) (r : Run) : (moveTo vnew carry r).v = vnew := by
  unfold moveTo
  split <;> rfl

/-- Under the held flag the target velocity is 0, and the velocity falls to it. -/
theorem stepVelocity_held (v ve acc rest : Nat) : stepVelocity v 0 ve acc rest true = v - acc := by
  simp only [stepVelocity, floorVelocity, if_true, max_eq_left (Nat.zero_le _)]
  split_ifs with h1 h2 h3
  · exact absurd h1.1 (Nat.not_lt_zero v)
  · have := Nat.le_zero.1 h2.1
    omega
  · exact absurd h3.1 (by decide)
  · rfl

theorem profileStep_held {n : Node} (h : n.cu.held = true) (r : Run) : (profileStep n r).v = r.v - r.acc := by
  rw [profileStep, moveTo_v, h]
  exact stepVelocity_held _ _ _ _

theorem countElapsed_eq (r : Run) :
    countElapsed r = { r with fresh := false, elapsed := if r.fresh then r.elapsed else r.elapsed + 1 } := by
  unfold countElapsed
  split_ifs with h
  · rfl
  · rw [← Bool.eq_false_iff.2 h]

section
variable {n : Node} {r : Run} (hf : r.final = false) (hl : 0 < r.len)
include hf hl

theorem runStep_moving :
    runStep n r = if n.pg.stopMark then stopStep n (countElapsed r) else profileStep n (countElapsed r) := by
  rw [runStep, if_neg (by simp [hf]), if_neg hl.ne']

theorem runStep_stopping (hs : n.pg.stopMark = true) : (runStep n r).v = r.v - 2 * r.acc := by
  rw [runStep_moving hf hl, if_pos hs, stopStep, moveTo_v, countElapsed_eq]

theorem runStep_profile (hs : n.pg.stopMark = false) : runStep n r = profileStep n { r with
    fresh := false, elapsed := if r.fresh then r.elapsed else r.elapsed + 1 } := by
  rw [runStep_moving hf hl, if_neg (by simp [hs]), countElapsed_eq]

end

/-! ### The end of the tick -/

section
variable {n : Node}

theorem recoveryTick_only (n : Node) : onlyChanges [.start, .line, .table, .conds] n (recoveryTick n) := by
  unfold recoveryTick
  split
  · split
    · exact recoveryOver_only n
    · exact onlyChanges_mono (by simp) (withLc_only _ n)
  · exact onlyChanges_refl _ n

theorem stateTick_only (n : Node) : onlyChanges [] n (stateTick n) := by
  have hc : onlyChanges [] n { n with nt := { n.nt with stateTimer := n.nt.stateTimer + 1 } } := by
    intro q _ hr
    cases q <;> simp_all [keeps, reporting]
  unfold stateTick
  split
  · dsimp only
    split
    · exact onlyChanges_trans hc (askState_only _)
    · exact hc
  · exact onlyChanges_refl _ n

/-- What follows the tests at the end of the tick. -/
def tickTail (n : Node) : Node := finish (stateTick (recoveryTick n))

theorem tickTail_only (n : Node) : onlyChanges [.start, .line, .table, .conds] n (tickTail n) :=
  finish_line_only (onlyChanges_trans (recoveryTick_only n) (onlyChanges_nil (stateTick_only _)))

theorem tickTail_pg (n : Node) : (tickTail n).pg = n.pg := tickTail_only n .path (by decide) (by decide)

theorem tickTail_bq (n : Node) : (tickTail n).bq = n.bq := tickTail_only n .blocks (by decide) (by decide)

theorem finish_workTick (inputs : Pins) (n : Node) :
    finish (workTick inputs n) = tickTail (adoptionTest (stopEndTest (tickWork inputs n))) := rfl

theorem adoptionTest_unswitched (h : condIn .modeSwitch n.cu.own = false) : adoptionTest n = n :=
  if_neg (by simp [adoptionDue, h])

/-- With a block that runs on there is no stop to report. -/
theorem stopEndTest_goesOn {u : Run} (hr : n.pg.run = some u)
    (h : ¬(n.pg.stopMark = true ∧ (u.v = 0 ∨ u.final = true))) : stopEndTest n = n := by
  refine if_neg fun hd => h ?_
  simp only [stopDone, hr, Bool.and_eq_true, Bool.or_eq_true, beq_iff_eq] at hd
  exact ⟨hd.1, hd.2.imp_right And.left⟩

theorem stopEndTest_reached {u : Run} (hr : n.pg.run = some u) (hs : n.pg.stopMark = true) (hv : u.v = 0) :
    stopEndTest n = stopReached n :=
  if_pos (by simp [stopDone, hr, hs, hv])

theorem PathEmptied.adoptionTest {cut : Prop} (h : PathEmptied cut n) : PathEmptied cut (adoptionTest n) := by
  unfold Machine.adoptionTest
  split
  · exact (removeAll_emptied h.stopMark fun hc => .inl (h.run hc)).of_only (adoptMode_only n) (adoptMode_places n)
  · exact h

end

/-- An entry of the chain is one by what the profile step reads. -/
theorem exists_inChain_view {n m : Node} (h : n.bq.entries.map entryView = m.bq.entries.map entryView)
    (he : ∃ e ∈ m.bq.entries, inChain e = true) : ∃ e ∈ n.bq.entries, inChain e = true := by
  obtain ⟨e, hm, hc⟩ := he
  obtain ⟨x, hx, hxe⟩ := List.mem_map.1 (h ▸ List.mem_map_of_mem hm)
  have hstate : x.state = e.state := congrArg (fun y => y.2.1) hxe
  exact ⟨x, hx, by simpa [inChain, hstate] using hc⟩

/-- Settles O13: the rest of a motion tick's work keeps what the profile step reads, so that the tick makes the step
of the running block, and the test at its end reports the stop. -/
theorem heldAndStoppedPathsSlowDown : Obligations.HeldAndStoppedPathsSlowDown := by
  refine ⟨fun n r => ⟨fun h => profileStep_held h r, fun hs hf hl => runStep_stopping hf hl hs,
    fun hf hl hs => runStep_profile hf hl hs⟩, fun inputs s r hstart hr hf hm hk hs => completes_answer rfl ?_⟩
  have hv := tickWork_viewing (inputs := inputs) hr hf hk hs
  have hrun : (tickWork inputs s.node).pg.run = some (runStep s.node r) := hv.run
  have hmark : (tickWork inputs s.node).pg.stopMark = s.node.pg.stopMark := congrArg PathView.stopMark hv
  have hswitch : condIn .modeSwitch (tickWork inputs s.node).cu.own = false :=
    (congrArg PathView.switching hv).trans hm
  have ht : motionTick inputs s.node = tickTail (adoptionTest (stopEndTest (tickWork inputs s.node))) := by
    rw [motionTick, hstart]
    exact finish_workTick inputs s.node
  rw [ht]
  refine ⟨fun hrep => ?_, fun hsm hv0 hc => ?_⟩
  · rw [stopEndTest_goesOn hrun (by rwa [hmark]), adoptionTest_unswitched hswitch, tickTail_pg]
    exact ⟨hrun, hmark⟩
  · rw [stopEndTest_reached hrun (hmark.trans hsm) hv0, tickTail_pg, tickTail_bq]
    have he := (stopReached_emptied (cut := True) fun _ =>
      exists_inChain_view (congrArg PathView.queue hv) hc).adoptionTest
    exact ⟨he.run trivial, he.stopMark, he.entries⟩

end Sys2Proof.Machine
end

section
/-! PROOF. What the units do at a motion tick leaves the path profile generator as it is (R100, chapters 7 to 10). -/

namespace Sys2Proof.Machine

-- The text is checked as one file under a data limit that many waiting threads would exceed.
set_option Elab.async false

section
variable {n m : Node}

/-! ### Shared operations -/

/-- An operation whose frame leaves out the path leaves the path profile generator. -/
theorem pg_of_only {ps : List Part} (h : onlyChanges ps n m) (hp : Part.path ∉ ps := by decide) : m.pg = n.pg :=
  h .path hp (by decide)

@[simp] theorem ask_pg (p : Payload) (n : Node) : (ask p n).pg = n.pg := pg_of_only (ask_only p n)

@[simp] theorem askClamp_pg (n : Node) : (askClamp n).pg = n.pg := pg_of_only (askClamp_only n)

@[simp] theorem raiseWarn_pg (c : Cond) (d : Byte) (n : Node) : (raiseWarn c d n).pg = n.pg :=
  pg_of_only (raiseWarn_only c d n)

@[simp] theorem raiseHold_pg (c : Cond) (d : Byte) (n : Node) : (raiseHold c d n).pg = n.pg :=
  pg_of_only (raiseHold_only c d n)

@[simp] theorem raiseStop_pg (c : Cond) (d : Byte) (n : Node) : (raiseStop c d n).pg = n.pg :=
  pg_of_only (raiseStop_only c d n)

@[simp] theorem clearCond_pg (c : Cond) (n : Node) : (clearCond c n).pg = n.pg := pg_of_only (clearCond_only c n)

theorem forAxes_pg {f : Chan → AxisParams → Node → Node} (h : ∀ c p m, (f c p m).pg = m.pg) (n : Node) :
    (forAxes f n).pg = n.pg := by
  have one (c : Chan) (m : Node) : (match axParams c m with | some p => f c p m | none => m).pg = m.pg := by
    split
    · exact h c _ m
    · rfl
  exact (one .ax1 _).trans (one .ax0 n)

/-! ### The axis channels (chapter 7) -/

@[simp] theorem driveFault_pg (c : Chan) (n : Node) : (driveFault c n).pg = n.pg := pg_of_only (driveFault_only c n)

@[simp] theorem driveTo_pg (c : Chan) (d : DriveState) (n : Node) : (driveTo c d n).pg = n.pg := onAx_pg ..

@[simp] theorem limitTest_pg (c : Chan) (s : Side) (n : Node) : (limitTest c s n).pg = n.pg := by
  simp [limitTest, apply_ite Node.pg]

@[simp] theorem driveTimerTick_pg (c : Chan) (n : Node) : (driveTimerTick c n).pg = n.pg := by
  simp [driveTimerTick, apply_ite Node.pg]

@[simp] theorem driveTick_pg (c : Chan) (p : AxisParams) (n : Node) : (driveTick c p n).pg = n.pg := by
  unfold driveTick
  split <;> simp [apply_ite Node.pg]

@[simp] theorem clampTick_pg (c : Chan) (p : AxisParams) (n : Node) : (clampTick c p n).pg = n.pg := by
  unfold clampTick
  dsimp only
  split
  · rfl
  · split <;> simp [apply_ite Node.pg, unclampTimedOut, clampCount]

@[simp] theorem refFailed_pg (c : Chan) (n : Node) : (refFailed c n).pg = n.pg := by simp [refFailed]

@[simp] theorem raiseParity_pg (c : Chan) (k : Nat) (n : Node) : (raiseParity c k n).pg = n.pg := by
  induction k generalizing n with
  | zero => rfl
  | succ k ih => simp [raiseParity, ih]

@[simp] theorem endTest_pg (c : Chan) (p : AxisParams) (n : Node) : (endTest c p n).pg = n.pg := by
  simp [endTest, apply_ite Node.pg]

@[simp] theorem phaseArrived_pg (c : Chan) (p : AxisParams) (n : Node) : (phaseArrived c p n).pg = n.pg := by
  unfold phaseArrived
  split <;> simp [apply_ite Node.pg]

@[simp] theorem phaseStopped_pg (c : Chan) (p : AxisParams) (n : Node) : (phaseStopped c p n).pg = n.pg := by
  unfold phaseStopped
  split <;> simp

@[simp] theorem refFollow_pg (c : Chan) (p : AxisParams) (n : Node) : (refFollow c p n).pg = n.pg := by
  simp [refFollow, apply_ite Node.pg]

@[simp] theorem refStep_pg (c : Chan) (p : AxisParams) (n : Node) : (refStep c p n).pg = n.pg := by
  simp [refStep, apply_ite Node.pg]

@[simp] theorem commandStep_pg (c : Chan) (p : AxisParams) (n : Node) : (commandStep c p n).pg = n.pg := by
  unfold commandStep
  dsimp only
  split_ifs
  · split <;> simp
  · simp
  · split <;> simp

@[simp] theorem correctStep_pg (c : Chan) (p : AxisParams) (n : Node) : (correctStep c p n).pg = n.pg := by
  simp [correctStep]

@[simp] theorem servoStep_pg (c : Chan) (p : AxisParams) (n : Node) : (servoStep c p n).pg = n.pg := by
  simp [servoStep, apply_ite Node.pg]

@[simp] theorem disableTick_pg (c : Chan) (n : Node) : (disableTick c n).pg = n.pg := by
  simp [disableTick, apply_ite Node.pg]

@[simp] theorem switchTick_pg (c : Chan) (n : Node) : (switchTick c n).pg = n.pg := by
  simp [switchTick, apply_ite Node.pg]

theorem axisTick_pg (c : Chan) (p : AxisParams) (n : Node) : (axisTick c p n).pg = n.pg := by simp [axisTick]

/-! ### The spindle and gearbox unit (chapter 8) -/

@[simp] theorem formCommand_pg (p : SpindleParams) (n : Node) : (formCommand p n).pg = n.pg := rfl

@[simp] theorem endShift_pg (p : SpindleParams) (n : Node) : (endShift p n).pg = n.pg := by
  unfold endShift
  split_ifs
  · split <;> simp
  · rfl

@[simp] theorem beginStepB_pg (p : SpindleParams) (n : Node) : (beginStepB p n).pg = n.pg := by
  simp [beginStepB, apply_ite Node.pg]

@[simp] theorem beginStepA_pg (p : SpindleParams) (n : Node) : (beginStepA p n).pg = n.pg := by
  simp [beginStepA, apply_ite Node.pg]

@[simp] theorem stepConfirmed_pg (p : SpindleParams) (n : Node) : (stepConfirmed p n).pg = n.pg := by
  unfold stepConfirmed
  split <;> simp

@[simp] theorem shiftGivenUp_pg (n : Node) : (shiftGivenUp n).pg = n.pg := by simp [shiftGivenUp]

@[simp] theorem neutralReached_pg (p : SpindleParams) (n : Node) : (neutralReached p n).pg = n.pg := by
  cases h : n.sg.step <;> simp [neutralReached, beginStep, h, apply_ite Node.pg]

@[simp] theorem faultRunTick_pg (n : Node) : (faultRunTick n).pg = n.pg := by
  simp [faultRunTick, spindleFault, apply_ite Node.pg]

@[simp] theorem speedTick_pg (p : SpindleParams) (n : Node) : (speedTick p n).pg = n.pg := by
  simp [speedTick, atSpeedTick, estimateTick]

@[simp] theorem atRestTest_pg (p : SpindleParams) (n : Node) : (atRestTest p n).pg = n.pg := by
  simp [atRestTest, shiftFromRest, apply_ite Node.pg]

@[simp] theorem gearLost_pg (r : Gear) (n : Node) : (gearLost r n).pg = n.pg := raiseStop_pg ..

@[simp] theorem conflictTest_pg (sh : Shifter) (before : SG) (n : Node) : (conflictTest sh before n).pg = n.pg := by
  have hc : (shifterConflict sh n).pg = n.pg := by
    unfold shifterConflict
    dsimp only
    split <;> simp [apply_ite Node.pg]
  simp [conflictTest, apply_ite Node.pg, hc]

@[simp] theorem patternWatch_pg (p : SpindleParams) (n : Node) : (patternWatch p n).pg = n.pg := by
  unfold patternWatch
  split <;> simp [patternTo, apply_ite Node.pg]

@[simp] theorem gearTest_pg (p : SpindleParams) (n : Node) : (gearTest p n).pg = n.pg := by
  unfold gearTest
  split <;> simp [apply_ite Node.pg]

@[simp] theorem shiftTimerOut_pg (n : Node) : (shiftTimerOut n).pg = n.pg := by
  unfold shiftTimerOut
  split <;> simp

@[simp] theorem gearTick_pg (p : SpindleParams) (n : Node) : (gearTick p n).pg = n.pg := by
  simp [gearTick, apply_ite Node.pg]

theorem spindleTick_pg (n : Node) : (spindleTick n).pg = n.pg := by
  unfold spindleTick
  split <;> simp

/-! ### The coolant unit (chapter 9) -/

@[simp] theorem clLoss_pg (n : Node) : (clLoss n).pg = n.pg := pg_of_only (clLoss_only n)

@[simp] theorem setTsc_pg (s : CircuitState) (t b : Nat) (n : Node) : (setTsc s t b n).pg = n.pg :=
  pg_of_only (setTsc_only s t b n)

@[simp] theorem tscStop_pg (n : Node) : (tscStop n).pg = n.pg := pg_of_only (tscStop_only n)

@[simp] theorem floodStop_pg (n : Node) : (floodStop n).pg = n.pg := pg_of_only (floodStop_only n)

@[simp] theorem compareFlood_pg (n : Node) : (compareFlood n).pg = n.pg := pg_of_only (compareFlood_only n)

@[simp] theorem compareTsc_pg (p : CoolantParams) (n : Node) : (compareTsc p n).pg = n.pg :=
  pg_of_only (compareTsc_only p n)

@[simp] theorem compareAir_pg (n : Node) : (compareAir n).pg = n.pg := pg_of_only (compareAir_only n)

@[simp] theorem tscInterlockTest_pg (n : Node) : (tscInterlockTest n).pg = n.pg := by
  unfold tscInterlockTest
  split <;> simp [apply_ite Node.pg]

@[simp] theorem switchesTick_pg (n : Node) : (switchesTick n).pg = n.pg := by
  simp [switchesTick, tankTo, tankLowRaised, tankLowCleared, apply_ite Node.pg]

@[simp] theorem floodTick_pg (n : Node) : (floodTick n).pg = n.pg := by
  unfold floodTick
  split <;> simp [floodProven, floodFault, floodOff, apply_ite Node.pg]

@[simp] theorem tscTick_pg (p : CoolantParams) (n : Node) : (tscTick p n).pg = n.pg := by
  unfold tscTick
  split_ifs
  · simp
  · split <;> simp [tscStartingTick, tscProvenTick, tscDegradedTick, bleedTick, tscProven, tscFault, tscOff,
      tscDegrade, apply_ite Node.pg]

theorem coolantTick_pg (n : Node) : (coolantTick n).pg = n.pg := by
  unfold coolantTick
  split <;> simp [lossRunTick, pressureTick]

/-! ### The pendant unit (chapter 10) -/

@[simp] theorem panelRequest_pg (n : Node) : (panelRequest n).pg = n.pg := by
  unfold panelRequest
  split <;> simp [apply_ite Node.pg]

@[simp] theorem pressed_pg (b : Button) (n : Node) : (pressed b n).pg = n.pg := by
  cases b <;> simp only [pressed, pressCycle, pressHold, pressStart, pressStop, pressCoolant, pressReset, pressRef]
  case spindleStart => split <;> simp [apply_ite Node.pg]
  case coolant => split <;> simp [apply_ite Node.pg]
  case ref => split <;> simp
  all_goals simp [apply_ite Node.pg]

@[simp] theorem pressesTick_pg (before : PD) (n : Node) : (pressesTick before n).pg = n.pg := by
  unfold pressesTick
  generalize buttonOrder = bs
  induction bs generalizing n with
  | nil => rfl
  | cons b bs ih => exact (ih _).trans (by simp [apply_ite Node.pg])

@[simp] theorem wheelGate_pg (n : Node) : (wheelGate n).pg = n.pg := by simp [wheelGate, apply_ite Node.pg]

@[simp] theorem selectorGate_pg (before : PD) (n : Node) : (selectorGate before n).pg = n.pg := by
  simp [selectorGate, apply_ite Node.pg]

@[simp] theorem jogLostTest_pg (n : Node) : (jogLostTest n).pg = n.pg := by
  simp [jogLostTest, jogOver, apply_ite Node.pg]

@[simp] theorem jogRequest_pg (n : Node) : (jogRequest n).pg = n.pg := by simp [jogRequest, apply_ite Node.pg]

@[simp] theorem knobRequest_pg (n : Node) : (knobRequest n).pg = n.pg := by simp [knobRequest, apply_ite Node.pg]

@[simp] theorem spindleKnobRequest_pg (n : Node) : (spindleKnobRequest n).pg = n.pg := by
  simp [spindleKnobRequest, apply_ite Node.pg]

@[simp] theorem pendantTick_pg (n : Node) : (pendantTick n).pg = n.pg := by simp [pendantTick, apply_ite Node.pg]

/-! ### The stop chain, the head and the requests (R176, R72, R64, R137, R50) -/

@[simp] theorem chainTick_pg (n : Node) : (chainTick n).pg = n.pg := by
  simp [chainTick, chainOpens, chainCloses, apply_ite Node.pg]

@[simp] theorem headTimerTick_pg (n : Node) : (headTimerTick n).pg = n.pg := by
  simp [headTimerTick, raiseStall, apply_ite Node.pg]

@[simp] theorem verdictTick_pg (n : Node) : (verdictTick n).pg = n.pg := by
  unfold verdictTick
  split <;> simp [askReady, apply_ite Node.pg]

@[simp] theorem sgActHead_pg (n : Node) : (sgActHead n).pg = n.pg := by
  unfold sgActHead
  split
  · split
    · have ha (t : SpindleTarget) : (sgActOn t n).pg = n.pg := by
        cases h : t.range <;> simp [sgActOn, h, noteSettled, apply_ite Node.pg]
      simp [ha, pg_of_only (dropCommand_only _ _), apply_ite Node.pg]
    · rfl
  · rfl

theorem tickHead_pg (n : Node) : (tickHead n).pg = n.pg := by
  simp [tickHead, clampRepeat, pg_of_only (goTest_only _), pg_of_only (clActHead_only _), apply_ite Node.pg]

theorem tickRequests_pg (n : Node) : (tickRequests n).pg = n.pg := by
  simp [tickRequests, feedHoldPart, feedHoldTick, pg_of_only (askStopall_only _), pg_of_only (heldTest_only _),
    apply_ite Node.pg]

theorem tickMachine_pg (n : Node) : (tickMachine n).pg = n.pg := by
  rw [tickMachine, coolantTick_pg, spindleTick_pg, forAxes_pg axisTick_pg]

end

end Sys2Proof.Machine
end

section
/-! PROOF. The node's time: what leaves it and the pace history as they are, the motion tick that counts it (R77, R96),
and O9. -/

namespace Sys2Proof.Machine

-- The text is checked as one file under a data limit that many waiting threads would exceed.
set_option Elab.async false

/-! ### The clock of a node -/

/-- The tick number and phase, the length of the tick and the slew pending (R77, R95, R96). -/
structure Clock where
  tick : Tick
  phase : Phase
  tickLen : Nat
  slew : Int

def clockOf (n : Node) : Clock := ⟨n.pg.tick, n.pg.phase, n.pg.tickLen, n.pg.slew⟩

/-- The clock at the start of the next tick (R77, R96). -/
def Clock.next (c : Clock) : Clock := ⟨c.tick + 1, 0, (slewTick c.slew).1, (slewTick c.slew).2⟩

theorem clockOf_countTick (n : Node) : clockOf (countTick n) = (clockOf n).next := rfl

/-- `m` stands at the time of `n`, with the same pace history. -/
structure SameTime (n m : Node) : Prop where
  clock : clockOf m = clockOf n := by rfl
  history : m.pg.history = n.pg.history := by rfl

section
variable {n m k : Node}

theorem SameTime.refl (n : Node) : SameTime n n := {}

theorem SameTime.trans (h : SameTime n m) (g : SameTime m k) : SameTime n k where
  clock := g.clock.trans h.clock
  history := g.history.trans h.history

theorem SameTime.ite {c : Prop} [Decidable c] {a b : Node} (h : SameTime n a) (g : SameTime n b) :
    SameTime n (if c then a else b) := by
  split
  · exact h
  · exact g

/-- A last step that is made under a condition. -/
theorem SameTime.thenIf {c : Prop} [Decidable c] {a b : Node} (h : SameTime n a) (g : SameTime a b) :
    SameTime n (if c then b else a) := .ite (h.trans g) h

theorem sameTime_of_pg (h : m.pg = n.pg) : SameTime n m where
  clock := by rw [clockOf, h, clockOf]
  history := by rw [h]

theorem sameTime_of_only {ps : List Part} (h : onlyChanges ps n m) (hp : Part.path ∉ ps := by decide) :
    SameTime n m := sameTime_of_pg (pg_of_only h hp)

theorem UnitChange.sameTime (h : UnitChange n m) : SameTime n m where
  clock := by rw [clockOf, h.tick, h.phase, h.tickLen, h.slew, clockOf]
  history := h.history

/-- The reactions of the units leave the time. -/
theorem Acts.sameTime {as : List Act} (h : Acts as n m) : SameTime n m := by
  induction h with
  | refl => exact .refl n
  | unit _ u ih => exact ih.trans u.sameTime
  | raise d _ _ ih => exact ih.trans (sameTime_of_only (raiseCommon_only _ d _))
  | clear _ _ ih => exact ih.trans (sameTime_of_only (clearCond_only _ _))
  | held _ _ ih => exact ih.trans (sameTime_of_only (heldTest_only _))
  | clampAsk _ _ ih => exact ih.trans (sameTime_of_only (askClamp_only _))
  | verdicts num _ _ ih => exact ih.trans (sameTime_of_only (withdrawNamed_only _ _))
  | owe _ _ ih => exact (ih.trans {}).trans (sameTime_of_only (askStopall_only _))
  | latch _ _ ih => exact ih.trans {}

/-! ### Kept frames, blocks and silence timers (R79, R71, R35) -/

theorem applyKept_sameTime (k : Kept) (n : Node) : SameTime n (applyKept k n) := by
  unfold applyKept
  split
  · exact {}
  · exact sameTime_of_only (applyResume_only n)
  · exact sameTime_of_only applyGo_only
  · exact .ite {} (.ite {} (.refl n))
  · exact sameTime_of_only applyPace_only
  · exact .refl n

theorem applyAll_sameTime (ks : List Kept) (n : Node) : SameTime n (applyAll ks n) := by
  induction ks generalizing n with
  | nil => exact .refl n
  | cons k ks ih => exact (applyKept_sameTime k n).trans (ih _)

theorem applyDue_sameTime (n : Node) : SameTime n (applyDue n) :=
  SameTime.trans (m := { n with kept := n.kept.filter fun k => !isDue n.pg.tick k }) {} (applyAll_sameTime _ _)

theorem endOfTick_sameTime (n : Node) : SameTime n (endOfTick n) := by
  unfold endOfTick finishBlock
  split
  · exact .ite (SameTime.trans (m := { n with bq := _, pg := _ }) {} (afterRest_acts _).sameTime) (.refl n)
  · exact .refl n

theorem startTick_sameTime (n : Node) : SameTime n (startTick n) := by
  unfold startTick
  split
  · exact .ite {} (.refl n)
  · exact .refl n

theorem entryLost_sameTime (i : Nat) (n : Node) : SameTime n (entryLost i n) := by
  have hm : SameTime n (entryForgotten i n) := {}
  refine SameTime.trans ?_ (tableChanged_acts _).sameTime
  refine SameTime.trans ?_ (unexpectedClear_acts _).sameTime
  refine SameTime.trans ?_ (mismatchClear_acts _).sameTime
  exact hm.thenIf (raiseHold_acts _ _ _).sameTime

theorem silenceTicks_sameTime (k : Nat) (n : Node) : SameTime n (silenceTicks k n) := by
  induction k with
  | zero => exact .refl n
  | succ k ih => exact ih.trans (.ite (.ite (entryLost_sameTime k _) {}) (.refl _))

/-! ### The parts of a motion tick -/

theorem historyEnd_clock (n : Node) : clockOf (historyEnd n) = clockOf n := by
  unfold historyEnd
  split <;> rfl

/-- The start of a tick counts it, and its timers, inputs and due frames leave the new time. -/
theorem tickStart_clock (inputs : Pins) (n : Node) : clockOf (tickStart inputs n) = (clockOf n).next := by
  have hc : clockOf (endOfTick (historyEnd n)) = clockOf n :=
    (endOfTick_sameTime _).clock.trans (historyEnd_clock n)
  have ht (m : Node) : SameTime m (stopTimerCount (circuitTimers (eligibleTick m))) :=
    SameTime.trans (m := circuitTimers (eligibleTick m)) (.ite {} {}) {}
  have hj (m : Node) : SameTime m { joinTick m with pins := inputs } := (sameTime_of_only (joinTick_only m)).trans {}
  have h := (((ht (countTick (endOfTick (historyEnd n)))).trans (hj _)).trans (applyDue_sameTime _)).trans
    (silenceTicks_sameTime 16 _)
  rw [← hc, ← clockOf_countTick]
  exact h.clock

theorem tickInputs_sameTime (n : Node) : SameTime n (tickInputs n) :=
  ((sameTime_of_pg (chainTick_pg n)).trans (startTick_sameTime _)).trans (sameTime_of_pg (pendantTick_pg _))

theorem tickPath_clock (n : Node) : clockOf (tickPath n) = clockOf n := by
  have hp (m : Node) : SameTime m (pathTick m) := by
    unfold pathTick
    split
    · exact {}
    · exact .refl m
  have hh (m : Node) : clockOf (historyTick m) = clockOf m := by
    unfold historyTick
    split <;> rfl
  have hpace : SameTime n (paceTick n) := (SameTime.refl n).thenIf (sameTime_of_only (ask_only _ n))
  exact (hh _).trans (hpace.trans (hp _)).clock

theorem tickEnd_sameTime (n : Node) : SameTime n (tickEnd n) := by
  have hs : SameTime n (stopEndTest n) := (SameTime.refl n).thenIf (stopReached_acts n).sameTime
  have ha := hs.thenIf (c := adoptionDue (stopEndTest n) = true) (adoptMode_acts _).sameTime
  exact (ha.trans (sameTime_of_only (recoveryTick_only _))).trans (sameTime_of_only (stateTick_only _))

theorem workTick_clock (inputs : Pins) (n : Node) : clockOf (workTick inputs n) = (clockOf n).next := by
  have hi := tickInputs_sameTime (tickStart inputs n)
  have hr := (sameTime_of_pg (tickHead_pg (tickInputs (tickStart inputs n)))).trans
    (sameTime_of_pg (tickRequests_pg _))
  calc clockOf (workTick inputs n)
      = clockOf (tickPath (tickRequests (tickHead (tickInputs (tickStart inputs n))))) :=
        ((sameTime_of_pg (tickMachine_pg _)).trans (tickEnd_sameTime _)).clock
    _ = clockOf (tickStart inputs n) := (tickPath_clock _).trans (hi.trans hr).clock
    _ = (clockOf n).next := tickStart_clock inputs n

/-- A motion tick outside a full reset counts the tick, in LOADING and at a LIMITED node too (R24, R26, R77). -/
theorem motionTick_clock (inputs : Pins) (h : n.su.start ≠ .inReset) :
    clockOf (motionTick inputs n) = (clockOf n).next := by
  have hw : clockOf (finish (workTick inputs n)) = (clockOf n).next :=
    (sameTime_of_pg (finish_pg _)).clock.trans (workTick_clock inputs n)
  unfold motionTick
  split
  · contradiction
  · rfl
  · exact hw
  · exact hw

end

/-- The tick's length and the slew left, by the sign of the slew pending (R96). -/
theorem slewTick_cases (q : Int) :
    (q < 0 → ((slewTick q).1 : Int) = 1000 + min 2 (-q) ∧ (slewTick q).2 = q + min 2 (-q)) ∧
    (q = 0 → (slewTick q).1 = 1000 ∧ (slewTick q).2 = 0) ∧
    (0 < q → ((slewTick q).1 : Int) = 1000 - min 2 q ∧ (slewTick q).2 = q - min 2 q) := by
  unfold slewTick
  refine ⟨fun h => ?_, fun h => ?_, fun h => ?_⟩
  · rw [if_pos h]
    dsimp only
    omega
  · simp [h]
  · rw [if_neg (by omega), if_pos h]
    dsimp only
    omega

/-- Settles O9: everything a tick does after its count leaves the clock, which then stands at `Clock.next`. -/
theorem motionTickCountsAndSlews : Obligations.MotionTickCountsAndSlews := by
  refine fun inputs s => completes_answer rfl ⟨fun h => ?_, fun h => ?_, fun h => ?_⟩
  · rw [motionTick, h]
  · have hc := motionTick_clock inputs h
    simp only [clockOf, Clock.next, Clock.mk.injEq] at hc
    obtain ⟨htick, hphase, hlen, hslew⟩ := hc
    rw [htick, hphase, hlen, hslew]
    exact ⟨rfl, rfl, slewTick_cases _⟩
  · rw [motionTick, h]
    rfl

end Sys2Proof.Machine
end

section
/-! PROOF. The profile step's position and velocity (R81 to R85), and O12. -/

namespace Sys2Proof.Machine

-- The text is checked as one file under a data limit that many waiting threads would exceed.
set_option Elab.async false

/-! ### The target velocity and the rows of the velocity (R81 to R84) -/

theorem foldl_min_le (cs : List Nat) (x : Nat) : cs.foldl min x ≤ x := by
  induction cs generalizing x with
  | nil => exact le_rfl
  | cons c cs ih => exact (ih _).trans (min_le_left x c)

/-- The effective override is at most the knob's value (R81). -/
theorem effective_le_knob (knob : Nat) (clamps : List Nat) (ceiling : Nat) : effective knob clamps ceiling ≤ knob :=
  (foldl_min_le _ _).trans (min_le_left _ _)

theorem targetVelocity_le {o k : Nat} (h : o ≤ k) (feed : Nat) (held : Bool) :
    targetVelocity feed o held ≤ feed * k / 100 := by
  unfold targetVelocity
  split
  · exact Nat.zero_le _
  · exact Nat.div_le_div_right (Nat.mul_le_mul_left _ h)

theorem endVelocity_le (r : Run) (vt : Nat) (cont : Bool) : endVelocity r vt cont ≤ vt := by
  unfold endVelocity
  split
  · exact min_le_right _ _
  · exact Nat.zero_le _

theorem floorVelocity_le {ve vt : Nat} (h : ve ≤ vt) (acc : Nat) (held : Bool) :
    floorVelocity ve vt acc held ≤ vt := by
  unfold floorVelocity
  split
  · exact Nat.zero_le _
  · exact max_le h (min_le_right _ _)

/-- No row of R84's table gives more than the velocity before the step and the target velocity. -/
theorem stepVelocity_le {ve vt : Nat} (h : ve ≤ vt) (v acc rest : Nat) (held : Bool) :
    stepVelocity v vt ve acc rest held ≤ max v vt := by
  have hfloor := floorVelocity_le h acc held
  unfold stepVelocity
  dsimp only
  split_ifs <;> omega

/-! ### The position moved (R85) -/

section
variable {vnew carry : Nat} {r : Run}

theorem moveTo_lq : lq (moveTo vnew carry r) = lq r := by
  unfold moveTo
  split <;> rfl

theorem moveTo_p : (moveTo vnew carry r).p = min (r.p + vnew) (lq r) := by
  unfold moveTo
  split_ifs with h
  · exact (min_eq_right h).symm
  · exact (min_eq_left (not_le.1 h).le).symm

/-- The tick whose step reaches the block's length is its final tick. -/
theorem moveTo_final (hf : r.final = false) : (moveTo vnew carry r).final = true ↔ lq r ≤ r.p + vnew := by
  unfold moveTo
  split_ifs with h <;> simp [h, hf]

end

theorem profileStep_v_le {n : Node} (h : n.pg.knob ≤ 150) (r : Run) :
    (profileStep n r).v ≤ max r.v (r.feed * 150 / 100) := by
  rw [profileStep, moveTo_v]
  refine (stepVelocity_le (endVelocity_le _ _ _) _ _ _ _).trans (max_le_max le_rfl ?_)
  exact targetVelocity_le ((effective_le_knob _ _ _).trans h) _ _

/-- Settles O12, by the rows of the velocity's table and the two cases of the position's move. -/
theorem profileStepStaysWithinTheBlock : Obligations.ProfileStepStaysWithinTheBlock := by
  intro n r hp hf u
  have hu : u.p = min (r.p + u.v) (lq r) := by simp only [u, profileStep, moveTo_p, moveTo_v]
  have hl : lq u = lq r := moveTo_lq
  have hfinal : u.final = true ↔ lq r ≤ r.p + u.v := by
    simp only [u, profileStep, moveTo_v]
    exact moveTo_final hf
  refine ⟨?_, hu, ?_, ?_, fun hk => profileStep_v_le hk r⟩
  · rw [hu]
    exact le_min (Nat.le_add_right _ _) hp
  · rw [hu, hl]
    exact min_le_right _ _
  · rw [hfinal, hu, hl, min_eq_right_iff]

end Sys2Proof.Machine
end

section
/-! PROOF. Dwell blocks (R86), and O14. -/

namespace Sys2Proof.Machine

-- The text is checked as one file under a data limit that many waiting threads would exceed.
set_option Elab.async false

section
variable {n : Node} {r : Run}

/-! ### One tick and a run of ticks -/

theorem runStep_dwelling (hf : r.final = false) (hl : r.len = 0) (n : Node) :
    runStep n r = dwellStep (countElapsed r) := by
  rw [runStep, if_neg (by simp [hf]), if_pos hl]

theorem runStep_final (hf : r.final = true) (n : Node) : runStep n r = r := by rw [runStep, if_pos hf]

theorem foldl_runStep_final (hf : r.final = true) (ticks : List Node) :
    ticks.foldl (fun x m => runStep m x) r = r := by
  induction ticks with
  | nil => rfl
  | cons m ms ih => rw [List.foldl_cons, runStep_final hf, ih]

/-- A dwell block that counts from `r.dwell` ends with the tick of that number, and stands from then on. -/
theorem foldl_runStep_dwell (hf : r.final = false) (hl : r.len = 0) (hd : 0 < r.dwell) (ticks : List Node) :
    (ticks.foldl (fun x m => runStep m x) r).final = true ↔ r.dwell ≤ ticks.length := by
  induction ticks generalizing r with
  | nil => simp [hf, hd.ne']
  | cons m ms ih =>
    have hs : runStep m r = dwellStep (countElapsed r) := runStep_dwelling hf hl m
    have hdwell : (runStep m r).dwell = r.dwell - 1 := by rw [hs, countElapsed_eq]; rfl
    have hfinal : (runStep m r).final = decide (r.dwell ≤ 1) := by rw [hs, countElapsed_eq]; rfl
    have hlen : (runStep m r).len = 0 := by rw [hs, countElapsed_eq]; exact hl
    rw [List.foldl_cons, List.length_cons]
    rcases Nat.lt_or_ge 1 r.dwell with h1 | h1
    · rw [ih (hfinal.trans (decide_eq_false h1.not_ge)) hlen (by omega)]
      omega
    · have hlast : (runStep m r).final = true := hfinal.trans (decide_eq_true h1)
      rw [foldl_runStep_final hlast]
      exact iff_of_true hlast (by omega)

/-! ### DWELL_END -/

/-- The running block at a dwell's end, whatever count is left (R86). -/
def dwellEnded (r : Run) : Run := { r with dwell := 0, v := 0, p := 0, final := true, carry := 0 }

theorem dwellEnds_dwelling (hr : n.pg.run = some r) (hl : r.len = 0) :
    dwellEnds n = { n with pg := { n.pg with run := some (dwellEnded r) } } := by
  rw [dwellEnds, hr]
  exact if_pos hl

theorem dwellEnds_moving (hr : n.pg.run = some r) (hl : r.len ≠ 0) : dwellEnds n = n := by
  rw [dwellEnds, hr]
  exact if_neg hl

theorem dwellEnds_only (n : Node) : onlyChanges [.path] n (dwellEnds n) := by
  unfold dwellEnds
  split
  · split
    · exact withPg_only _ n
    · exact onlyChanges_refl _ n
  · exact onlyChanges_refl _ n

end

/-- Settles O14: the count falls with each tick, so that the tick of its number is the final one. -/
theorem dwellBlocksCountTheirTicks : Obligations.DwellBlocksCountTheirTicks := by
  refine ⟨fun n e f hl => ?_, fun n r hf hl => ?_, fun s r hloaded hr => completes_live rfl hloaded ?_⟩
  · obtain ⟨hv, hdwell⟩ := (startRun_start e f n).1 hl
    refine ⟨hdwell, hv, rfl, hl, rfl, rfl, fun ticks => ?_⟩
    rw [← hdwell]
    exact foldl_runStep_dwell rfl hl (by omega) ticks
  · intro u
    have hu : u = dwellStep (countElapsed r) := runStep_dwelling hf hl n
    rw [hu, countElapsed_eq]
    refine ⟨rfl, rfl, rfl, rfl, fun hd => ?_, rfl, rfl⟩
    simp only [dwellStep, decide_eq_true_eq]
    omega
  · refine ⟨fun hl => ?_, fun hl => ?_, onlyChanges_trans (dwellEnds_only _) (onlyChanges_nil (finish_only _))⟩
    · rw [finish_pg, dwellEnds_dwelling hr hl]
      rfl
    · rw [finish_pg, dwellEnds_moving hr hl]

end Sys2Proof.Machine
end

section
/-! PROOF. Full stamp ticks, and the skew, slew and snap of a stamped frame (R78, R95 to R98), with O17. -/

namespace Sys2Proof.Machine

-- The text is checked as one file under a data limit that many waiting threads would exceed.
set_option Elab.async false

/-! ### Full stamp ticks and points of time (R78, R98) -/

/-- The full stamp tick is the stamp tick modulo 65,536. -/
theorem fullStampTick_setWidth (stamp : BitVec 16) (c : Tick) : (fullStampTick stamp c).setWidth 16 = stamp := by
  have hs (d : BitVec 16) : (d.signExtend 32).setWidth 16 = d := by
    ext i hi
    simp [show i < 32 by omega, BitVec.getElem_signExtend, hi]
  rw [fullStampTick, BitVec.setWidth_add _ _ (by decide), hs, BitVec.add_comm, BitVec.sub_add_cancel]

/-- It lies as far from the capture's tick as the signed difference of their low halves says. -/
theorem fullStampTick_sub (stamp : BitVec 16) (c : Tick) :
    (fullStampTick stamp c - c).toInt = (stamp - c.setWidth 16).toInt := by
  rw [fullStampTick, BitVec.add_comm, BitVec.add_sub_cancel, BitVec.toInt_signExtend_of_le (by decide)]

theorem skewOf_bounds (c : Moment) (st : Stamp) : -32768000 ≤ skewOf c st ∧ skewOf c st ≤ 32767999 := by
  unfold skewOf
  dsimp only
  omega

/-- The point of time of a count of microseconds has that count, modulo that of all tick numbers. -/
theorem momentMicros_momentOfMicros (x : Int) :
    momentMicros (momentOfMicros x) % 4294967296000 = x % 4294967296000 := by
  simp only [momentMicros, momentOfMicros, phaseOf, floorDiv, BitVec.toNat_ofInt,
    Int.fdiv_eq_ediv_of_nonneg x (by decide : (0 : Int) ≤ 1000)]
  omega

/-! ### The slew and the slip (R96, R97) -/

theorem clampInt_eq {lo hi : Int} (h : lo ≤ hi) (x : Int) : clampInt lo hi x = max lo (min hi x) := by
  unfold clampInt
  split_ifs <;> omega

/-- What a stamped frame's skew does, case by case. -/
theorem alignTime_cases (rx : Rx) (c : Moment) (st : Stamp) (n : Node) :
    (givesSkew rx.sender rx.own n = false → alignTime rx c st n = (n, c)) ∧
    (givesSkew rx.sender rx.own n = true → snaps rx.sender (skewOf c st) n = false →
      alignTime rx c st n = (slewFor (fun f m => f m) rx.sender (skewOf c st) n, c)) ∧
    (givesSkew rx.sender rx.own n = true → snaps rx.sender (skewOf c st) n = true →
      alignTime rx c st n = (snap (fun f m => f m) (skewOf c st) n, movedBack c (skewOf c st))) := by
  refine ⟨fun h => ?_, fun h hs => ?_, fun h hs => ?_⟩ <;> simp [alignTime, alignTimeBy, *]

/-- The node with the slew pending that a skew leaves (R96). -/
def slewed (k : Int) (n : Node) : Node := { n with pg := { n.pg with slew := slewAfter n.pg.slew k } }

theorem slewFor_cases (sender : NodeNo) (k : Int) (n : Node) :
    slewFor (fun f m => f m) sender k n =
      if 200 < k.natAbs ∧ engaged n = true then raiseSlip sender (slewed k n) else slewed k n := by
  simp [slewFor, slewed]

theorem raiseSlip_pg (sender : NodeNo) (n : Node) : (raiseSlip sender n).pg = n.pg := raiseHold_pg ..

theorem slewFor_pg (sender : NodeNo) (k : Int) (n : Node) :
    (slewFor (fun f m => f m) sender k n).pg = { n.pg with slew := max (-64) (min 64 (n.pg.slew - k.tdiv 4)) } := by
  have hs : (slewed k n).pg = { n.pg with slew := max (-64) (min 64 (n.pg.slew - k.tdiv 4)) } := by
    rw [← clampInt_eq (by decide)]
    rfl
  rw [slewFor_cases]
  split
  · rw [raiseSlip_pg, hs]
  · exact hs

theorem slewFor_slips {sender : NodeNo} {k : Int} {n : Node} (hk : 200 < k.natAbs) (he : engaged n = true) :
    condIn .syncSlip (slewFor (fun f m => f m) sender k n).cu.own = true := by
  rw [slewFor_cases, if_pos ⟨hk, he⟩, raiseSlip, raiseHold_condIn _ _ _ (by decide)]
  simp

theorem slewFor_small {sender : NodeNo} {k : Int} {n : Node} (hk : k.natAbs ≤ 200) :
    (slewFor (fun f m => f m) sender k n).cu = n.cu := by
  rw [slewFor_cases, if_neg fun h => absurd h.1 (by omega)]
  rfl

/-! ### The snap (R98) -/

/-- The frames that a snap makes due leave the time it has moved back. -/
theorem snap_time (k : Int) (n : Node) :
    (snap (fun f m => f m) k n).pg.slew = 0 ∧ (snap (fun f m => f m) k n).pg.history = [] ∧
      (⟨(snap (fun f m => f m) k n).pg.tick, (snap (fun f m => f m) k n).pg.phase⟩ : Moment) =
        movedBack ⟨n.pg.tick, n.pg.phase⟩ k := by
  obtain ⟨hclock, hhistory⟩ := applyDue_sameTime { n with pg := { n.pg with
    tick := (movedBack ⟨n.pg.tick, n.pg.phase⟩ k).tick, phase := (movedBack ⟨n.pg.tick, n.pg.phase⟩ k).phase,
    slew := 0, history := [] } }
  simp only [clockOf, Clock.mk.injEq] at hclock
  obtain ⟨htick, hphase, -, hslew⟩ := hclock
  exact ⟨hslew, hhistory, Moment.mk.injEq .. ▸ ⟨htick, hphase⟩⟩

/-- Settles O17: the slew pending or the snap by the two cases of a skew, and the frames that a snap makes due leave
the time. -/
theorem stampTicksAndSkew : Obligations.StampTicksAndSkew := by
  refine ⟨fun stamp c => ⟨fullStampTick_setWidth stamp c, ?_, ?_⟩, fun rx c st n => ?_⟩
  · rw [fullStampTick_sub]
    exact BitVec.le_toInt _
  · rw [fullStampTick_sub]
    exact Int.le_of_lt_add_one (BitVec.toInt_lt (x := stamp - c.setWidth 16))
  · obtain ⟨hnone, hslew, hsnap⟩ := alignTime_cases rx c st n
    refine ⟨skewOf_bounds c st, hnone, fun hg hs => ?_, fun hg hs => ?_⟩
    · rw [hslew hg hs]
      dsimp only
      rw [slewFor_pg]
      exact ⟨rfl, rfl, rfl, rfl, slewFor_slips, slewFor_small⟩
    · rw [hsnap hg hs]
      obtain ⟨h0, hh, hm⟩ := snap_time (skewOf c st) n
      refine ⟨h0, hh, ?_⟩
      dsimp only
      rw [hm, movedBack, momentMicros_momentOfMicros]

end Sys2Proof.Machine
end

section
/-! PROOF. A channel through the raising of a STOP-class condition (R45, R108, R111), and the events of a channel whose
parameters are known (R100). -/

namespace Sys2Proof.Machine

-- The text is checked as one file under a data limit that many waiting threads would exceed.
set_option Elab.async false

/-! ### The latch at a channel (R111) -/

/-- A channel whose ENABLING drive the latch has made DISABLED. -/
def latchedOff (a : Axis) : Axis :=
  { a with drive := .disabled, driveChanged := true, prevCorrected := a.corrected, driveTimer := 0,
           driveCommand := 0, followRun := 0, satRun := 0 }

/-- The latch, where it becomes set, does nothing more to a channel. -/
def LatchMay (a b : Axis) : Prop := b = a ∨ (a.drive = .enabling ∧ b = latchedOff a)

theorem LatchMay.refl (a : Axis) : LatchMay a a := .inl rfl

theorem LatchMay.trans {a b c : Axis} (h : LatchMay a b) (g : LatchMay b c) : LatchMay a c := by
  rcases h with rfl | ⟨ha, rfl⟩
  · exact g
  · rcases g with rfl | ⟨hb, -⟩
    · exact .inr ⟨ha, rfl⟩
    · cases hb

theorem LatchMay.eq {a b : Axis} (h : LatchMay a b) (hd : a.drive ≠ .enabling) : b = a :=
  h.resolve_right fun hx => hd hx.1

/-- What the latch leaves alone in a channel. -/
theorem LatchMay.stands {α : Type} {a b : Axis} (h : LatchMay a b) (f : Axis → α) (hf : f (latchedOff a) = f a) :
    f b = f a := by
  rcases h with rfl | ⟨-, rfl⟩
  · rfl
  · exact hf

theorem setDrive_latch {rest : Bool} {a : Axis} (h : a.drive = .enabling) :
    setDrive rest .disabled a = latchedOff a := by
  simp [setDrive, h, latchedOff]

section
variable (c : Chan) {n m : Node}

theorem latchMay_of_only {ps : List Part} (h : onlyChanges ps n m) (hp : chanPart c ∉ ps) :
    LatchMay (getAx c n) (getAx c m) := .inl (getAx_of_only h hp)

theorem latchDrive_latchMay (d : Chan) (p : AxisParams) (n : Node) :
    LatchMay (getAx c n) (getAx c (latchDrive d p n)) := by
  by_cases hcd : c = d
  · subst hcd
    unfold latchDrive
    split
    · rename_i h
      exact .inr ⟨h, by rw [getAx_onAx, setDrive_latch h]⟩
    · exact .refl _
  · exact .inl (latchDrive_other d c p n hcd)

theorem setLatch_latchMay (n : Node) : LatchMay (getAx c n) (getAx c (setLatch n)) := by
  cases hs : n.cu.stopped with
  | true => rw [setLatch_of_set hs]; exact .refl _
  | false =>
    have one (d : Chan) (m : Node) : LatchMay (getAx c m) (getAx c (onUsed latchDrive d m)) :=
      onUsed_induct (P := fun t => LatchMay (getAx c m) (getAx c t)) (.refl _) fun p => latchDrive_latchMay c d p m
    have ha : getAx c { n with cu := { n.cu with stopped := true } } = getAx c n := by cases c <;> rfl
    rw [setLatch_of_clear hs, getAx_of_only (clStopReaction_only _) (by cases c <;> simp [chanPart]), latchedUnits,
      getAx_of_only (sgStopReaction_only _) (by cases c <;> simp [chanPart]), ← ha]
    exact (one .ax0 _).trans (one .ax1 _)

theorem raiseStop_latchMay (x : Cond) (d : Byte) (n : Node) :
    LatchMay (getAx c n) (getAx c (raiseStop x d n)) := by
  have h := setLatch_latchMay c (stopRaised x d n)
  rwa [stopRaised_getAx] at h

/-! ### COMP_PARITY (R108) -/

theorem raiseParity_latchMay (d : Chan) (k : Nat) (n : Node) :
    LatchMay (getAx c n) (getAx c (raiseParity d k n)) := by
  induction k generalizing n with
  | zero => exact .refl _
  | succ k ih => exact (raiseStop_latchMay c .compParity (chanNumber d) n).trans (ih _)

end

theorem raiseParity_only (c : Chan) (k : Nat) (n : Node) : onlyChanges stopParts n (raiseParity c k n) := by
  induction k generalizing n with
  | zero => exact onlyChanges_refl _ n
  | succ k ih => exact onlyChanges_trans (raiseStop_only _ _ n) (ih _)

/-- A failed parity test stops the machine. -/
theorem raiseParity_raises (c : Chan) {k : Nat} (hk : k ≠ 0) (n : Node) :
    condIn .compParity (raiseParity c k n).cu.own = true ∧ (raiseParity c k n).cu.stopped = true := by
  induction k generalizing n with
  | zero => exact absurd rfl hk
  | succ k ih =>
    cases k with
    | zero => exact ⟨raiseStop_condIn_of_stop _ _ rfl, raiseStop_latched _ _ n⟩
    | succ k => exact ih (by omega) _

/-! ### The computation of the correction leaves all of the channel but the map (R107, R108, R112) -/

section
variable {α : Type} (f : Axis → α) (hf : ∀ a comp, f { a with comp := comp } = f a) (p : AxisParams) (a : Axis)
include hf

theorem correctionRead_stands (x : Int) : f (correctionRead p a x).1 = f a := by
  unfold correctionRead
  split
  · rfl
  · dsimp only
    split
    · rfl
    · exact hf a _

theorem correction_stands (x : Int) : f (correction p a x).1 = f a := by
  unfold correction
  split
  · exact correctionRead_stands f hf p a x
  · rfl

theorem trackingRead_stands : f (trackingRead p a).1 = f a := correctionRead_stands f hf p a _

theorem tracking_stands : f (tracking p a).1 = f a := by
  unfold tracking
  split
  · exact trackingRead_stands f hf p a
  · rfl

end

/-! ### Events of a used channel (R100) -/

theorem completes_axEvent_at {i : Instr} {c : Chan} {f : AxisParams → Node → Node} {s : State} {p : AxisParams}
    {P : Node → Prop} (hi : exec i s = axEvent c f s) (hl : loaded s.node = true) (hp : axParams c s.node = some p)
    (h : P (finish (f p s.node))) : completes i s P := by
  refine completes_live (f := fun n => match axParams c n with | some p => f p n | none => n) hi hl ?_
  simp only [hp]
  exact h

/-- An event that changes its channel alone. -/
theorem finish_onAx (c : Chan) (f : Axis → Axis) (n : Node) :
    getAx c (finish (onAx c f n)) = f (getAx c n) ∧ onlyChanges [chanPart c] n (finish (onAx c f n)) :=
  ⟨by rw [finish_ax, getAx_onAx], finish_line_only (onAx_only c f n)⟩

end Sys2Proof.Machine
end

section
/-! PROOF. The local mover of a channel and the commanded position it gives (R103, R116), with O47. -/

namespace Sys2Proof.Machine

-- The text is checked as one file under a data limit that many waiting threads would exceed.
set_option Elab.async false

/-! ### One step (R116) -/

theorem moverAtRest_iff (a : Axis) : moverAtRest a = true ↔
    a.moverVel = 0 ∧ (a.moverStop = true ∨ a.moverPos = a.moverTarget * 65536) := by
  simp [moverAtRest, q16]

theorem moverStopDist_eq {am : Int} (h : 0 < am) (w : Int) : moverStopDist am w = w * w / (2 * am) :=
  Int.fdiv_eq_ediv_of_nonneg _ (by omega)

theorem signOf_mul_natAbs (x : Int) : signOf x * x.natAbs = x := by
  rcases lt_trichotomy x 0 with h | rfl | h
  · rw [signOf, if_neg (by omega), if_pos h]
    omega
  · rfl
  · rw [signOf, if_pos h]
    omega

theorem natAbs_signOf_mul {x m : Int} (hm : 0 ≤ m) (hx : x = 0 → m = 0) : ((signOf x * m).natAbs : Int) = m := by
  rcases lt_trichotomy x 0 with h | h | h
  · rw [signOf, if_neg (by omega), if_pos h]
    omega
  · simp [hx h]
  · rw [signOf, if_pos h]
    omega

theorem signOf_mul_self_nonneg (x : Int) : 0 ≤ signOf x * x := by
  rcases lt_trichotomy x 0 with h | rfl | h
  · rw [signOf, if_neg (by omega), if_pos h]
    omega
  · decide
  · rw [signOf, if_pos h]
    omega

section
variable {v am : Int} {a : Axis}

/-- The size of a velocity after a step under the stop mark. -/
def slowed (am u : Int) : Int := max (u.natAbs - am) 0

theorem moverStep_stopping (h : a.moverStop = true) : moverStep v am a =
    { a with moverVel := signOf a.moverVel * slowed am a.moverVel,
             moverPos := a.moverPos + signOf a.moverVel * slowed am a.moverVel } := by
  rw [moverStep, if_pos h]
  rfl

theorem moverStep_leaves (v am : Int) (a : Axis) :
    { moverStep v am a with moverPos := 0, moverVel := 0 } = { a with moverPos := 0, moverVel := 0 } := by
  unfold moverStep
  dsimp only
  split_ifs <;> rfl

/-- The way to the target, with its sign. -/
def wayLeft (a : Axis) : Int := a.moverTarget * 65536 - a.moverPos

/-- The direction toward the target; at the target the one back against a velocity. -/
def heading (a : Axis) : Int :=
  if 0 < wayLeft a then 1 else if wayLeft a < 0 then -1 else if 0 < a.moverVel then -1 else 1

/-- The velocity toward the target that a step gives. -/
def towardVel (v am : Int) (a : Axis) : Int := moverRow v am (wayLeft a).natAbs (heading a * a.moverVel)

/-- Where the mover stands at its target with velocity 0 the step gives it no velocity away from it. -/
theorem moverRow_zero (hv : 0 < v) (ham : 0 < am) : 0 ≤ moverRow v am 0 0 := by
  have h0 : 0 ≤ moverStopDist am (min (0 + am) v) := by
    rw [moverStopDist_eq ham]
    exact Int.ediv_nonneg (mul_self_nonneg _) (by omega)
  rw [moverRow, if_neg (lt_irrefl _), if_neg (by omega), if_neg (by omega)]
  omega

/-- The direction in which a step goes: toward the target, and at the target back against the velocity. -/
def stepDir (a : Axis) : Int := if wayLeft a = 0 then -signOf a.moverVel else signOf (wayLeft a)

/-- A step in a direction with a velocity, which ends at the target where it would take the mover past it. -/
def stepWith (dir w : Int) (a : Axis) : Axis :=
  if 0 ≤ w ∧ ((wayLeft a).natAbs : Int) ≤ w then { a with moverPos := a.moverTarget * 65536, moverVel := 0 }
  else { a with moverVel := dir * w, moverPos := a.moverPos + dir * w }

theorem moverStep_eq (h : a.moverStop = false) :
    moverStep v am a = stepWith (stepDir a) (moverRow v am (wayLeft a).natAbs (stepDir a * a.moverVel)) a := by
  rw [moverStep, if_neg (by simp [h])]
  rfl

theorem stepDir_eq (a : Axis) : stepDir a = heading a ∨ (wayLeft a = 0 ∧ a.moverVel = 0) := by
  unfold stepDir heading signOf
  split_ifs <;> omega

theorem moverStep_moving (hv : 0 < v) (ham : 0 < am) (h : a.moverStop = false) :
    moverStep v am a = stepWith (heading a) (towardVel v am a) a := by
  rw [moverStep_eq h]
  rcases stepDir_eq a with hs | ⟨hr, hu⟩
  · rw [hs]
    rfl
  · have h0 := moverRow_zero hv ham
    simp [stepWith, towardVel, hr, hu, h0]

/-- The rows of the table of R116. -/
theorem moverRow_rows (ham : 0 < am) (size w : Int) :
    let d (w : Int) : Int := w * w / (2 * am)
    let k := min (w + am) v
    let accelerates := w < v ∧ d k ≤ size - k
    let keeps := 0 < w ∧ d w ≤ size - w
    (w < 0 → moverRow v am size w = min (w + am) 0) ∧
    (0 ≤ w → accelerates → moverRow v am size w = k) ∧
    (0 ≤ w → ¬accelerates → keeps → moverRow v am size w = w) ∧
    (0 ≤ w → ¬accelerates → ¬keeps → moverRow v am size w = max (w - am) (min am v)) := by
  simp only [moverRow, moverStopDist_eq ham]
  refine ⟨fun h => if_pos h, fun h ha => ?_, fun h ha hk => ?_, fun h ha hk => ?_⟩
  · rw [if_neg (by omega), if_pos ha]
  · rw [if_neg (by omega), if_neg ha, if_pos hk]
  · rw [if_neg (by omega), if_neg ha, if_neg hk]

/-! ### A mover that moves away from its target (R116) -/

/-- The mover moves away from its target. -/
def MovesAway (a : Axis) : Prop := wayLeft a * a.moverVel < 0 ∨ (wayLeft a = 0 ∧ a.moverVel ≠ 0)

theorem slowed_nonneg (am u : Int) : 0 ≤ slowed am u := le_max_right _ _

theorem signOf_eq (x : Int) : x = 0 ∧ signOf x = 0 ∨ 0 < x ∧ signOf x = 1 ∨ x < 0 ∧ signOf x = -1 := by
  unfold signOf
  split_ifs <;> omega

theorem stepDir_away (h : MovesAway a) : stepDir a = -signOf a.moverVel ∧ a.moverVel ≠ 0 := by
  unfold stepDir
  rcases h with h | ⟨hr, hu⟩
  · rcases mul_neg_iff.1 h with ⟨hr, hu⟩ | ⟨hr, hu⟩
    · rw [if_neg hr.ne']
      simp [signOf, hr, hu.not_gt, hu, hu.ne]
    · rw [if_neg hr.ne]
      simp [signOf, hr, hr.not_gt, hu, hu.ne']
  · exact ⟨if_pos hr, hu⟩

/-- A mover that moves away from its target slows down as one under the stop mark does. -/
theorem moverStep_away (h : a.moverStop = false) (haway : MovesAway a) : moverStep v am a =
    { a with moverVel := signOf a.moverVel * slowed am a.moverVel,
             moverPos := a.moverPos + signOf a.moverVel * slowed am a.moverVel } := by
  obtain ⟨hdir, hu⟩ := stepDir_away haway
  have hw : moverRow v am (wayLeft a).natAbs (stepDir a * a.moverVel) = -slowed am a.moverVel := by
    have hneg : stepDir a * a.moverVel = -a.moverVel.natAbs := by
      rw [hdir, neg_mul, neg_inj]
      rcases signOf_eq a.moverVel with ⟨h, e⟩ | ⟨h, e⟩ | ⟨h, e⟩ <;> rw [e] <;> omega
    rw [hneg, moverRow, slowed]
    rw [if_pos (by omega)]
    omega
  rw [moverStep_eq h, hw, hdir, stepWith, neg_mul_neg]
  split_ifs with ha
  · obtain ⟨h0, hr⟩ := ha
    have hs : slowed am a.moverVel = 0 := le_antisymm (by omega) (le_max_right _ _)
    have hway : a.moverTarget * 65536 - a.moverPos = 0 := by
      change wayLeft a = 0
      omega
    rw [hs, mul_zero, add_zero, show a.moverTarget * 65536 = a.moverPos by omega]
  · rfl

/-- The stopping distance covers the way of one step and the stopping distance after it. -/
theorem slowed_stopDist (ham : 0 < am) (u : Int) :
    slowed am u + slowed am u * slowed am u / (2 * am) ≤ u * u / (2 * am) := by
  have h0 : 0 ≤ u * u / (2 * am) := Int.ediv_nonneg (mul_self_nonneg _) (by omega)
  rcases le_total (u.natAbs : Int) am with h | h
  · rw [show slowed am u = 0 from max_eq_right (by omega)]
    simpa using h0
  · rw [← Int.natAbs_mul_self' u, show slowed am u = u.natAbs - am from max_eq_left (by omega)]
    generalize (u.natAbs : Int) = w at h
    rw [Int.le_ediv_iff_mul_le (by omega), add_mul]
    have hd := Int.ediv_mul_le ((w - am) * (w - am)) (show 2 * am ≠ 0 by omega)
    nlinarith

theorem away_way_le (ham : 0 < am) (k : Nat) : ∀ a : Axis, a.moverStop = false →
    (∀ j, j < k → MovesAway ((moverStep v am)^[j] a)) →
    ((((moverStep v am)^[k] a).moverPos - a.moverPos).natAbs : Int) ≤ a.moverVel * a.moverVel / (2 * am) := by
  induction k with
  | zero =>
    intro a _ _
    simpa using Int.ediv_nonneg (mul_self_nonneg a.moverVel) (show 0 ≤ 2 * am by omega)
  | succ k ih =>
    intro a hstop haway
    have hstep := moverStep_away (v := v) (am := am) hstop (haway 0 (by omega))
    have hrest := ih (moverStep v am a) (by rw [hstep]; exact hstop) fun j hj => haway (j + 1) (by omega)
    have hone : (((moverStep v am a).moverPos - a.moverPos).natAbs : Int) = slowed am a.moverVel ∧
        (moverStep v am a).moverVel * (moverStep v am a).moverVel = slowed am a.moverVel * slowed am a.moverVel := by
      have hu := (stepDir_away (haway 0 (by omega))).2
      simp only [Function.iterate_zero, id_eq] at hu
      have hn := natAbs_signOf_mul (slowed_nonneg am a.moverVel) fun h => absurd h hu
      rw [hstep]
      dsimp only
      rw [add_sub_cancel_left, ← Int.natAbs_mul_self' (signOf _ * _), hn]
      exact ⟨rfl, rfl⟩
    rw [hone.2] at hrest
    have hsum := slowed_stopDist ham a.moverVel
    rw [Function.iterate_succ_apply]
    omega

end

/-! ### The commanded position at a tick (R103, R116) -/

/-- Where the mover stands and how fast it moves. -/
def moverAt (a : Axis) : Int × Int := (a.moverPos, a.moverVel)

theorem jogDone_eq (rest : Bool) (a : Axis) : jogDone rest a =
    { a with motion := (jogDone rest a).motion, jogEnding := (jogDone rest a).jogEnding } := by
  unfold jogDone
  split <;> rfl

theorem jogFollow_mover (a : Axis) :
    moverAt (jogFollow a) = moverAt a ∧ (jogFollow a).commanded = a.commanded := by
  unfold jogFollow
  split <;> exact ⟨rfl, rfl⟩

theorem refFollow_moving {c : Chan} {p : AxisParams} {n : Node} (h : moverAtRest (getAx c n) = false) :
    refFollow c p n = n := by simp [refFollow, h]

section
variable {c : Chan} {p : AxisParams} {n : Node}

/-- The mover is held by its clamp. -/
def MoverBlocked (p : AxisParams) (a : Axis) : Prop := p.clampFitted = true ∧ a.clamp ≠ .unclamped

theorem moverFree_iff (p : AxisParams) (a : Axis) : moverFree p a = true ↔ ¬MoverBlocked p a := by
  simp [moverFree, isUnclamped, MoverBlocked, or_iff_not_imp_left]

theorem clampOutput_blocks {p : AxisParams} {a : Axis} (h : clampOutput p a = true) : MoverBlocked p a := by
  simp only [clampOutput, Bool.and_eq_true, Bool.or_eq_true, beq_iff_eq] at h
  obtain ⟨hf, hc | hc⟩ := h
  · exact ⟨hf, by simp [hc]⟩
  · exact ⟨hf, by simp [hc]⟩

/-- A run of the local mover: a jog, or a phase of a reference sequence whose mover is not at rest. -/
def MoverRuns (a : Axis) : Prop := a.motion = .jog ∨ (a.motion = .reference ∧ moverAtRest a = false)

theorem commandStep_jog (ho : clampOutput p (getAx c n) = false) (hd : (getAx c n).drive = .enabled)
    (hm : (getAx c n).motion = .jog) : commandStep c p n = onAx c (jogStep p (chainAtRest n)) n := by
  simp [commandStep, ho, hd, hm]

theorem commandStep_reference (ho : clampOutput p (getAx c n) = false) (hd : (getAx c n).drive = .enabled)
    (hm : (getAx c n).motion = .reference) : commandStep c p n = refStep c p n := by
  simp [commandStep, ho, hd, hm]

theorem commandStep_disabled (ho : clampOutput p (getAx c n) = false) (hd : (getAx c n).drive ≠ .enabled) :
    commandStep c p n = raiseParity c (tracking p (getAx c n)).2.2
      (setAx c { (tracking p (getAx c n)).1 with commanded := (tracking p (getAx c n)).2.1 } n) := by
  simp [commandStep, ho, hd]

theorem commandStep_clamped (ho : clampOutput p (getAx c n) = true) : commandStep c p n =
    match (getAx c n).motion with
    | .jog => onAx c (jogDone (chainAtRest n)) n
    | .reference => refFollow c p n
    | _ => n := if_pos ho

/-- A held mover makes no step. -/
theorem commandStep_blocked (hb : MoverBlocked p (getAx c n)) (hr : MoverRuns (getAx c n)) :
    moverAt (getAx c (commandStep c p n)) = moverAt (getAx c n) := by
  have hfree : moverFree p (getAx c n) = false := by
    rw [Bool.eq_false_iff]
    exact fun h => (moverFree_iff _ _).1 h hb
  cases ho : clampOutput p (getAx c n) with
  | true =>
    rw [commandStep_clamped ho]
    rcases hr with hm | ⟨hm, hrest⟩
    · simp only [hm, getAx_onAx]
      rw [jogDone_eq]
      rfl
    · simp only [hm]
      rw [refFollow_moving hrest]
  | false =>
    by_cases hd : (getAx c n).drive = .enabled
    · rcases hr with hm | ⟨hm, hrest⟩
      · rw [commandStep_jog ho hd hm, getAx_onAx, jogStep, hfree, if_neg (by decide), jogDone_eq]
        rfl
      · rw [commandStep_reference ho hd hm, refStep, hfree, if_neg (by decide), refFollow_moving hrest]
    · have hp := raiseParity_latchMay c c (tracking p (getAx c n)).2.2
        (setAx c { (tracking p (getAx c n)).1 with commanded := (tracking p (getAx c n)).2.1 } n)
      rw [commandStep_disabled ho hd, hp.stands moverAt rfl, getAx_setAx]
      exact tracking_stands moverAt (fun _ _ => rfl) p _

/-- The step that a free mover makes, with its run's limits. -/
def runMoverStep (p : AxisParams) (a : Axis) : Axis :=
  moverStep (if a.motion = .jog then jogVelocity p a else phaseVelocity p a.ref) p.jogAcc a

theorem runMoverStep_referenced (p : AxisParams) (a : Axis) : (runMoverStep p a).referenced = a.referenced := by
  have h := congrArg Axis.referenced (moverStep_leaves
    (if a.motion = .jog then jogVelocity p a else phaseVelocity p a.ref) p.jogAcc a)
  exact h

/-- A free mover makes the step of its run, and the commanded position follows it. -/
theorem commandStep_free (hb : ¬MoverBlocked p (getAx c n)) (hd : (getAx c n).drive = .enabled)
    (hr : (getAx c n).motion = .jog ∨
      ((getAx c n).motion = .reference ∧ moverAtRest (runMoverStep p (getAx c n)) = false)) :
    moverAt (getAx c (commandStep c p n)) = moverAt (runMoverStep p (getAx c n)) ∧
    (getAx c (commandStep c p n)).commanded =
      clampWindow p (getAx c n) (position (roundDiv (runMoverStep p (getAx c n)).moverPos 65536)) := by
  have ho : clampOutput p (getAx c n) = false := by
    rw [Bool.eq_false_iff]
    exact fun h => hb (clampOutput_blocks h)
  have hfree := (moverFree_iff p (getAx c n)).2 hb
  have href := runMoverStep_referenced p (getAx c n)
  have hcmd (b : Axis) (hb : b.referenced = (getAx c n).referenced) : (moverCommand p b).commanded =
      clampWindow p (getAx c n) (position (roundDiv b.moverPos 65536)) := by
    rw [moverCommand, clampWindow, hb]
    rfl
  rcases hr with hm | ⟨hm, hrest⟩
  · have hj : jogStep p (chainAtRest n) (getAx c n) =
        jogDone (chainAtRest n) (jogFollow (moverCommand p (runMoverStep p (getAx c n)))) := by
      rw [jogStep, hfree, if_pos rfl, runMoverStep, if_pos hm]
    obtain ⟨hat, hc⟩ := jogFollow_mover (moverCommand p (runMoverStep p (getAx c n)))
    rw [commandStep_jog ho hd hm, getAx_onAx, hj, jogDone_eq]
    exact ⟨hat, hc.trans (hcmd _ href)⟩
  · have hs : refStep c p n = refFollow c p (setAx c (moverCommand p (runMoverStep p (getAx c n))) n) := by
      rw [refStep, hfree, if_pos rfl, runMoverStep, if_neg (by simp [hm])]
    have hmoving : moverAtRest (getAx c (setAx c (moverCommand p (runMoverStep p (getAx c n))) n)) = false := by
      rw [getAx_setAx]
      exact hrest
    rw [commandStep_reference ho hd hm, hs, refFollow_moving hmoving, getAx_setAx]
    exact ⟨rfl, hcmd _ href⟩

end

/-- Settles O47: a step by its rows, the way a mover still goes away from its target as a sum of slowed velocities, and
the tick's step of a free mover. -/
theorem localMover : Obligations.LocalMover := by
  unfold Obligations.LocalMover
  refine ⟨fun _ _ => rfl, moverAtRest_iff, fun v am a hv ham => ⟨moverStep_leaves v am a, fun hs => ?_, fun hs => ?_⟩,
    fun v am a k ham hs => away_way_le ham k a hs, fun c p n => ⟨fun hb hr => ?_, fun hb hd hr => ?_⟩⟩
  · have h0 := slowed_nonneg am a.moverVel
    have hzero : a.moverVel = 0 → slowed am a.moverVel = 0 := fun h => by
      rw [h]
      exact max_eq_right (by simpa using ham.le)
    rw [moverStep_stopping hs]
    refine ⟨natAbs_signOf_mul h0 hzero, ?_, rfl⟩
    rw [mul_right_comm]
    exact mul_nonneg (signOf_mul_self_nonneg _) h0
  · obtain ⟨hback, hacc, hkeep, hslow⟩ := moverRow_rows (v := v) ham (wayLeft a).natAbs (heading a * a.moverVel)
    refine ⟨towardVel v am a, hback, hacc, hkeep, hslow, fun h0 hle => ?_, fun h => ?_⟩
    · rw [moverStep_moving hv ham hs, stepWith, if_pos ⟨h0, hle⟩]
      exact ⟨rfl, rfl⟩
    · have hn : ¬(0 ≤ towardVel v am a ∧ ((wayLeft a).natAbs : Int) ≤ towardVel v am a) :=
        fun ⟨h0, hle⟩ => h.elim (fun h => absurd h0 (by omega)) fun h => absurd hle (not_le.2 h)
      rw [moverStep_moving hv ham hs, stepWith, if_neg hn]
      exact ⟨rfl, rfl⟩
  · exact Prod.mk.inj (commandStep_blocked hb hr)
  · obtain ⟨hat, hc⟩ := commandStep_free hb hd hr
    obtain ⟨hpos, hvel⟩ := Prod.mk.inj hat
    refine ⟨hpos, hvel, fun hlo hhi => ?_, fun href hw => ?_⟩
    · rw [hc, position, if_pos ⟨hlo, hhi⟩, clampWindow]
      rfl
    · rw [hc, clampWindow, if_pos href]
      exact clampInt_bounds hw _

end Sys2Proof.Machine
end

section
/-! PROOF. Limit inputs, axis clamps and the requests to them at a tick (R113 to R115, R122), with O49. -/

namespace Sys2Proof.Machine

-- The text is checked as one file under a data limit that many waiting threads would exceed.
set_option Elab.async false

/-! ### Limit inputs (R113) -/

section
variable {c : Chan} {side other : Side} {n : Node}

@[simp] theorem limitPin_setLimitPin (side : Side) (b : Bool) (p : AxisPins) :
    limitPin side (setLimitPin side b p) = b := by cases side <;> rfl

theorem limitMark_setMark (side other : Side) (b : Bool) (a : Axis) :
    limitMark other (setMark side b a) = if other = side then b else limitMark other a := by
  cases side <;> cases other <;> rfl

theorem limitTest_raises (hp : limitPin side (axPins c n.pins) = true) (hm : limitMark side (getAx c n) = false) :
    limitTest c side n = raiseStop .hardLimit (chanNumber c) (onAx c (setMark side true) n) := by
  simp [limitTest, hp, hm]

theorem limitTest_marked (hp : limitPin side (axPins c n.pins) = true) (hm : limitMark side (getAx c n) = true) :
    limitTest c side n = n := by simp [limitTest, hp, hm]

theorem limitTest_clears (hp : limitPin side (axPins c n.pins) = false) :
    limitTest c side n = onAx c (setMark side false) n := by simp [limitTest, hp]

/-- The latch leaves the limit marks. -/
theorem raisedLimit_marks (c : Chan) (side other : Side) (n : Node) :
    limitMark other (getAx c (raiseStop .hardLimit (chanNumber c) (onAx c (setMark side true) n))) =
      if other = side then true else limitMark other (getAx c n) := by
  rw [(raiseStop_latchMay c _ _ _).stands (limitMark other) (by cases other <;> rfl), getAx_onAx, limitMark_setMark]

variable {s : State} {p : AxisParams} (hl : loaded s.node = true) (hp : axParams c s.node = some p)
include hl hp

theorem limitActive_completes (hne : side ≠ other) : completes (.limitActive c side) s (fun t =>
    limitMark side (getAx c t) = true ∧ limitMark other (getAx c t) = limitMark other (getAx c s.node) ∧
    (limitMark side (getAx c s.node) = false → condIn .hardLimit t.cu.own = true ∧ t.cu.stopped = true ∧
      onlyChanges (.pins :: stopParts) s.node t) ∧
    (limitMark side (getAx c s.node) = true → onlyChanges [.pins] s.node t)) := by
  refine completes_axEvent_at (f := fun _ n => limitTest c side (onAxPins c (setLimitPin side true) n)) rfl hl hp ?_
  have ho := onAxPins_only c (setLimitPin side true) s.node
  have hpin : limitPin side (axPins c (onAxPins c (setLimitPin side true) s.node).pins) = true := by
    rw [axPins_onAxPins, limitPin_setLimitPin]
  have hax := getAx_onAxPins c c (setLimitPin side true) s.node
  cases hm : limitMark side (getAx c s.node) with
  | false =>
    have hmarks (x : Side) := raisedLimit_marks c side x (onAxPins c (setLimitPin side true) s.node)
    rw [limitTest_raises hpin (by rw [hax, hm]), finish_ax, finish_condIn _ (by decide), finish_stopped, hmarks, hmarks,
      if_pos rfl, if_neg hne.symm, hax]
    exact ⟨rfl, rfl, fun _ => ⟨raiseStop_condIn_of_stop _ _ rfl, raiseStop_latched _ _ _, finish_line_only
      (onlyChanges_both ho (onlyChanges_both (onAx_only c _ _) (raiseStop_only _ _ _)
        (by simpa using chanPart_mem_stopParts c) fun _ h => h) (by simp) fun _ h => .tail _ h)⟩, nofun⟩
  | true =>
    rw [limitTest_marked hpin (by rw [hax, hm]), finish_ax, hax]
    exact ⟨hm, rfl, nofun, fun _ => finish_line_only ho⟩

theorem limitInactive_completes (hne : side ≠ other) : completes (.limitInactive c side) s (fun t =>
    limitMark side (getAx c t) = false ∧ limitMark other (getAx c t) = limitMark other (getAx c s.node) ∧
    t.cu.stopped = s.node.cu.stopped ∧ onlyChanges [chanPart c, .pins] s.node t) := by
  refine completes_axEvent_at (f := fun _ n => limitTest c side (onAxPins c (setLimitPin side false) n)) rfl hl hp ?_
  have hpin : limitPin side (axPins c (onAxPins c (setLimitPin side false) s.node).pins) = false := by
    rw [axPins_onAxPins, limitPin_setLimitPin]
  rw [limitTest_clears hpin, finish_ax, getAx_onAx, getAx_onAxPins, limitMark_setMark, limitMark_setMark, if_pos rfl,
    if_neg hne.symm, finish_stopped, onAx_cu]
  exact ⟨rfl, rfl, rfl, finish_line_only
    (onlyChanges_both (onAxPins_only c _ s.node) (onAx_only c _ _) (by simp) (by simp))⟩

/-! ### The clamp's events (R115, R122) -/

/-- An event of a fitted clamp in the state that it speaks of. -/
theorem completes_clampEvent {i : Instr} {k : ClampState} {f : Node → Node} {P : Node → Prop}
    (hi : exec i s = clampEvent c k f s) (hf : p.clampFitted = true) (hk : (getAx c s.node).clamp = k)
    (h : P (finish (f s.node))) : completes i s P := by
  refine completes_axEvent_at
    (f := fun p n => if p.clampFitted = true ∧ (getAx c n).clamp = k then f n else n) hi hl hp ?_
  rwa [if_pos ⟨hf, hk⟩]

/-- In another state, or without a clamp, it changes nothing. -/
theorem clampEvent_passes {i : Instr} {k : ClampState} {f : Node → Node} (hi : exec i s = clampEvent c k f s)
    (h : p.clampFitted = false ∨ (getAx c s.node).clamp ≠ k) : completes i s (fun t => onlyChanges [] s.node t) := by
  refine completes_axEvent_at
    (f := fun p n => if p.clampFitted = true ∧ (getAx c n).clamp = k then f n else n) hi hl hp ?_
  rw [if_neg fun hx => h.elim (fun hf => absurd hx.1 (by simp [hf])) (absurd hx.2)]
  exact finish_only _

/-- A sensor's confirmation. -/
theorem clampConfirms {i : Instr} {k : ClampState} {st : ClampState} {f : AxisPins → AxisPins}
    (hi : exec i s = clampEvent c k (fun n => onAx c (clampTo st) (onAxPins c f n)) s) (hf : p.clampFitted = true)
    (hk : (getAx c s.node).clamp = k) (hst : ¬(st = .unclamping ∨ st = .clamping)) :
    completes i s (fun t =>
      (getAx c t).clamp = st ∧ (getAx c t).clampTimer = 0 ∧ onlyChanges [chanPart c, .pins] s.node t) := by
  refine completes_clampEvent hl hp hi hf hk ?_
  rw [finish_ax, getAx_onAx]
  exact ⟨rfl, if_neg hst, finish_line_only
    (onlyChanges_both (onAxPins_only c f s.node) (onAx_only c _ _) (by simp) (by simp))⟩

end

theorem endJog_clamp (rest : Bool) (a : Axis) :
    (endJog rest a).clamp = a.clamp ∧ (endJog rest a).clampTimer = a.clampTimer ∧
      (endJog rest a).abandoned = a.abandoned ∧ (a.motion = .jog → (endJog rest a).jogAccum = 0) := by
  unfold endJog restIfStill
  split
  · split <;> exact ⟨rfl, rfl, rfl, fun _ => rfl⟩
  · exact ⟨rfl, rfl, rfl, fun h => by contradiction⟩

theorem unclampTimedOut_ax (c : Chan) (n : Node) :
    (getAx c (unclampTimedOut c n)).clamp = .clamping ∧ (getAx c (unclampTimedOut c n)).clampTimer = 2000 ∧
      (getAx c (unclampTimedOut c n)).abandoned = true ∧
      ((getAx c n).motion = .jog → (getAx c (unclampTimedOut c n)).jogAccum = 0) := by
  rw [unclampTimedOut, getAx_onAx]
  exact endJog_clamp _ _

/-! ### The axis needed free (R114) -/

/-- An entry lists the channel's axis with a displacement that is not 0. -/
def Displaces (c : Chan) (e : Entry) : Prop := ∃ f t w, recFor c e = some (.resolved f t w) ∧ f ≠ t

theorem moves_iff (c : Chan) (e : Entry) : moves c e = true ↔ Displaces c e := by
  unfold moves Displaces
  split
  · rename_i f t w h
    simp only [h, bne_iff_ne, Option.some.injEq, AxisRec.resolved.injEq]
    exact ⟨fun hne => ⟨f, t, w, ⟨rfl, rfl, rfl⟩, hne⟩, fun ⟨f', t', w', ⟨h1, h2, _⟩, hne⟩ => h1 ▸ h2 ▸ hne⟩
  · rename_i h
    exact ⟨fun hx => absurd hx (by decide), fun ⟨f, t, w, hr, _⟩ => (h f t w hr).elim⟩

theorem headNeedsFree_iff (c : Chan) (n : Node) : headNeedsFree c n = true ↔
    n.nt.mode = .auto ∧ (getAx c n).abandoned = false ∧ ∃ e, evaluatedHead n = some e ∧
      n.su.node.val ∈ participants e ∧ Displaces c e := by
  unfold headNeedsFree
  cases evaluatedHead n <;> simp [participates, me, moves_iff, and_assoc]

theorem needsFree_iff (c : Chan) (n : Node) : needsFree c n = true ↔
    (n.nt.mode = .auto ∧ (getAx c n).abandoned = false ∧ ∃ e, evaluatedHead n = some e ∧
      n.su.node.val ∈ participants e ∧ Displaces c e) ∨
    (∃ e ∈ n.bq.entries, (e.state = .committed ∨ e.state = .running) ∧ Displaces c e) ∨
    (getAx c n).motion = .jog ∨ (getAx c n).motion = .reference ∨ 0 < (getAx c n).jogRecent := by
  simp only [needsFree, Bool.or_eq_true, headNeedsFree_iff, List.any_eq_true, Bool.and_eq_true, inChain, beq_iff_eq,
    moves_iff, decide_eq_true_eq, or_assoc]

/-! ### The requests at a tick (R114, R115) -/

/-- The clamp of a channel in a state with its timer, and nothing else changed. -/
def ClampBecomes (c : Chan) (n : Node) (state : ClampState) (timer : Nat) (u : Node) : Prop :=
  getAx c u = { getAx c n with clamp := state, clampTimer := timer } ∧ onlyChanges [chanPart c] n u

section
variable (c : Chan) {p : AxisParams} {n : Node}

theorem clampTo_becomes {u : Node} (st : ClampState) (h : u = onAx c (clampTo st) n) :
    ClampBecomes c n st (if st = .unclamping ∨ st = .clamping then 2000 else 0) u :=
  ⟨h ▸ getAx_onAx .., h ▸ onAx_only c _ n⟩

theorem clampCount_becomes {u : Node} {st : ClampState} (hk : (getAx c n).clamp = st) (h : u = clampCount c n) :
    ClampBecomes c n st ((getAx c n).clampTimer - 1) u := by
  subst h hk
  exact ⟨getAx_onAx .., onAx_only c _ n⟩

theorem clampTick_unfitted (h : p.clampFitted = false) : clampTick c p n = n := by simp [clampTick, h]

theorem clampTick_clamped (hf : p.clampFitted = true) (hk : (getAx c n).clamp = .clamped) : clampTick c p n =
    if needsFree c n then onAx c (clampTo .unclamping) n else n := by simp [clampTick, hf, hk]

theorem clampTick_unclamped (hf : p.clampFitted = true) (hk : (getAx c n).clamp = .unclamped) : clampTick c p n =
    if needsFree c n then n else onAx c (clampTo .clamping) n := by simp [clampTick, hf, hk]

theorem clampTick_unclamping (hf : p.clampFitted = true) (hk : (getAx c n).clamp = .unclamping)
    (hs : ¬((axPins c n.pins).unclamped = true ∧ (axPins c n.pins).clamped = false))
    (ht : 1 < (getAx c n).clampTimer) :
    clampTick c p n = if needsFree c n then clampCount c n else onAx c (clampTo .clamping) n := by
  simp [clampTick, hf, hk, hs, ht]

theorem clampTick_clamping (hf : p.clampFitted = true) (hk : (getAx c n).clamp = .clamping)
    (hs : ¬((axPins c n.pins).clamped = true ∧ (axPins c n.pins).unclamped = false))
    (ht : 1 < (getAx c n).clampTimer) :
    clampTick c p n = if needsFree c n then onAx c (clampTo .unclamping) n else clampCount c n := by
  simp [clampTick, hf, hk, hs, ht]

end

/-- Settles O49: limits and clamps event by event, and the tick's request to a clamp by its state. -/
theorem limitAndClampEvents : Obligations.LimitAndClampEvents := by
  unfold Obligations.LimitAndClampEvents
  intro displaces c s p hl hp a
  refine ⟨fun side other hne => ⟨limitActive_completes hl hp hne, limitInactive_completes hl hp hne⟩,
    fun hf hk => ⟨clampConfirms hl hp rfl hf hk (by simp), completes_clampEvent hl hp rfl hf hk ?_⟩,
    fun hf hk => ⟨clampConfirms hl hp rfl hf hk (by simp), completes_clampEvent hl hp rfl hf hk ?_⟩,
    fun h => ⟨clampEvent_passes hl hp rfl h, clampEvent_passes hl hp rfl h⟩,
    fun h => ⟨clampEvent_passes hl hp rfl h, clampEvent_passes hl hp rfl h⟩, ?_⟩
  · obtain ⟨hclamp, htimer, habandoned, haccum⟩ := unclampTimedOut_ax c s.node
    rw [finish_ax]
    exact ⟨hclamp, htimer, habandoned, haccum, finish_line_only (onAx_only c _ s.node)⟩
  · obtain ⟨ha, ho⟩ := finish_onAx c (clampTo .clamped) s.node
    rw [ha]
    exact ⟨rfl, ho⟩
  · intro free pin u becomes unclamps clamps
    have hfree : needsFree c s.node = true ↔ free := needsFree_iff c s.node
    have yes {a b : Node} (h : free) : (if needsFree c s.node = true then a else b) = a := if_pos (hfree.2 h)
    have no {a b : Node} (h : ¬free) : (if needsFree c s.node = true then a else b) = b := if_neg (mt hfree.1 h)
    refine ⟨clampTick_unfitted c, fun hf hk => ?_, fun hf hk => ?_, fun hf hk hs ht => ?_, fun hf hk hs ht => ?_⟩
    · have hu := clampTick_clamped c hf hk
      exact ⟨fun h => clampTo_becomes c .unclamping (hu.trans (yes h)), fun h => hu.trans (no h)⟩
    · have hu := clampTick_unclamped c hf hk
      exact ⟨fun h => clampTo_becomes c .clamping (hu.trans (no h)), fun h => hu.trans (yes h)⟩
    · have hu := clampTick_unclamping c hf hk hs ht
      exact ⟨fun h => clampTo_becomes c .clamping (hu.trans (no h)),
        fun h => clampCount_becomes c hk (hu.trans (yes h))⟩
    · have hu := clampTick_clamping c hf hk hs ht
      exact ⟨fun h => clampTo_becomes c .unclamping (hu.trans (yes h)),
        fun h => clampCount_becomes c hk (hu.trans (no h))⟩

end Sys2Proof.Machine
end

section
/-! PROOF. What the mover's arrival and rest bring to a jog and to a reference sequence, and the start of a sequence
(R116 to R119, R122), with O45 and O46. -/

namespace Sys2Proof.Machine

-- The text is checked as one file under a data limit that many waiting threads would exceed.
set_option Elab.async false

/-! ### The end of a jog (R116, R122) -/

@[simp] theorem chainAtRest_onAx (c : Chan) (f : Axis → Axis) (n : Node) : chainAtRest (onAx c f n) = chainAtRest n := by
  simp [chainAtRest]

/-- The mover at its target, with the commanded position that it gives. -/
theorem arriveMover_eq (p : AxisParams) (a : Axis) : arriveMover p a =
    { a with moverPos := a.moverTarget * 65536, moverVel := 0,
             commanded := clampWindow p a (position a.moverTarget) } := by
  have h : roundDiv (a.moverTarget * q16) q16 = a.moverTarget := roundDiv_full (by decide) _
  simp only [arriveMover, moverCommand, h]
  rfl

/-- A jog at its end: the commanded position, no accumulator, a mover that stands, and the motion state after it. -/
structure JogOver (rest : Bool) (commanded : Int) (b : Axis) : Prop where
  commanded : b.commanded = commanded
  accum : b.jogAccum = 0
  vel : b.moverVel = 0
  motion : b.motion = idleMotion rest

section
variable {p : AxisParams} {a : Axis} (rest : Bool)

theorem jogDone_over (h0 : a.jogAccum = 0) (hv : a.moverVel = 0)
    (hat : a.moverStop = true ∨ a.moverPos = a.moverTarget * 65536) : JogOver rest a.commanded (jogDone rest a) := by
  have hr : moverAtRest a = true := by simp [moverAtRest, hv, hat, q16]
  rw [jogDone, if_pos ⟨h0, hr⟩]
  exact ⟨rfl, h0, hv, rfl⟩

/-- Where the window does not move the jog target, the mover that arrives there ends the jog. -/
theorem jogArrives_over (he : a.jogEnding = false) (ht : a.moverTarget = a.jogTarget)
    (hw : clampWindow p a (position a.jogTarget) = a.jogTarget) :
    JogOver rest a.jogTarget (jogDone rest (jogFollow (arriveMover p a))) := by
  have hfollow : jogFollow (arriveMover p a) = { arriveMover p a with jogAccum := 0 } := by
    rw [jogFollow, arriveMover_eq, ht, hw, if_neg (by simp [he])]
    simp [clampInt, jogLimit]
  have hc : (arriveMover p a).commanded = a.jogTarget := by rw [arriveMover_eq, ht, hw]
  rw [hfollow, ← hc]
  refine jogDone_over rest (a := { arriveMover p a with jogAccum := 0 }) rfl ?_ (.inr ?_)
  · rw [arriveMover_eq]
  · rw [arriveMover_eq]

/-- A jog ended early is over where its stopped mover stands. -/
theorem jogRests_over (he : a.jogEnding = true) (hs : a.moverStop = true) :
    JogOver rest a.commanded (jogDone rest (jogFollow (stillMover a))) := by
  have hfollow : jogFollow (stillMover a) = { stillMover a with jogTarget := a.commanded, jogAccum := 0 } :=
    if_pos he
  rw [hfollow]
  exact jogDone_over rest (a := { stillMover a with jogTarget := a.commanded, jogAccum := 0 }) rfl rfl (.inl hs)

end

section
variable {c : Chan} {p : AxisParams} {n : Node}

theorem moverArrives_jog (hs : (getAx c n).moverStop = false) (hf : moverFree p (getAx c n) = true)
    (hm : (getAx c n).motion = .jog) :
    moverArrives c p n = onAx c (fun x => jogDone (chainAtRest n) (jogFollow (arriveMover p x))) n := by
  simp [moverArrives, hs, hf, hm]

theorem moverRests_jog (hs : (getAx c n).moverStop = true) (hm : (getAx c n).motion = .jog) :
    moverRests c p n = onAx c (fun x => jogDone (chainAtRest n) (jogFollow (stillMover x))) n := by
  simp [moverRests, hs, hm]

end

/-- Settles O46: the two rows end the jog, whose motion state follows the chain. -/
theorem moverEndsAJog : Obligations.MoverEndsAJog := by
  unfold Obligations.MoverEndsAJog
  refine fun c s p hl hp hm => ⟨fun hs hf he ht hw => ?_, fun hs he => ?_⟩
  · refine completes_axEvent_at (f := moverArrives c) rfl hl hp ?_
    rw [moverArrives_jog hs hf hm]
    obtain ⟨ha, ho⟩ := finish_onAx c (fun x => jogDone (chainAtRest s.node) (jogFollow (arriveMover p x))) s.node
    have hover := jogArrives_over (p := p) (chainAtRest s.node) he ht hw
    rw [ha]
    exact ⟨hover.commanded, hover.accum, hover.vel, hover.motion, ho⟩
  · refine completes_axEvent_at (f := moverRests c) rfl hl hp ?_
    rw [moverRests_jog hs hm]
    obtain ⟨ha, ho⟩ := finish_onAx c (fun x => jogDone (chainAtRest s.node) (jogFollow (stillMover x))) s.node
    have hover := jogRests_over (chainAtRest s.node) he hs
    rw [ha]
    exact ⟨hover.commanded, hover.accum, hover.vel, hover.motion, ho⟩

/-! ### The sequence starts (R117) -/

section
variable {c : Chan} {p : AxisParams} {n : Node}

theorem toChannel_at {axis : Byte} {f : Chan → AxisParams → Node → Node} (h : chanOf axis.toNat n = some (c, p)) :
    toChannel axis f n = f c p n := by simp [toChannel, h]

theorem acceptReference_starts (h : refAllowed c n = true) : acceptReference c p n =
    onAx c (refStart p (axPins c n.pins).refSwitch) (clearCond .refFailed n) := if_pos h

/-- A REFERENCE that finds no channel whose conditions hold passes over the node. -/
theorem acceptReference_passes {axis : Byte}
    (h : ∀ c p, chanOf axis.toNat n = some (c, p) → refAllowed c n = false) :
    toChannel axis acceptReference n = n := by
  unfold toChannel
  split
  · rename_i c p hc
    exact if_neg (by simp [h c p hc])
  · rfl

/-! ### The phases (R118, R119) -/

theorem phaseTarget_backOff (p : AxisParams) (x : Int) :
    phaseTarget p .backOff x = x - (if p.searchMinus then -1 else 1) * p.backOff := rfl

theorem switchActive_marks {a : Axis} (h : a.motion = .reference) :
    (switchActive a).moverStop = (a.moverStop || a.ref == .seekSwitch) ∧
      (switchActive a).switchSeen = (a.switchSeen || a.ref == .seekMark) := by
  unfold switchActive
  rw [if_pos h]
  split
  · rename_i hr
    simp [hr]
  · rename_i hr
    simp [hr]
  · rename_i hs hm
    simp [show a.ref ≠ .seekSwitch from hs, show a.ref ≠ .seekMark from hm]

theorem markEdge_loads {a : Axis} (hm : a.motion = .reference) (hr : a.ref = .seekMark) (hs : a.switchSeen = true)
    (hl : a.markLoaded = false) : markEdge p a =
      { a with count := markCount p, markLoaded := true, moverStop := true,
               markShift := a.markShift + (actualOf p (markCount p) - actualOf p a.count) } :=
  if_pos ⟨hm, hr, hs, hl⟩

theorem moverRests_reference (hs : (getAx c n).moverStop = true) (hm : (getAx c n).motion = .reference) :
    moverRests c p n = phaseStopped c p (onAx c stillMover n) := by simp [moverRests, hs, hm]

theorem phaseStopped_seekSwitch (h : (getAx c n).ref = .seekSwitch) :
    phaseStopped c p n = onAx c (beginPhase p .backOff) n := by simp [phaseStopped, h]

theorem phaseStopped_seekMark (h : (getAx c n).ref = .seekMark) : phaseStopped c p n = endTest c p n := by
  simp [phaseStopped, h]

theorem moverArrives_reference (hs : (getAx c n).moverStop = false) (hf : moverFree p (getAx c n) = true)
    (hm : (getAx c n).motion = .reference) :
    moverArrives c p n = phaseArrived c p (onAx c (arriveMover p) n) := by simp [moverArrives, hs, hf, hm]

theorem phaseArrived_left (h : (getAx c n).ref = .backOff) (hs : (axPins c n.pins).refSwitch = false) :
    phaseArrived c p n = onAx c (beginPhase p .seekMark) n := by simp [phaseArrived, h, hs]

/-- A phase whose mover arrives with the switch as it must not be. -/
theorem phaseArrived_fails (h : (getAx c n).ref = .seekSwitch ∨ (getAx c n).ref = .seekMark ∨
    ((getAx c n).ref = .backOff ∧ (axPins c n.pins).refSwitch = true)) : phaseArrived c p n = refFailed c n := by
  unfold phaseArrived
  rcases h with h | h | ⟨h, hs⟩
  · rw [h]
  · rw [h]
  · rw [h]
    exact if_pos hs

/-! ### The failed sequence (R118) -/

theorem refFailed_getAx (c : Chan) (n : Node) :
    getAx c (refFailed c n) = refOver (chainAtRest n) .failed (getAx c n) := by
  rw [refFailed, getAx_of_only (raiseWarn_only _ _ _) (by cases c <;> simp [chanPart]), getAx_onAx]

theorem refFailed_condIn (c : Chan) (n : Node) : condIn .refFailed (refFailed c n).cu.own = true := by
  rw [refFailed, raiseWarn_condIn _ _ _ (by decide)]
  simp

theorem refFailed_only (c : Chan) (n : Node) : onlyChanges [chanPart c, .conds] n (refFailed c n) :=
  onlyChanges_both (onAx_only c _ n) (raiseWarn_only _ _ _) (by simp) (by simp)

/-! ### The end test (R119) -/

/-- The end test reads nothing of the mover. -/
theorem trackingRead_still (p : AxisParams) (a : Axis) : (trackingRead p (stillMover a)).2.1 = (trackingRead p a).2.1 := by
  unfold trackingRead correctionRead
  dsimp only
  split
  · rfl
  · rw [apply_ite Prod.snd, apply_ite Prod.snd]
    rfl

/-- The channel before the end test's outcome. -/
theorem endTest_commanded (c : Chan) (p : AxisParams) (n : Node) :
    (getAx c (raiseParity c (trackingRead p (getAx c n)).2.2 (setAx c (trackingRead p (getAx c n)).1 n))).commanded =
      (getAx c n).commanded := by
  rw [(raiseParity_latchMay c c _ _).stands Axis.commanded rfl, getAx_setAx]
  exact trackingRead_stands Axis.commanded (fun _ _ => rfl) p _

theorem endTest_inside (h : p.winLow ≤ (trackingRead p (getAx c n)).2.1 ∧ (trackingRead p (getAx c n)).2.1 ≤ p.winHigh) :
    (getAx c (endTest c p n)).ref = .done ∧ (getAx c (endTest c p n)).referenced = true ∧
      (getAx c (endTest c p n)).commanded = (trackingRead p (getAx c n)).2.1 := by
  rw [endTest, if_pos h, getAx_onAx]
  exact ⟨rfl, rfl, rfl⟩

theorem endTest_outside (h : (trackingRead p (getAx c n)).2.1 < p.winLow ∨ p.winHigh < (trackingRead p (getAx c n)).2.1) :
    (getAx c (endTest c p n)).ref = .failed ∧ (getAx c (endTest c p n)).commanded = (getAx c n).commanded ∧
      condIn .refFailed (endTest c p n).cu.own = true := by
  rw [endTest, if_neg (by omega)]
  refine ⟨?_, ?_, refFailed_condIn _ _⟩
  · rw [refFailed_getAx]
    rfl
  · rw [refFailed_getAx]
    exact endTest_commanded c p n

end

/-! ### The rows -/

theorem reference_frame (rx : Rx) (axis : Byte) (s : State) : frameCompletes (.reference rx axis) rx s (fun m t =>
    (∀ c p, chanOf axis.toNat m = some (c, p) → refAllowed c m = true →
      (getAx c t).motion = .reference ∧ (getAx c t).referenced = false ∧
      (getAx c t).commanded = (getAx c m).actual ∧ (getAx c t).moverVel = 0 ∧
      (getAx c t).ref = (if (axPins c m.pins).refSwitch then .backOff else .seekSwitch) ∧
      condIn .refFailed t.cu.own = false ∧ onlyChanges [chanPart c, .conds] m t) ∧
    ((∀ c p, chanOf axis.toNat m = some (c, p) → refAllowed c m = false) → onlyChanges [] m t)) := by
  refine frameCompletes_of (unit := fun _ n => toChannel axis acceptReference n) rfl ?_
  generalize accepted rx s.node = m
  refine ⟨fun c p hc ha => ?_, fun h => ?_⟩
  · rw [toChannel_at hc, acceptReference_starts ha, finish_ax, getAx_onAx,
      getAx_of_only (clearCond_only .refFailed m) (by cases c <;> simp [chanPart])]
    refine ⟨rfl, rfl, rfl, rfl, rfl, ?_, finish_line_only
      (onlyChanges_both (clearCond_only _ m) (onAx_only c _ _) (by simp) (by simp))⟩
    rw [finish_condIn _ (by decide), onAx_cu, clearCond_condIn]
    simp
  · rw [acceptReference_passes h]
    exact finish_only m

section
variable {c : Chan} {s : State} {p : AxisParams}
variable (hl : loaded s.node = true) (hp : axParams c s.node = some p) (hm : (getAx c s.node).motion = .reference)
include hl hp hm

theorem referenceSwitch_completes : completes (.referenceSwitchActive c) s (fun t =>
    (getAx c t).moverStop = ((getAx c s.node).moverStop || (getAx c s.node).ref == .seekSwitch) ∧
    (getAx c t).switchSeen = ((getAx c s.node).switchSeen || (getAx c s.node).ref == .seekMark) ∧
    onlyChanges [chanPart c, .pins] s.node t) := by
  refine completes_axEvent_at (f := fun _ n => onAx c switchActive (onAxPins c (fun x => { x with refSwitch := true }) n))
    rfl hl hp ?_
  obtain ⟨hstop, hseen⟩ := switchActive_marks hm
  rw [finish_ax, getAx_onAx, getAx_onAxPins]
  exact ⟨hstop, hseen, finish_line_only (onlyChanges_both (onAxPins_only c _ s.node) (onAx_only c _ _) (by simp) (by simp))⟩

theorem markEdge_completes (hr : (getAx c s.node).ref = .seekMark) (hs : (getAx c s.node).switchSeen = true)
    (hload : (getAx c s.node).markLoaded = false) : completes (.markEdge c) s (fun t =>
      (getAx c t).count = wrap48 (ceilDiv (p.refPos * p.den) p.num) ∧ (getAx c t).moverStop = true ∧
      (getAx c t).markLoaded = true ∧ onlyChanges [chanPart c] s.node t) := by
  refine completes_axEvent_at (f := fun p n => onAx c (markEdge p) n) rfl hl hp ?_
  obtain ⟨ha, ho⟩ := finish_onAx c (markEdge p) s.node
  rw [ha, markEdge_loads hm hr hs hload]
  exact ⟨rfl, rfl, rfl, ho⟩

theorem searchStopped_completes (hs : (getAx c s.node).moverStop = true) (hr : (getAx c s.node).ref = .seekSwitch) :
    completes (.moverAtRest c) s (fun t =>
      (getAx c t).ref = .backOff ∧ (getAx c t).motion = .reference ∧
      (getAx c t).moverStop = false ∧ (getAx c t).moverVel = 0 ∧
      (getAx c t).moverTarget = (getAx c s.node).commanded - (if p.searchMinus then -1 else 1) * p.backOff ∧
      onlyChanges [chanPart c] s.node t) := by
  refine completes_axEvent_at (f := moverRests c) rfl hl hp ?_
  rw [moverRests_reference hs hm, phaseStopped_seekSwitch (by rw [getAx_onAx]; exact hr), finish_ax, getAx_onAx,
    getAx_onAx]
  exact ⟨rfl, hm, rfl, rfl, phaseTarget_backOff p _, finish_line_only
    (onlyChanges_trans (onAx_only c stillMover s.node) (onAx_only c _ _))⟩

theorem markStopped_completes (hs : (getAx c s.node).moverStop = true) (hr : (getAx c s.node).ref = .seekMark) :
    completes (.moverAtRest c) s (fun t =>
      let x := (trackingRead p (getAx c s.node)).2.1
      (p.winLow ≤ x ∧ x ≤ p.winHigh →
        (getAx c t).ref = .done ∧ (getAx c t).referenced = true ∧ (getAx c t).commanded = x) ∧
      (x < p.winLow ∨ p.winHigh < x →
        (getAx c t).ref = .failed ∧ (getAx c t).commanded = (getAx c s.node).commanded ∧
        condIn .refFailed t.cu.own = true)) := by
  refine completes_axEvent_at (f := moverRests c) rfl hl hp ?_
  have hstill : getAx c (onAx c stillMover s.node) = stillMover (getAx c s.node) := getAx_onAx ..
  have hx : (trackingRead p (getAx c (onAx c stillMover s.node))).2.1 = (trackingRead p (getAx c s.node)).2.1 := by
    rw [hstill, trackingRead_still]
  rw [moverRests_reference hs hm, phaseStopped_seekMark (by rw [hstill]; exact hr)]
  dsimp only
  rw [finish_ax, finish_condIn _ (by decide), ← hx]
  refine ⟨endTest_inside, fun h => ?_⟩
  obtain ⟨href, hc, hcond⟩ := endTest_outside h
  exact ⟨href, hc.trans (by rw [hstill]; rfl), hcond⟩

theorem phaseArrived_completes (hs : (getAx c s.node).moverStop = false) (hf : moverFree p (getAx c s.node) = true) :
    ((getAx c s.node).ref = .backOff → (axPins c s.node.pins).refSwitch = false →
      completes (.moverArrive c) s (fun t =>
        (getAx c t).ref = .seekMark ∧ (getAx c t).motion = .reference ∧
        (getAx c t).moverVel = 0 ∧ (getAx c t).switchSeen = false ∧ onlyChanges [chanPart c] s.node t)) ∧
    ((getAx c s.node).ref = .seekSwitch ∨ (getAx c s.node).ref = .seekMark ∨
        ((getAx c s.node).ref = .backOff ∧ (axPins c s.node.pins).refSwitch = true) →
      completes (.moverArrive c) s (fun t =>
        (getAx c t).ref = .failed ∧ condIn .refFailed t.cu.own = true ∧
        (getAx c t).motion = (if chainAtRest s.node then .idle else .chain) ∧
        onlyChanges [chanPart c, .conds] s.node t)) := by
  have harrive : getAx c (onAx c (arriveMover p) s.node) = arriveMover p (getAx c s.node) := getAx_onAx ..
  have href : (getAx c (onAx c (arriveMover p) s.node)).ref = (getAx c s.node).ref := by rw [harrive, arriveMover_eq]
  have hpins : (onAx c (arriveMover p) s.node).pins = s.node.pins := onAx_pins ..
  refine ⟨fun hr hsw => ?_, fun hr => ?_⟩
  · refine completes_axEvent_at (f := moverArrives c) rfl hl hp ?_
    rw [moverArrives_reference hs hf hm, phaseArrived_left (by rw [href, hr]) (by rw [hpins, hsw]), finish_ax,
      getAx_onAx, harrive, arriveMover_eq]
    exact ⟨rfl, hm, rfl, rfl, finish_line_only
      (onlyChanges_trans (onAx_only c (arriveMover p) s.node) (onAx_only c _ _))⟩
  · refine completes_axEvent_at (f := moverArrives c) rfl hl hp ?_
    rw [moverArrives_reference hs hf hm, phaseArrived_fails (by rwa [href, hpins]), finish_ax, refFailed_getAx,
      finish_condIn _ (by decide), refFailed_condIn, chainAtRest_onAx]
    exact ⟨rfl, rfl, rfl, finish_line_only
      (onlyChanges_both (onAx_only c (arriveMover p) s.node) (refFailed_only c _) (by simp) (by simp))⟩

end

/-- Settles O45: each row of the sequence by itself. -/
theorem referenceSequence : Obligations.ReferenceSequence := by
  unfold Obligations.ReferenceSequence
  exact ⟨reference_frame, fun c s p hl hp hm => ⟨referenceSwitch_completes hl hp hm,
    markEdge_completes hl hp hm, searchStopped_completes hl hp hm, markStopped_completes hl hp hm,
    phaseArrived_completes hl hp hm⟩⟩

end Sys2Proof.Machine
end

section
/-! PROOF. A JOG at its channel: the segments of the map on the way to its target, and what the channel takes (R106,
R120, R121), with O44. -/

namespace Sys2Proof.Machine

-- The text is checked as one file under a data limit that many waiting threads would exceed.
set_option Elab.async false

/-! ### The cells of the map (R106) -/

section
variable {seg : Nat} {a : Axis}

/-- A segment's start lies in the cell after it, and the position before it in the cell before. -/
theorem compCell_at_border (hseg : 0 < seg) {k : Nat} (hk : k ≤ compLast a) :
    compCell seg a (k * seg : Nat) = k + 1 ∧ compCell seg a ((k * seg : Nat) - 1) = k := by
  have hle : k * seg ≤ compLast a * seg := Nat.mul_le_mul_right seg hk
  constructor
  · rcases Nat.eq_or_lt_of_le hk with rfl | hlt
    · exact compCell_beyond (by omega) (by push_cast; exact le_rfl)
    · exact compCell_segment_start hseg hlt
  · cases k with
    | zero => exact compCell_below (by simp)
    | succ j =>
      have hnext : (j + 1) * seg = j * seg + seg := Nat.succ_mul j seg
      rw [compCell_within (by omega) (by rw [← Nat.cast_mul]; omega)]
      refine congrArg (· + 1) (Nat.div_eq_of_lt_le ?_ ?_)
      · omega
      · rw [hnext]
        omega

/-- The border between the cells k and k + 1. -/
theorem compCell_le_iff (hseg : 0 < seg) {k : Nat} (hk : k ≤ compLast a) (x : Int) :
    compCell seg a x ≤ k ↔ x < (k * seg : Nat) := by
  obtain ⟨hat, hbefore⟩ := compCell_at_border hseg hk
  constructor
  · refine fun h => not_le.1 fun hx => ?_
    have := compCell_mono (a := a) hseg hx
    omega
  · intro hx
    have := compCell_mono (a := a) hseg (show x ≤ (k * seg : Nat) - 1 by omega)
    omega

end

/-! ### The first invalid segment behind a valid one (R121) -/

/-- Going up from cell `lo`, below `hi`, no invalid cell comes after a valid one. -/
def StaysValidUp (a : Axis) (lo hi : Nat) : Prop :=
  ∀ i j, lo ≤ i → i ≤ j → j < hi → cellValid a i = true → cellValid a j = true

/-- Going down from cell `hi` to cell `lo`, no invalid cell comes after a valid one. -/
def StaysValidDown (a : Axis) (lo hi : Nat) : Prop :=
  ∀ i j, lo ≤ j → j ≤ i → i ≤ hi → cellValid a i = true → cellValid a j = true

section
variable {a : Axis}

theorem staysValidUp_one (a : Axis) (k : Nat) : StaysValidUp a k (k + 1) := by
  intro i j hi hij hj h
  rwa [show j = i by omega]

theorem StaysValidUp.below {k hi : Nat} (h : StaysValidUp a (k + 1) hi)
    (hk : cellValid a k = true → cellValid a (k + 1) = true) : StaysValidUp a k hi := by
  intro i j hi hij hj hv
  rcases Nat.eq_or_lt_of_le hi with rfl | hlt
  · rcases Nat.eq_or_lt_of_le hij with rfl | hij
    · exact hv
    · exact h (k + 1) j le_rfl hij hj (hk hv)
  · exact h i j hlt hij hj hv

theorem staysValidDown_one (a : Axis) (k : Nat) : StaysValidDown a k k := by
  intro i j hj hij hi h
  rwa [show j = i by omega]

theorem StaysValidDown.above {k lo : Nat} (h : StaysValidDown a lo k)
    (hk : cellValid a (k + 1) = true → cellValid a k = true) : StaysValidDown a lo (k + 1) := by
  intro i j hj hij hi hv
  rcases Nat.eq_or_lt_of_le hi with rfl | hlt
  · rcases Nat.eq_or_lt_of_le hij with rfl | hij
    · exact hv
    · exact h k j hj (by omega) le_rfl (hk hv)
  · exact h i j hj hij (by omega) hv

/-- What the search up from a cell over the next n finds. -/
theorem gapUp_cases (a : Axis) (n : Nat) : ∀ k,
    (gapUp a (cellValid a k) (k + 1) n = none ∧ StaysValidUp a k (k + n + 1)) ∨
    (∃ j, gapUp a (cellValid a k) (k + 1) n = some (j + 1) ∧ k ≤ j ∧ j < k + n ∧
      cellValid a j = true ∧ cellValid a (j + 1) = false ∧ StaysValidUp a k (j + 1)) := by
  induction n with
  | zero => exact fun k => .inl ⟨rfl, staysValidUp_one a k⟩
  | succ n ih =>
    intro k
    have hrest (hk : cellValid a k = true → cellValid a (k + 1) = true)
        (he : gapUp a (cellValid a k) (k + 1) (n + 1) = gapUp a (cellValid a (k + 1)) (k + 1 + 1) n) :
        (gapUp a (cellValid a k) (k + 1) (n + 1) = none ∧ StaysValidUp a k (k + (n + 1) + 1)) ∨
        (∃ j, gapUp a (cellValid a k) (k + 1) (n + 1) = some (j + 1) ∧ k ≤ j ∧ j < k + (n + 1) ∧
          cellValid a j = true ∧ cellValid a (j + 1) = false ∧ StaysValidUp a k (j + 1)) := by
      rw [he]
      rcases ih (k + 1) with ⟨hn, hs⟩ | ⟨j, hj, hkj, hjn, hv, hi, hs⟩
      · exact .inl ⟨hn, .below (by rwa [show k + (n + 1) + 1 = k + 1 + n + 1 by omega]) hk⟩
      · exact .inr ⟨j, hj, by omega, by omega, hv, hi, hs.below hk⟩
    cases hnext : cellValid a (k + 1) with
    | true => exact hrest (fun _ => hnext) (by simp [gapUp, hnext])
    | false =>
      cases hk : cellValid a k with
      | true => exact .inr ⟨k, by simp [gapUp, hnext], le_rfl, by omega, hk, hnext, staysValidUp_one a k⟩
      | false =>
        rw [hk, hnext] at hrest
        exact hrest (fun h => absurd h (by decide)) (by simp [gapUp, hnext])

/-- What the search down from a cell over the next n finds. -/
theorem gapDown_cases (a : Axis) (n : Nat) : ∀ k,
    (gapDown a (cellValid a (k + n)) (k + n - 1) n = none ∧ StaysValidDown a k (k + n)) ∨
    (∃ j, gapDown a (cellValid a (k + n)) (k + n - 1) n = some j ∧ k ≤ j ∧ j < k + n ∧
      cellValid a (j + 1) = true ∧ cellValid a j = false ∧ StaysValidDown a (j + 1) (k + n)) := by
  induction n with
  | zero => exact fun k => .inl ⟨rfl, staysValidDown_one a k⟩
  | succ n ih =>
    intro k
    rw [← Nat.add_assoc, Nat.add_sub_cancel]
    have hrest (hk : cellValid a (k + n + 1) = true → cellValid a (k + n) = true)
        (he : gapDown a (cellValid a (k + n + 1)) (k + n) (n + 1) = gapDown a (cellValid a (k + n)) (k + n - 1) n) :
        (gapDown a (cellValid a (k + n + 1)) (k + n) (n + 1) = none ∧ StaysValidDown a k (k + n + 1)) ∨
        (∃ j, gapDown a (cellValid a (k + n + 1)) (k + n) (n + 1) = some j ∧ k ≤ j ∧ j < k + n + 1 ∧
          cellValid a (j + 1) = true ∧ cellValid a j = false ∧ StaysValidDown a (j + 1) (k + n + 1)) := by
      rw [he]
      rcases ih k with ⟨hn, hs⟩ | ⟨j, hj, hkj, hjn, hv, hi, hs⟩
      · exact .inl ⟨hn, hs.above hk⟩
      · exact .inr ⟨j, hj, hkj, by omega, hv, hi, hs.above hk⟩
    cases hnext : cellValid a (k + n) with
    | true => exact hrest (fun _ => hnext) (by simp [gapDown, hnext])
    | false =>
      cases hk : cellValid a (k + n + 1) with
      | true => exact .inr ⟨k + n, by simp [gapDown, hnext], by omega, by omega, hk, hnext, staysValidDown_one a _⟩
      | false =>
        rw [hk, hnext] at hrest
        exact hrest (fun h => absurd h (by decide)) (by simp [gapDown, hnext])

end

/-! ### The jog target (R121) -/

/-- A position lies in a valid segment, or the channel has no map. -/
def PosValid (p : AxisParams) (a : Axis) (q : Int) : Prop :=
  ∀ seg, p.seg = some seg → cellValid a (compCell seg a (q - p.compOrigin)) = true

/-- A target upward that stops at the last position before the first invalid segment behind a valid one. -/
structure StopsUp (p : AxisParams) (a : Axis) (c goal t : Int) : Prop where
  start : c ≤ t
  upTo : t ≤ goal
  stays : ∀ q r, c ≤ q → q ≤ r → r ≤ t → PosValid p a q → PosValid p a r
  next : t ≠ goal → PosValid p a t ∧ ¬PosValid p a (t + 1)

/-- The same downward. -/
structure StopsDown (p : AxisParams) (a : Axis) (c goal t : Int) : Prop where
  downTo : goal ≤ t
  start : t ≤ c
  stays : ∀ q r, t ≤ r → r ≤ q → q ≤ c → PosValid p a q → PosValid p a r
  next : t ≠ goal → PosValid p a t ∧ ¬PosValid p a (t - 1)

section
variable {p : AxisParams} {a : Axis} {c t : Int}

theorem posValid_iff {seg : Nat} (hs : p.seg = some seg) (q : Int) :
    PosValid p a q ↔ cellValid a (compCell seg a (q - p.compOrigin)) = true := by simp [PosValid, hs]

theorem cellStart_succ (p : AxisParams) (seg k : Nat) : cellStart p seg (k + 1) = p.compOrigin + (k * seg : Nat) := by
  simp [cellStart]

theorem clampToGap_unmapped (hs : p.seg = none) (c t : Int) : clampToGap p a c t = t := by simp [clampToGap, hs]

/-- The search upward and the target it gives. -/
theorem clampToGap_up {seg : Nat} {g : Option Nat} (hs : p.seg = some seg) (hct : c ≤ t)
    (hg : gapUp a (cellValid a (cellOf p seg a c)) (cellOf p seg a c + 1) (cellOf p seg a t - cellOf p seg a c) = g) :
    clampToGap p a c t = g.elim t fun k => cellStart p seg k - 1 := by
  simp only [clampToGap, hs, if_pos hct, hg]
  cases g <;> rfl

/-- The search downward and the target it gives. -/
theorem clampToGap_down {seg : Nat} {g : Option Nat} (hs : p.seg = some seg) (hct : t < c)
    (hg : gapDown a (cellValid a (cellOf p seg a c)) (cellOf p seg a c - 1) (cellOf p seg a c - cellOf p seg a t) = g) :
    clampToGap p a c t = g.elim t fun k => cellStart p seg (k + 1) := by
  simp only [clampToGap, hs, if_neg (not_le.2 hct), hg]
  cases g <;> rfl

theorem clampToGap_stopsUp (hseg : ∀ seg, p.seg = some seg → 0 < seg) (hct : c ≤ t) :
    StopsUp p a c t (clampToGap p a c t) := by
  cases hs : p.seg with
  | none =>
    rw [clampToGap_unmapped hs]
    exact ⟨hct, le_rfl, fun q r _ _ _ _ seg h => by simp [hs] at h, fun h => absurd rfl h⟩
  | some seg =>
    have hpos := hseg seg hs
    have hmono {x y : Int} (h : x ≤ y) : cellOf p seg a x ≤ cellOf p seg a y := compCell_mono hpos (by omega)
    have hkt := hmono hct
    have hlast : cellOf p seg a t ≤ compLast a + 1 := compCell_le_last hpos _
    obtain ⟨d, hd⟩ : ∃ d, cellOf p seg a t = cellOf p seg a c + d := ⟨_, (Nat.add_sub_cancel' hkt).symm⟩
    have hgap := fun g => clampToGap_up (g := g) (a := a) hs hct
    rw [hd, Nat.add_sub_cancel_left] at hgap
    have hstays {t' : Int} (h : StaysValidUp a (cellOf p seg a c) (cellOf p seg a t' + 1)) (q r : Int) (hq : c ≤ q)
        (hqr : q ≤ r) (hr : r ≤ t') (hv : PosValid p a q) : PosValid p a r := by
      rw [posValid_iff hs] at hv ⊢
      exact h _ _ (hmono hq) (hmono hqr) (Nat.lt_succ_of_le (hmono hr)) hv
    rcases gapUp_cases a d (cellOf p seg a c) with ⟨hn, hs'⟩ | ⟨j, hj, hkj, hjn, hv, hi, hs'⟩
    · rw [hgap _ hn, Option.elim_none]
      exact ⟨hct, le_rfl, hstays (by rwa [hd]), fun h => absurd rfl h⟩
    · rw [hgap _ hj, Option.elim_some, cellStart_succ]
      obtain ⟨hat, hbefore⟩ := compCell_at_border (a := a) hpos (k := j) (by omega)
      have hbelow := compCell_le_iff (a := a) hpos (k := j) (by omega)
      have hcell : cellOf p seg a (p.compOrigin + (j * seg : Nat) - 1) = j := by
        rw [cellOf, show p.compOrigin + ((j * seg : Nat) : Int) - 1 - p.compOrigin = (j * seg : Nat) - 1 by omega,
          hbefore]
      have hc := (hbelow (c - p.compOrigin)).1 hkj
      have ht := mt (hbelow (t - p.compOrigin)).2 (by change ¬cellOf p seg a t ≤ j; omega)
      refine ⟨by omega, by omega, hstays (by rwa [hcell]), fun _ => ⟨?_, ?_⟩⟩
      · rw [posValid_iff hs]
        exact (congrArg (cellValid a) hcell).trans hv
      · rw [posValid_iff hs, show p.compOrigin + ((j * seg : Nat) : Int) - 1 + 1 - p.compOrigin = (j * seg : Nat) by omega,
          hat, hi]
        decide

theorem clampToGap_stopsDown (hseg : ∀ seg, p.seg = some seg → 0 < seg) (hct : t < c) :
    StopsDown p a c t (clampToGap p a c t) := by
  cases hs : p.seg with
  | none =>
    rw [clampToGap_unmapped hs]
    exact ⟨le_rfl, hct.le, fun q r _ _ _ _ seg h => by simp [hs] at h, fun h => absurd rfl h⟩
  | some seg =>
    have hpos := hseg seg hs
    have hmono {x y : Int} (h : x ≤ y) : cellOf p seg a x ≤ cellOf p seg a y := compCell_mono hpos (by omega)
    have hkt := hmono hct.le
    have hlast : cellOf p seg a c ≤ compLast a + 1 := compCell_le_last hpos _
    obtain ⟨d, hd⟩ : ∃ d, cellOf p seg a c = cellOf p seg a t + d := ⟨_, (Nat.add_sub_cancel' hkt).symm⟩
    have hgap := fun g => clampToGap_down (g := g) (a := a) hs hct
    rw [hd, Nat.add_sub_cancel_left] at hgap
    have hstays {t' : Int} (h : StaysValidDown a (cellOf p seg a t') (cellOf p seg a c)) (q r : Int) (hr : t' ≤ r)
        (hqr : r ≤ q) (hq : q ≤ c) (hv : PosValid p a q) : PosValid p a r := by
      rw [posValid_iff hs] at hv ⊢
      exact h _ _ (hmono hr) (hmono hqr) (hmono hq) hv
    rcases gapDown_cases a d (cellOf p seg a t) with ⟨hn, hs'⟩ | ⟨j, hj, hkj, hjn, hv, hi, hs'⟩
    · rw [hgap _ hn, Option.elim_none]
      exact ⟨le_rfl, hct.le, hstays (by rwa [hd]), fun h => absurd rfl h⟩
    · rw [hgap _ hj, Option.elim_some, cellStart_succ]
      obtain ⟨hat, hbefore⟩ := compCell_at_border (a := a) hpos (k := j) (by omega)
      have hbelow := compCell_le_iff (a := a) hpos (k := j) (by omega)
      have hcell : cellOf p seg a (p.compOrigin + (j * seg : Nat)) = j + 1 := by
        rw [cellOf, show p.compOrigin + ((j * seg : Nat) : Int) - p.compOrigin = (j * seg : Nat) by omega, hat]
      have ht := (hbelow (t - p.compOrigin)).1 hkj
      have hc := mt (hbelow (c - p.compOrigin)).2 (by change ¬cellOf p seg a c ≤ j; omega)
      refine ⟨by omega, by omega, hstays (by rwa [hcell, hd]), fun _ => ⟨?_, ?_⟩⟩
      · rw [posValid_iff hs]
        exact (congrArg (cellValid a) hcell).trans hv
      · rw [posValid_iff hs, show p.compOrigin + ((j * seg : Nat) : Int) - 1 - p.compOrigin = (j * seg : Nat) - 1 by omega,
          hbefore, hi]
        decide

end

/-! ### A JOG taken (R121) -/

/-- The jog target without window and map. -/
def jogReach (units : Int) (a : Axis) : Int := a.commanded + max (-5000) (min 5000 (a.jogAccum + units))

/-- The target that a JOG gives. -/
def jogAim (p : AxisParams) (units : Int) (a : Axis) : Int :=
  if a.referenced then clampToGap p a a.commanded (clampWindow p a (jogReach units a)) else jogReach units a

/-- A channel with a jog to its target, and its JOG record as it was. -/
structure Jogs (a : Axis) (target : Int) (b : Axis) : Prop where
  motion : b.motion = .jog
  commanded : b.commanded = a.commanded
  aim : b.jogTarget = target
  mover : b.moverTarget = target
  accum : b.jogAccum = target - a.commanded
  record : b.lastJog = a.lastJog

theorem jogTaken_jogs {p : AxisParams} {units : Int} {a : Axis} (hm : a.motion = .idle ∨ a.motion = .jog) :
    Jogs a (jogAim p units a) (jogTaken p units a) := by
  have haim : (if a.referenced then clampToGap p a a.commanded (clampWindow p a (a.commanded +
      clampInt (-jogLimit) jogLimit (a.jogAccum + units))) else a.commanded +
      clampInt (-jogLimit) jogLimit (a.jogAccum + units)) = jogAim p units a := by
    rw [clampInt_eq (by decide)]
    rfl
  unfold jogTaken
  dsimp only
  rw [haim]
  rcases hm with hm | hm
  · rw [if_pos hm]
    exact ⟨rfl, rfl, rfl, rfl, rfl, rfl⟩
  · rw [if_neg (by simp [hm])]
    exact ⟨hm, rfl, rfl, rfl, rfl, rfl⟩

theorem jogAllowed_motion {d : Int} {c : Chan} {n : Node} (h : jogAllowed d c n = true) :
    (getAx c n).motion = .idle ∨ (getAx c n).motion = .jog := by
  simp only [jogAllowed, Bool.and_eq_true, Bool.or_eq_true, beq_iff_eq] at h
  obtain ⟨⟨-, hm⟩, -⟩ := h
  exact hm.imp_right And.left

theorem jogOverruns_iff (units : Int) (a : Axis) : jogOverruns units a = true ↔ 5000 < (a.jogAccum + units).natAbs := by
  unfold jogOverruns jogLimit
  rw [decide_eq_true_iff]
  omega

section
variable {sender : NodeNo} {tog : Bool} {d u : Int} {c : Chan} {p : AxisParams} {n : Node}

/-- The JOG recorded. -/
def recorded (sender : NodeNo) (tog : Bool) (a : Axis) : Axis := { a with lastJog := some (sender, tog) }

theorem acceptJog_duplicate (h : (getAx c n).lastJog = some (sender, tog)) : acceptJog sender tog d u c p n = n :=
  if_pos h

theorem acceptJog_refused (h : (getAx c n).lastJog ≠ some (sender, tog)) (ha : jogAllowed d c n = false) :
    acceptJog sender tog d u c p n = onAx c (recorded sender tog) n := by
  rw [acceptJog, if_neg h]
  exact if_neg (by simp [ha])

theorem acceptJog_taken (h : (getAx c n).lastJog ≠ some (sender, tog)) (ha : jogAllowed d c n = true) :
    acceptJog sender tog d u c p n =
      if jogOverruns u (getAx c n) then
        raiseWarn .jogOverrun (chanNumber c) (onAx c (jogTaken p u) (onAx c (recorded sender tog) n))
      else onAx c (jogTaken p u) (onAx c (recorded sender tog) n) := by
  rw [acceptJog, if_neg h]
  exact if_pos ha

theorem acceptJog_only (sender : NodeNo) (tog : Bool) (d u : Int) (c : Chan) (p : AxisParams) (n : Node) :
    onlyChanges [chanPart c, .conds] n (acceptJog sender tog d u c p n) := by
  have hx {m : Node} (f : Axis → Axis) (h : onlyChanges [chanPart c, .conds] n m) :
      onlyChanges [chanPart c, .conds] n (onAx c f m) :=
    onlyChanges_trans h (onlyChanges_mono (by simp) (onAx_only c f m))
  have hw {m : Node} (h : onlyChanges [chanPart c, .conds] n m) :
      onlyChanges [chanPart c, .conds] n (raiseWarn .jogOverrun (chanNumber c) m) :=
    onlyChanges_trans h (onlyChanges_mono (by simp) (raiseWarn_only _ _ m))
  have h0 := onlyChanges_refl [chanPart c, .conds] n
  unfold acceptJog
  dsimp only
  split_ifs
  · exact h0
  · exact hw (hx _ (hx _ h0))
  · exact hx _ (hx _ h0)
  · exact hx _ h0

theorem acceptJog_taken_ax (h : (getAx c n).lastJog ≠ some (sender, tog)) (ha : jogAllowed d c n = true) :
    getAx c (acceptJog sender tog d u c p n) = jogTaken p u (recorded sender tog (getAx c n)) := by
  rw [acceptJog_taken h ha]
  split
  · rw [getAx_of_only (raiseWarn_only _ _ _) (by cases c <;> simp [chanPart]), getAx_onAx, getAx_onAx]
  · rw [getAx_onAx, getAx_onAx]

theorem acceptJog_overrun (h : (getAx c n).lastJog ≠ some (sender, tog)) (ha : jogAllowed d c n = true)
    (ho : 5000 < ((getAx c n).jogAccum + u).natAbs) :
    condIn .jogOverrun (acceptJog sender tog d u c p n).cu.own = true := by
  rw [acceptJog_taken h ha, if_pos ((jogOverruns_iff u _).2 ho), raiseWarn_condIn _ _ _ (by decide)]
  simp

end

/-! ### The frame at the node -/

section
variable {rx : Rx} {axis inc det tog : Byte} {m : Node}

/-- The pendant unit's part of a JOG. -/
theorem ownJog_pendant (rx : Rx) (g : Bool) (m : Node) : ∃ pd, ownJog rx g m = { m with pd := pd } := by
  unfold ownJog ownJogAccepted
  split
  · split
    · split
      · exact ⟨_, rfl⟩
      · exact ⟨m.pd, rfl⟩
    · exact ⟨m.pd, rfl⟩
  · exact ⟨m.pd, rfl⟩

theorem acceptJogFrame_discards (h : incrementOfCode inc = none ∨ boolOfCode tog = none ∨ det.toInt = -128) :
    acceptJogFrame rx axis inc det tog m = m := by
  unfold acceptJogFrame
  split
  · rename_i k g hk hg
    exact if_pos (h.resolve_left (by simp [hk]) |>.resolve_left (by simp [hg]))
  · rfl

theorem acceptJogFrame_at {c : Chan} {p : AxisParams} {k : Nat} {g : Bool} (hc : chanOf axis.toNat m = some (c, p))
    (hk : incrementOfCode inc = some k) (hg : boolOfCode tog = some g) (hd : det.toInt ≠ -128) :
    ∃ pd, acceptJogFrame rx axis inc det tog m =
      acceptJog rx.sender g det.toInt (det.toInt * k) c p { m with pd := pd } := by
  obtain ⟨pd, hpd⟩ := ownJog_pendant rx g m
  refine ⟨pd, ?_⟩
  simp only [acceptJogFrame, hk, hg, if_neg hd, hpd]
  exact toChannel_at hc

end

/-- A referenced axis: the target stays between the commanded position and the goal, and in the direction of travel
behind no invalid segment. -/
theorem jogAim_referenced {p : AxisParams} {u : Int} {a : Axis} (hr : a.referenced = true)
    (hseg : ∀ seg, p.seg = some seg → 0 < seg) (hw : p.winLow ≤ p.winHigh) :
    let goal := max p.winLow (min p.winHigh (jogReach u a))
    (a.commanded ≤ goal → StopsUp p a a.commanded goal (jogAim p u a)) ∧
    (goal < a.commanded → StopsDown p a a.commanded goal (jogAim p u a)) := by
  rw [jogAim, if_pos hr, clampWindow, if_pos hr, clampInt_eq hw]
  exact ⟨clampToGap_stopsUp hseg, clampToGap_stopsDown hseg⟩

/-- Settles O44: a JOG by its duplicate test and its conditions, and the target of one that is taken by the search
over the segments on its way. -/
theorem jogAtItsChannel : Obligations.JogAtItsChannel := by
  unfold Obligations.JogAtItsChannel
  intro rx axis inc det tog s
  refine frameCompletes_of (unit := fun _ n => acceptJogFrame rx axis inc det tog n) rfl ?_
  generalize accepted rx s.node = m
  refine ⟨fun h => ?_, fun c p k g hc hk hg hd => ?_⟩
  · rw [acceptJogFrame_discards h]
    exact finish_only m
  · obtain ⟨pd, hframe⟩ := acceptJogFrame_at (rx := rx) hc hk hg hd
    have hax : getAx c { m with pd := pd } = getAx c m := by cases c <;> rfl
    have hallow : jogAllowed det.toInt c { m with pd := pd } = jogAllowed det.toInt c m := by cases c <;> rfl
    rw [hframe]
    dsimp only
    rw [finish_ax, finish_condIn _ (by decide)]
    refine ⟨finish_line_only (onlyChanges_both (withPd_only pd m) (acceptJog_only _ _ _ _ c p _) (by simp)
      (by simp)), fun h => ?_, fun h => ?_⟩
    · rw [acceptJog_duplicate (by rwa [hax]), hax]
    · cases ha : jogAllowed det.toInt c m with
      | false =>
        rw [acceptJog_refused (by rwa [hax]) (by rwa [hallow]), getAx_onAx, hax]
        exact ⟨rfl, fun _ => rfl, nofun⟩
      | true =>
        have hj := jogTaken_jogs (p := p) (units := det.toInt * k) (a := recorded rx.sender g (getAx c m))
          (jogAllowed_motion ha)
        rw [acceptJog_taken_ax (by rwa [hax]) (by rwa [hallow]), hax]
        refine ⟨hj.record, nofun, fun _ => ⟨hj.motion, hj.commanded, ?_, hj.mover.trans hj.aim.symm, fun hr => ?_,
          fun hr hseg hw => ?_, fun ho => acceptJog_overrun (by rwa [hax]) (by rwa [hallow]) (by rwa [hax])⟩⟩
        · rw [hj.aim, hj.commanded, hj.accum, add_sub_cancel]
        · rw [hj.accum, jogAim, if_neg (by simpa [recorded] using hr), jogReach, add_sub_cancel_left]
          rfl
        · obtain ⟨hup, hdown⟩ := jogAim_referenced (u := det.toInt * k) (a := recorded rx.sender g (getAx c m)) hr hseg hw
          rw [hj.aim]
          refine ⟨fun hlo hhi => ?_, fun h => ?_, fun h => ?_⟩
          · rcases le_or_gt (recorded rx.sender g (getAx c m)).commanded (max p.winLow (min p.winHigh
              (jogReach (det.toInt * k) (recorded rx.sender g (getAx c m))))) with h | h
            · have hs := hup h
              exact ⟨hlo.trans hs.start, hs.upTo.trans (by omega)⟩
            · have hs := hdown h
              exact ⟨(le_max_left _ _).trans hs.downTo, hs.start.trans hhi⟩
          · have hs := hup h
            exact ⟨hs.start, hs.upTo, hs.stays, hs.next⟩
          · have hs := hdown h
            exact ⟨hs.downTo, hs.start, hs.stays, hs.next⟩

end Sys2Proof.Machine
end

section
/-! PROOF. What a motion tick's servo work reads of the channels (R101, R107 to R110), and that reactions, block queue,
node table and units leave it as it is. -/

namespace Sys2Proof.Machine

-- The text is checked as one file under a data limit that many waiting threads would exceed.
set_option Elab.async false

/-! ### What the servo work reads -/

/-- Count and positions of a channel, the change that a mark's load still owes, and of an ENABLED drive the mark of a
change of its state, the previous corrected command and the drive command. -/
structure ServoView where
  count : Int
  actual : Int
  commanded : Int
  corrected : Int
  lastComp : Int
  markShift : Int
  enabled : Option (Bool × Int × Int)

/-- What an ENABLED drive has besides. -/
def enabledView (a : Axis) : Option (Bool × Int × Int) :=
  if a.drive = .enabled then some (a.driveChanged, a.prevCorrected, a.driveCommand) else none

def servoView (a : Axis) : ServoView :=
  ⟨a.count, a.actual, a.commanded, a.corrected, a.lastComp, a.markShift, enabledView a⟩

theorem enabledView_some {a : Axis} (h : a.drive = .enabled) :
    enabledView a = some (a.driveChanged, a.prevCorrected, a.driveCommand) := if_pos h

theorem enabledView_none {a : Axis} (h : a.drive ≠ .enabled) : enabledView a = none := if_neg h

theorem enabledView_isSome (a : Axis) : (enabledView a).isSome = true ↔ a.drive = .enabled := by
  unfold enabledView
  split <;> simp_all

/-- The image's parameters and what the servo work reads of both channels. -/
structure ServoNode where
  par : Params
  ax0 : ServoView
  ax1 : ServoView

def servoNode (n : Node) : ServoNode := ⟨n.par, servoView n.ax0, servoView n.ax1⟩

/-- The servo work reads `v` of a node. -/
def ServoReads (v : ServoNode) (n : Node) : Prop := servoNode n = v

section
variable {v : ServoNode} {n m : Node}

theorem ServoReads.par (h : ServoReads (servoNode n) m) : m.par = n.par := congrArg ServoNode.par h

theorem ServoReads.view (h : ServoReads (servoNode n) m) (c : Chan) :
    servoView (getAx c m) = servoView (getAx c n) := by
  cases c
  · exact congrArg ServoNode.ax0 h
  · exact congrArg ServoNode.ax1 h

theorem servoReads_of_view (hp : m.par = n.par) (ha : ∀ c, servoView (getAx c m) = servoView (getAx c n))
    (h : ServoReads v n) : ServoReads v m := by
  have h0 : servoView m.ax0 = servoView n.ax0 := ha .ax0
  have h1 : servoView m.ax1 = servoView n.ax1 := ha .ax1
  rw [ServoReads, ← h, servoNode, hp, h0, h1]
  rfl

theorem ServoReads.ite {c : Prop} [Decidable c] (hn : ServoReads v n) (hm : ServoReads v m) :
    ServoReads v (if c then n else m) := by
  split
  · exact hn
  · exact hm

/-- A last step that is made under a condition. -/
theorem ServoReads.thenIf {c : Prop} [Decidable c] (hm : ServoReads v n → ServoReads v m) (hn : ServoReads v n) :
    ServoReads v (if c then m else n) := .ite (hm hn) hn

/-- An operation whose frame leaves out channels and parameters. -/
theorem onlyChanges.servoReads {ps : List Part} (g : onlyChanges ps n m) (h : ServoReads v n)
    (hp : ∀ p ∈ [Part.params, .channel0, .channel1], p ∉ ps := by decide) : ServoReads v m :=
  servoReads_of_view (g .params (hp _ (by simp)) (by decide))
    (fun c => congrArg servoView (getAx_of_only g (by cases c <;> exact hp _ (by simp [chanPart])))) h

theorem onAx_servoReads {c : Chan} {f : Axis → Axis} (hf : ∀ a, servoView (f a) = servoView a)
    (h : ServoReads v n) : ServoReads v (onAx c f n) := by
  refine servoReads_of_view (onAx_par ..) (fun d => ?_) h
  by_cases hd : d = c
  · subst hd
    rw [getAx_onAx, hf]
  · rw [getAx_onAx_other hd]

theorem forAxes_servoReads {f : Chan → AxisParams → Node → Node}
    (hf : ∀ {c p m}, ServoReads v m → ServoReads v (f c p m)) (h : ServoReads v n) : ServoReads v (forAxes f n) := by
  have one {c : Chan} {m : Node} (hm : ServoReads v m) :
      ServoReads v (match axParams c m with | some p => f c p m | none => m) := by
    split
    · exact hf hm
    · exact hm
  exact one (one h)

/-! ### The latch (R111) -/

/-- The latch changes nothing that the servo work reads: an ENABLING drive gives no output, and a DISABLED one none. -/
theorem LatchMay.servoView_eq {a b : Axis} (h : LatchMay a b) : servoView b = servoView a := by
  rcases h with rfl | ⟨hd, rfl⟩
  · rfl
  · simp [servoView, enabledView, latchedOff, hd]

theorem raiseStop_servoReads {c : Cond} {d : Byte} (h : ServoReads v n) : ServoReads v (raiseStop c d n) :=
  servoReads_of_view (par_of_only (raiseStop_only c d n)) (fun x => (raiseStop_latchMay x c d n).servoView_eq) h

theorem raiseWarn_servoReads {c : Cond} {d : Byte} (h : ServoReads v n) : ServoReads v (raiseWarn c d n) :=
  (raiseWarn_only c d n).servoReads h

theorem raiseHold_servoReads {c : Cond} {d : Byte} (h : ServoReads v n) : ServoReads v (raiseHold c d n) :=
  (raiseHold_only c d n).servoReads h

theorem clearCond_servoReads {c : Cond} (h : ServoReads v n) : ServoReads v (clearCond c n) :=
  (clearCond_only c n).servoReads h

theorem ask_servoReads {p : Payload} (h : ServoReads v n) : ServoReads v (ask p n) := (ask_only p n).servoReads h

/-! ### Ends of jogs, sequences and of the chain (R102, R119, R122) -/

theorem restIfStill_servoView (rest : Bool) (a : Axis) : servoView (restIfStill rest a) = servoView a := by
  unfold restIfStill
  split <;> rfl

theorem endJog_servoView (rest : Bool) (a : Axis) : servoView (endJog rest a) = servoView a := by
  unfold endJog
  split
  · exact restIfStill_servoView rest _
  · rfl

theorem failReference_servoView (rest : Bool) (a : Axis) : servoView (failReference rest a) = servoView a := by
  unfold failReference
  split
  · exact restIfStill_servoView rest _
  · rfl

theorem restMotion_servoView (a : Axis) : servoView (restMotion a) = servoView a := by
  unfold restMotion
  split <;> rfl

theorem chainMotion_servoView (a : Axis) : servoView (chainMotion a) = servoView a := by
  unfold chainMotion
  split <;> rfl

theorem axEndJog_servoReads {c : Chan} {p : AxisParams} (h : ServoReads v n) : ServoReads v (axEndJog c p n) :=
  onAx_servoReads (endJog_servoView _) h

theorem axFailRaised_servoReads {c : Chan} {p : AxisParams} (h : ServoReads v n) :
    ServoReads v (axFailRaised c p n) :=
  .ite (raiseWarn_servoReads (onAx_servoReads (failReference_servoView _) h)) h

theorem enablingOff_servoReads (h : ServoReads v n) : ServoReads v (enablingOff n) :=
  forAxes_servoReads axFailRaised_servoReads (forAxes_servoReads axEndJog_servoReads h)

theorem modeReaction_servoReads {m : Mode} (h : ServoReads v n) : ServoReads v (modeReaction m n) := by
  have hj : ServoReads v (if m = .auto then forAxes axEndJog n else n) :=
    .thenIf (forAxes_servoReads axEndJog_servoReads) h
  exact .ite hj (forAxes_servoReads axFailRaised_servoReads hj)

theorem motionsAtRest_servoReads (h : ServoReads v n) : ServoReads v (motionsAtRest n) := by
  have hm (c : Chan) : servoView (getAx c { n with ax0 := restMotion n.ax0, ax1 := restMotion n.ax1 }) =
      servoView (getAx c n) := by cases c <;> exact restMotion_servoView _
  exact .ite (servoReads_of_view (n := n) rfl hm h) h

/-! ### The block queue (R61, R70 to R75) -/

theorem headChanged_servoReads (h : ServoReads v n) : ServoReads v (headChanged n) :=
  clearCond_servoReads (n := presetHead n) h

theorem removeEntries_servoReads {gone : Entry → Bool} (h : ServoReads v n) :
    ServoReads v (removeEntries gone n) := by
  obtain ⟨lc, hlc⟩ := withdrawVerdicts_eq (n.bq.entries.filter gone) (entriesLeft gone n)
  rw [removeEntries_eq, hlc]
  exact .ite h (headChanged_servoReads h)

theorem clLoss_servoReads (h : ServoReads v n) : ServoReads v (clLoss n) := (clLoss_only n).servoReads h

theorem setPlanned_servoReads (h : ServoReads v n) : ServoReads v (setPlanned n) :=
  servoReads_of_view (n := n) rfl (fun c => by cases c <;> rfl) h

theorem removeAll_servoReads (h : ServoReads v n) : ServoReads v (removeAll n) := by
  have hr := (withBq_only { (removeEntries (fun _ => true) n).bq with expected := none } _).servoReads
    (removeEntries_servoReads (gone := fun _ => true) h)
  have hf := (forgetForce_only _).servoReads (setPlanned_servoReads hr)
  exact clLoss_servoReads (motionsAtRest_servoReads ((emptyBlockSet_only _).servoReads hf))

theorem adoptMode_servoReads (h : ServoReads v n) : ServoReads v (adoptMode n) :=
  clearCond_servoReads (modeReaction_servoReads (removeAll_servoReads h))

theorem afterRest_servoReads (h : ServoReads v n) : ServoReads v (afterRest n) :=
  .thenIf adoptMode_servoReads (clLoss_servoReads (motionsAtRest_servoReads h))

theorem stopReached_servoReads (h : ServoReads v n) : ServoReads v (stopReached n) :=
  afterRest_servoReads (removeAll_servoReads h)

theorem commit_servoReads {e : Entry} {f : BlockFields} {g : Tick} (h : ServoReads v n) :
    ServoReads v (commit e f g n) := by
  have hq : ServoReads v (committedEntries e f g n) := h
  have hm : ServoReads v (withdrawReady e.num (manualFromBlock f (committedEntries e f g n))) :=
    (withdrawNamed_only _ _).servoReads ((manualFromBlock_only f _).servoReads hq)
  exact (evaluateHead_only _).servoReads
    (forAxes_servoReads (onAx_servoReads chainMotion_servoView) (headChanged_servoReads hm))

theorem applyGo_servoReads {num : BlockNo} {g : Tick} {i : Nat} (h : ServoReads v n) :
    ServoReads v (applyGo num g i n) := by
  unfold applyGo
  split
  · split
    · exact .ite h (.ite (raiseHold_servoReads h) (commit_servoReads h))
    · exact h
  · exact h

theorem endOfTick_servoReads (h : ServoReads v n) : ServoReads v (endOfTick n) := by
  unfold endOfTick
  split
  · exact .ite (afterRest_servoReads h) h
  · exact h

theorem startTick_servoReads (h : ServoReads v n) : ServoReads v (startTick n) := by
  unfold startTick
  split
  · exact .ite h h
  · exact h

/-! ### Kept frames (R79) -/

theorem applyKept_servoReads {k : Kept} (h : ServoReads v n) : ServoReads v (applyKept k n) := by
  unfold applyKept
  split
  · exact h
  · exact (applyResume_only n).servoReads h
  · exact applyGo_servoReads h
  · exact .ite h (.ite h h)
  · exact applyPace_only.servoReads h
  · exact h

theorem applyAll_servoReads (ks : List Kept) (h : ServoReads v n) : ServoReads v (applyAll ks n) := by
  induction ks generalizing n with
  | nil => exact h
  | cons k ks ih => exact ih (applyKept_servoReads h)

theorem applyDue_servoReads (h : ServoReads v n) : ServoReads v (applyDue n) := applyAll_servoReads _ h

/-! ### The node table (R35, R40 to R44, R51) -/

theorem compareMode_servoReads (h : ServoReads v n) : ServoReads v (compareMode n) :=
  .ite (clearCond_servoReads h) (.ite (adoptMode_servoReads h) (.ite h (raiseHold_servoReads h)))

theorem reformMode_servoReads (h : ServoReads v n) : ServoReads v (reformMode n) := by
  have hs : ServoReads v (if n.nt.enabling && !(sourceRead n).nt.enabling then enablingOff (sourceRead n)
      else sourceRead n) := .thenIf enablingOff_servoReads h
  exact compareMode_servoReads hs

theorem clashTest_servoReads (h : ServoReads v n) : ServoReads v (clashTest n) := by
  have hraise (ps : List (Nat × Nat)) : ∀ m, ServoReads v m →
      ServoReads v (ps.foldl (fun k p => raiseStop .ownerClash (BitVec.ofNat 8 p.2) k) m) := by
    induction ps with
    | nil => exact fun _ hm => hm
    | cons p ps ih => exact fun _ hm => ih _ (raiseStop_servoReads hm)
  have hr := hraise ((clashPairs n).filter fun p => !n.nt.clashes.contains p)
    { n with nt := { n.nt with clashes := clashPairs n } } h
  exact .ite (clearCond_servoReads hr) hr

theorem refillRoles_servoReads (h : ServoReads v n) : ServoReads v (refillRoles n) := by
  unfold refillRoles
  split
  · exact h
  · exact h

theorem tscInterlockTest_servoReads (h : ServoReads v n) : ServoReads v (tscInterlockTest n) := by
  unfold tscInterlockTest
  split
  · exact .thenIf (tscStop_only n).servoReads h
  · exact h

theorem tableChanged_servoReads (h : ServoReads v n) : ServoReads v (tableChanged n) :=
  tscInterlockTest_servoReads (refillRoles_servoReads (reformMode_servoReads (clashTest_servoReads h)))

theorem forgetJog_servoView (i : Nat) (a : Axis) : servoView (forgetJog i a) = servoView a := by
  unfold forgetJog
  split
  · split <;> rfl
  · rfl

theorem entryForgotten_servoReads {i : Nat} (h : ServoReads v n) : ServoReads v (entryForgotten i n) := by
  have hm (c : Chan) : servoView (getAx c (entryForgotten i n)) = servoView (getAx c n) := by
    cases c <;> exact forgetJog_servoView i _
  exact servoReads_of_view (n := n) rfl hm h

theorem entryLost_servoReads {i : Nat} (h : ServoReads v n) : ServoReads v (entryLost i n) := by
  have hl : ServoReads v (lossRaised i n) := .thenIf raiseHold_servoReads (entryForgotten_servoReads h)
  have hm : ServoReads v (mismatchClear (lossRaised i n)) := .ite hl (clearCond_servoReads hl)
  exact tableChanged_servoReads (.ite hm (clearCond_servoReads hm))

theorem silenceTicks_servoReads (k : Nat) (h : ServoReads v n) : ServoReads v (silenceTicks k n) := by
  induction k with
  | zero => exact h
  | succ k ih => exact .ite (.ite (entryLost_servoReads ih) ih) ih

/-! ### Stop chain, head and requests (R176, R72, R64, R137, R50) -/

theorem chainTick_servoReads (h : ServoReads v n) : ServoReads v (chainTick n) := by
  have ho : ServoReads v (chainOpens n) := raiseStop_servoReads (n := { n with cu := _ }) h
  have hc : ServoReads v (chainCloses n) := clearCond_servoReads (n := { n with cu := _ }) h
  exact .ite (.ite h ho) (.ite h (.ite hc h))

theorem headTimerTick_servoReads (h : ServoReads v n) : ServoReads v (headTimerTick n) :=
  .ite (.ite (raiseWarn_servoReads (n := { n with bq := _ }) h) h) h

theorem verdictTick_servoReads (h : ServoReads v n) : ServoReads v (verdictTick n) := by
  unfold verdictTick
  split
  · exact .ite (.ite ((askReady_only _ _ _).servoReads h) h) h
  · exact h

theorem sgActOn_servoReads {t : SpindleTarget} (h : ServoReads v n) : ServoReads v (sgActOn t n) := by
  cases hr : t.range with
  | none =>
    simp only [sgActOn, hr]
    exact clearCond_servoReads (n := { n with sg := _ }) h
  | some r =>
    simp only [sgActOn, hr]
    exact (noteSettled_only r t.clamped _).servoReads (n := { n with sg := _ }) h

theorem sgActHead_servoReads (h : ServoReads v n) : ServoReads v (sgActHead n) := by
  unfold sgActHead
  split
  · split
    · exact .ite ((dropCommand_only _ _).servoReads (sgActOn_servoReads h)) h
    · exact h
  · exact h

theorem tickHead_servoReads (h : ServoReads v n) : ServoReads v (tickHead n) := by
  have hc : ServoReads v (clampRepeat (clActHead (headTimerTick n))) :=
    .thenIf (askClamp_only _).servoReads ((clActHead_only _).servoReads (headTimerTick_servoReads h))
  exact (goTest_only _).servoReads (sgActHead_servoReads (verdictTick_servoReads hc))

theorem tickRequests_servoReads (h : ServoReads v n) : ServoReads v (tickRequests n) :=
  .thenIf (.thenIf ask_servoReads) ((askStopall_only _).servoReads ((heldTest_only n).servoReads h))

theorem tickPath_servoReads (h : ServoReads v n) : ServoReads v (tickPath n) := by
  have hp : ServoReads v (pathTick (paceTick n)) := by
    have hpace : ServoReads v (paceTick n) := .thenIf ask_servoReads h
    unfold pathTick
    split
    · exact hpace
    · exact hpace
  exact .thenIf id hp

end

end Sys2Proof.Machine
end

section
/-! PROOF. The pendant, spindle and coolant units at a motion tick leave what the servo work reads of the channels as
it is (chapters 8 to 10). -/

namespace Sys2Proof.Machine

-- The text is checked as one file under a data limit that many waiting threads would exceed.
set_option Elab.async false

section
variable {v : ServoNode} {n : Node}

/-! ### The pendant unit (chapter 10) -/

theorem jogRequest_servoReads (h : ServoReads v n) : ServoReads v (jogRequest n) := .ite (ask_servoReads h) h

theorem knobRequest_servoReads (h : ServoReads v n) : ServoReads v (knobRequest n) := .ite (ask_servoReads h) h

theorem spindleKnobRequest_servoReads (h : ServoReads v n) : ServoReads v (spindleKnobRequest n) :=
  .ite (ask_servoReads h) h

theorem panelRequest_servoReads (h : ServoReads v n) : ServoReads v (panelRequest n) := by
  unfold panelRequest
  split
  · exact h
  · exact .ite h (ask_servoReads h)

theorem pressStart_servoReads (h : ServoReads v n) : ServoReads v (pressStart n) := by
  unfold pressStart
  split
  · exact .ite h (ask_servoReads h)
  · exact h

theorem pressCoolant_servoReads (h : ServoReads v n) : ServoReads v (pressCoolant n) := by
  have ha {p : Payload} : ServoReads v (ask p n) := ask_servoReads h
  unfold pressCoolant
  split
  · exact ha
  · exact ha
  · exact .ite h ha
  · exact .ite h ha
  · exact .ite h ha
  · exact h
  · exact h

theorem pressRef_servoReads (h : ServoReads v n) : ServoReads v (pressRef n) := by
  unfold pressRef
  split
  · exact ask_servoReads h
  · exact h

theorem pressed_servoReads {b : Button} (h : ServoReads v n) : ServoReads v (pressed b n) := by
  cases b with
  | cycleStart => exact .ite (ask_servoReads h) h
  | feedHold => exact h
  | spindleStart => exact pressStart_servoReads h
  | spindleStop => exact ask_servoReads h
  | coolant => exact pressCoolant_servoReads h
  | reset => exact .ite h (ask_servoReads h)
  | ref => exact pressRef_servoReads h

theorem pressesTick_servoReads {before : PD} (h : ServoReads v n) : ServoReads v (pressesTick before n) := by
  unfold pressesTick
  generalize buttonOrder = bs
  induction bs generalizing n with
  | nil => exact h
  | cons b bs ih => exact ih (.thenIf pressed_servoReads h)

theorem pendantTick_servoReads (h : ServoReads v n) : ServoReads v (pendantTick n) := by
  have hgate {before : PD} {m : Node} (hm : ServoReads v m) : ServoReads v (wheelGate (selectorGate before m)) := by
    have hs : ServoReads v (selectorGate before m) := .ite hm hm
    exact .ite hs hs
  refine .ite (pressesTick_servoReads (panelRequest_servoReads (spindleKnobRequest_servoReads ?_))) h
  exact knobRequest_servoReads (jogRequest_servoReads (.thenIf id (hgate h)))

/-! ### The spindle and gearbox unit (chapter 8) -/

theorem endShift_servoReads {p : SpindleParams} (h : ServoReads v n) : ServoReads v (endShift p n) := by
  unfold endShift
  split_ifs
  · split
    · exact clearCond_servoReads (n := { n with sg := _ }) h
    · exact h
  · exact h

theorem beginStepB_servoReads {p : SpindleParams} (h : ServoReads v n) : ServoReads v (beginStepB p n) :=
  .ite (endShift_servoReads h) h

theorem beginStepA_servoReads {p : SpindleParams} (h : ServoReads v n) : ServoReads v (beginStepA p n) :=
  .ite (beginStepB_servoReads h) h

theorem beginStep_servoReads {p : SpindleParams} {sh : Shifter} (h : ServoReads v n) :
    ServoReads v (beginStep p sh n) := by
  cases sh
  · exact beginStepA_servoReads h
  · exact beginStepB_servoReads h

theorem stepConfirmed_servoReads {p : SpindleParams} (h : ServoReads v n) : ServoReads v (stepConfirmed p n) := by
  unfold stepConfirmed
  split
  · exact beginStepB_servoReads h
  · exact endShift_servoReads h

theorem shiftGivenUp_servoReads (h : ServoReads v n) : ServoReads v (shiftGivenUp n) :=
  raiseHold_servoReads (n := { n with sg := _ }) h

theorem neutralReached_servoReads {p : SpindleParams} (h : ServoReads v n) : ServoReads v (neutralReached p n) :=
  .ite (beginStep_servoReads (raiseWarn_servoReads (n := { n with sg := _ }) h)) (shiftGivenUp_servoReads h)

theorem speedTick_servoReads {p : SpindleParams} (h : ServoReads v n) : ServoReads v (speedTick p n) :=
  have hf {m : Node} (hm : ServoReads v m) : ServoReads v (faultRunTick m) := .thenIf raiseHold_servoReads hm
  hf (m := atSpeedTick { formCommand p (estimateTick p n) with sg := _ }) h

theorem atRestTest_servoReads {p : SpindleParams} (h : ServoReads v n) : ServoReads v (atRestTest p n) :=
  .ite (.ite (beginStepA_servoReads h) (.ite h h)) h

theorem conflictTest_servoReads {sh : Shifter} {before : SG} (h : ServoReads v n) :
    ServoReads v (conflictTest sh before n) := by
  have hm : ServoReads v (raiseHold .gearFault (shifterNumber sh)
      { n with sg := setGear .gearFault { endNudge n.sg with retries := 0 } }) :=
    raiseHold_servoReads (n := { n with sg := _ }) h
  refine .ite ?_ h
  unfold shifterConflict
  dsimp only
  split
  · exact .thenIf raiseStop_servoReads hm
  · exact hm

theorem patternWatch_servoReads {p : SpindleParams} (h : ServoReads v n) : ServoReads v (patternWatch p n) := by
  have hl {r : Gear} : ServoReads v (if turning n.sg then gearLost r n else n) := .thenIf raiseStop_servoReads h
  unfold patternWatch
  split
  · exact .ite h hl
  · exact hl
  · exact h
  · exact h

theorem gearTest_servoReads {p : SpindleParams} (h : ServoReads v n) : ServoReads v (gearTest p n) := by
  unfold gearTest
  split
  · exact .thenIf stepConfirmed_servoReads h
  · exact .thenIf stepConfirmed_servoReads h
  · exact .thenIf neutralReached_servoReads h
  · exact h
  · exact h
  · exact patternWatch_servoReads h
  · exact patternWatch_servoReads h

theorem shiftTimerOut_servoReads (h : ServoReads v n) : ServoReads v (shiftTimerOut n) := by
  unfold shiftTimerOut
  split
  · exact h
  · exact h
  · exact shiftGivenUp_servoReads h
  · exact h

theorem gearTick_servoReads {p : SpindleParams} (h : ServoReads v n) : ServoReads v (gearTick p n) :=
  .thenIf shiftTimerOut_servoReads (gearTest_servoReads (conflictTest_servoReads (conflictTest_servoReads h)))

theorem spindleTick_servoReads (h : ServoReads v n) : ServoReads v (spindleTick n) := by
  unfold spindleTick
  split
  · exact atRestTest_servoReads (gearTick_servoReads (speedTick_servoReads h))
  · exact h

/-! ### The coolant unit (chapter 9) -/

theorem withCl_servoReads {cl : CL} (h : ServoReads v n) : ServoReads v { n with cl := cl } := h

theorem setTsc_servoReads {s : CircuitState} {t b : Nat} (h : ServoReads v n) : ServoReads v (setTsc s t b n) :=
  (setTsc_only s t b n).servoReads h

theorem tankTo_servoReads {l : Level} (h : ServoReads v n) : ServoReads v (tankTo l n) := by
  have ht : ServoReads v { n with cl := { n.cl with tank := l } } := h
  have hr := tscInterlockTest_servoReads ((floodStop_only _).servoReads (raiseWarn_servoReads (c := .tankLow) (d := 0) ht))
  exact .ite hr (.ite (tscInterlockTest_servoReads (clearCond_servoReads (c := .tankLow) ht)) ht)

theorem floodTick_servoReads (h : ServoReads v n) : ServoReads v (floodTick n) := by
  have hl {cl : CL} : ServoReads v (clLoss { n with cl := cl }) := clLoss_servoReads (withCl_servoReads h)
  have hs : ServoReads v (floodStop n) := (floodStop_only n).servoReads h
  unfold floodTick
  split
  · exact (compareFlood_only n).servoReads h
  · exact .ite hs (.ite hl (.ite hl h))
  · exact .ite hs (.ite hl h)
  · exact .ite hl h
  · exact h
  · exact h

theorem tscTick_servoReads {p : CoolantParams} (h : ServoReads v n) : ServoReads v (tscTick p n) := by
  have hs {s : CircuitState} {t b : Nat} : ServoReads v (setTsc s t b n) := setTsc_servoReads h
  have hd {m : Node} (hm : ServoReads v m) : ServoReads v (tscDegrade p m) :=
    (askClamp_only _).servoReads (raiseWarn_servoReads (setTsc_servoReads hm))
  unfold tscTick
  refine .ite ((tscStop_only n).servoReads h) ?_
  split
  · exact (compareTsc_only p n).servoReads h
  · exact .ite hs (.ite hs h)
  · exact .thenIf hd h
  · exact .ite hs h
  · exact .ite hs h
  · exact h

theorem coolantTick_servoReads (h : ServoReads v n) : ServoReads v (coolantTick n) := by
  unfold coolantTick
  split
  · rename_i p _
    have hs : ServoReads v (lossRunTick p (pressureTick p (switchesTick n))) :=
      withCl_servoReads (withCl_servoReads (withCl_servoReads (tankTo_servoReads h)))
    exact clLoss_servoReads ((compareAir_only _).servoReads (tscTick_servoReads (floodTick_servoReads hs)))
  · exact h

end

end Sys2Proof.Machine
end

section
/-! PROOF. A motion tick's servo work at a used channel (R100, R101, R107 to R110): the steps of the tick work one by
one, and the tick around them. -/

namespace Sys2Proof.Machine

-- The text is checked as one file under a data limit that many waiting threads would exceed.
set_option Elab.async false

/-! ### The tick around the channels -/

section
variable {v : ServoNode} {n : Node}

theorem tickStart_servoReads {inputs : Pins} (h : ServoReads v n) : ServoReads v (tickStart inputs n) := by
  have he : ServoReads v (endOfTick (historyEnd n)) := endOfTick_servoReads ((historyEnd_only n).servoReads h)
  have ht : ServoReads v (circuitTimers (eligibleTick (countTick (endOfTick (historyEnd n))))) := .ite he he
  have hs : ServoReads v (stopTimerCount (circuitTimers (eligibleTick (countTick (endOfTick (historyEnd n)))))) := ht
  have hj := (joinTick_only _).servoReads hs
  exact silenceTicks_servoReads 16 (applyDue_servoReads hj)

theorem tickInputs_servoReads (h : ServoReads v n) : ServoReads v (tickInputs n) :=
  pendantTick_servoReads (startTick_servoReads (chainTick_servoReads h))

/-- The tick's work up to its channels. -/
theorem tickBefore_servoReads {inputs : Pins} (h : ServoReads v n) :
    ServoReads v (tickPath (tickRequests (tickHead (tickInputs (tickStart inputs n))))) :=
  tickPath_servoReads (tickRequests_servoReads (tickHead_servoReads (tickInputs_servoReads (tickStart_servoReads h))))

theorem tickTail_servoReads (h : ServoReads v n) :
    ServoReads v (tickTail (adoptionTest (stopEndTest n))) :=
  (tickTail_only _).servoReads (.thenIf adoptMode_servoReads (.thenIf stopReached_servoReads h))

end

/-! ### A step at one channel -/

/-- A step that leaves the parameters and what the servo work reads of the other channel, and relates what it reads of
its own before and after. -/
structure ServoBy (c : Chan) (R : ServoView → ServoView → Prop) (n m : Node) : Prop where
  par : m.par = n.par
  other : ∀ d, d ≠ c → servoView (getAx d m) = servoView (getAx d n)
  own : R (servoView (getAx c n)) (servoView (getAx c m))

section
variable {c : Chan} {R S : ServoView → ServoView → Prop} {n m k : Node}

theorem ServoBy.of_reads (h : ServoReads (servoNode n) m) : ServoBy c (fun u w => w = u) n m :=
  ⟨h.par, fun d _ => h.view d, h.view c⟩

/-- A step of the channel followed by one that leaves what the servo work reads. -/
theorem ServoBy.before (h : ServoBy c R n m) (g : ServoReads (servoNode m) k) : ServoBy c R n k :=
  ⟨g.par.trans h.par, fun d hd => (g.view d).trans (h.other d hd), (g.view c).symm ▸ h.own⟩

theorem ServoBy.after (g : ServoReads (servoNode n) m) (h : ServoBy c R m k) : ServoBy c R n k :=
  ⟨h.par.trans g.par, fun d hd => (h.other d hd).trans (g.view d), g.view c ▸ h.own⟩

theorem ServoBy.trans (h : ServoBy c R n m) (g : ServoBy c S m k) :
    ServoBy c (fun u w => ∃ x, R u x ∧ S x w) n k :=
  ⟨g.par.trans h.par, fun d hd => (g.other d hd).trans (h.other d hd), _, h.own, g.own⟩

theorem ServoBy.mono (h : ServoBy c R n m) (hs : ∀ u w, R u w → S u w) : ServoBy c S n m :=
  ⟨h.par, h.other, hs _ _ h.own⟩

theorem ServoBy.ite {q : Prop} [Decidable q] (h : ServoBy c R n m) (g : ServoBy c R n k) :
    ServoBy c R n (if q then m else k) := by
  split
  · exact h
  · exact g

theorem servoBy_setAx {a : Axis} (h : R (servoView (getAx c n)) (servoView a)) : ServoBy c R n (setAx c a n) := by
  refine ⟨setAx_par .., fun d hd => congrArg servoView (getAx_onAx_other hd (fun _ => a) n), ?_⟩
  rwa [getAx_setAx]

theorem servoBy_onAx {f : Axis → Axis} (h : R (servoView (getAx c n)) (servoView (f (getAx c n)))) :
    ServoBy c R n (onAx c f n) := servoBy_setAx h

end

/-! ### The tests before the tick work (R111, R115, R118) -/

/-- What the tests of the drive inputs may do: a drive may leave ENABLED, and one may become so with its mark of the
change set. -/
def Driven (u w : ServoView) : Prop :=
  w.count = u.count ∧ w.markShift = u.markShift ∧
  (w.enabled = u.enabled ∨ w.enabled = none ∨ (u.enabled = none ∧ ∃ q k, w.enabled = some (true, q, k)))

theorem Driven.refl (u : ServoView) : Driven u u := ⟨rfl, rfl, .inl rfl⟩

/-- What a change of the drive state leaves of what the servo work reads. -/
theorem setDrive_servoView (rest : Bool) (d : DriveState) (a : Axis) (h : a.drive ≠ d) :
    servoView (setDrive rest d a) =
      { servoView a with enabled := if d = .enabled then some (true, a.corrected, 0) else none } := by
  have hd : servoView (dropMotion rest a) = servoView a := by
    unfold dropMotion
    split <;> rfl
  simp only [servoView, ServoView.mk.injEq] at hd
  obtain ⟨hc, ha, hm, hk, hl, hs, -⟩ := hd
  simp only [setDrive, if_neg h, servoView, enabledView]
  split <;> simp [*]

section
variable {c : Chan} {p : AxisParams} {n : Node}

theorem driveTo_driven {d : DriveState} (hd : (getAx c n).drive ≠ d)
    (he : d = .enabled → (getAx c n).drive ≠ .enabled) : ServoBy c Driven n (driveTo c d n) := by
  refine servoBy_onAx ?_
  rw [setDrive_servoView _ _ _ hd]
  refine ⟨rfl, rfl, .inr ?_⟩
  by_cases h : d = .enabled
  · exact .inr ⟨enabledView_none (he h), _, _, if_pos h⟩
  · exact .inl (if_neg h)

theorem driveFault_driven (h : (getAx c n).drive ≠ .faulted) : ServoBy c Driven n (driveFault c n) :=
  (driveTo_driven h (by simp)).before (raiseStop_servoReads rfl)

theorem driveTick_driven : ServoBy c Driven n (driveTick c p n) := by
  have hs : ServoBy c Driven n n := ⟨rfl, fun _ _ => rfl, .refl _⟩
  unfold driveTick
  split
  next => exact hs
  next hd => exact .ite (driveFault_driven (by simp [hd])) (.ite hs (driveTo_driven (by simp [hd]) (by simp)))
  next hd =>
    have hf : ServoBy c Driven n (driveFault c n) := driveFault_driven (by simp [hd])
    have hk : ServoBy c Driven n (onAx c (fun a => { a with driveTimer := a.driveTimer - 1 }) n) :=
      servoBy_onAx (.refl _)
    exact .ite hf (.ite (driveTo_driven (by simp [hd]) (by simp))
      (.ite (driveTo_driven (by simp [hd]) (by simp [hd])) (.ite hf hk)))
  next hd => exact .ite (driveFault_driven (by simp [hd])) hs

theorem clampTick_servoReads {v : ServoNode} (h : ServoReads v n) : ServoReads v (clampTick c p n) := by
  have hx {s : ClampState} : ServoReads v (onAx c (clampTo s) n) := onAx_servoReads (fun _ => rfl) h
  have ht : ServoReads v (unclampTimedOut c n) := onAx_servoReads (fun _ => endJog_servoView ..) h
  have hk : ServoReads v (clampCount c n) := onAx_servoReads (fun _ => rfl) h
  unfold clampTick
  refine .ite h ?_
  split
  · exact .ite hx h
  · exact .ite hx (.ite ht (.ite hk hx))
  · exact .ite h hx
  · exact .ite hx (.ite hx (.ite hx hk))

theorem switchActive_servoView (a : Axis) : servoView (switchActive a) = servoView a := by
  unfold switchActive
  split
  · split <;> rfl
  · rfl

theorem switchTick_servoReads {v : ServoNode} (h : ServoReads v n) : ServoReads v (switchTick c n) :=
  .thenIf (onAx_servoReads switchActive_servoView) h

end

/-! ### Steps 1 and 2 (R101, R103, R118) -/

/-- The actual position formed, and the change of a mark's load taken over. -/
def ActualFormed (p : AxisParams) (u w : ServoView) : Prop :=
  w.count = u.count ∧ w.actual = actualOf p u.count ∧
  w.enabled = u.enabled.map fun (changed, prev, command) => (changed, prev + u.markShift, command)

theorem takeShift_formed (p : AxisParams) (a : Axis) :
    ActualFormed p (servoView a) (servoView (takeShift { a with actual := actualOf p a.count })) := by
  unfold takeShift
  split
  next h =>
    refine ⟨rfl, rfl, ?_⟩
    have h0 : a.markShift = 0 := h
    by_cases hd : a.drive = .enabled <;> simp [servoView, enabledView, hd, h0]
  next =>
    refine ⟨rfl, rfl, ?_⟩
    by_cases hd : a.drive = .enabled <;> simp [servoView, enabledView, hd]

/-- Step 2 changes the commanded position alone. -/
def OnlyMoves (u w : ServoView) : Prop := ∃ k, w = { u with commanded := k }

section
variable {c : Chan} {p : AxisParams} {n : Node}

theorem onlyMoves_refl (u : ServoView) : OnlyMoves u u := ⟨u.commanded, rfl⟩

theorem ServoBy.still : ServoBy c OnlyMoves n n := ⟨rfl, fun _ _ => rfl, onlyMoves_refl _⟩

theorem ServoBy.of_still (h : ServoReads (servoNode n) n → ServoReads (servoNode n) m) : ServoBy c OnlyMoves n m :=
  .before .still (h rfl)

theorem OnlyMoves.trans {u w x : ServoView} (h : OnlyMoves u w) (g : OnlyMoves w x) : OnlyMoves u x := by
  obtain ⟨k, rfl⟩ := h
  obtain ⟨l, rfl⟩ := g
  exact ⟨l, rfl⟩

theorem ServoBy.moves {m k : Node} (h : ServoBy c OnlyMoves n m) (g : ServoBy c OnlyMoves m k) :
    ServoBy c OnlyMoves n k :=
  (h.trans g).mono fun _ _ ⟨_, hx, hy⟩ => hx.trans hy

theorem raiseParity_servoReads {v : ServoNode} {j : Nat} (h : ServoReads v n) : ServoReads v (raiseParity c j n) :=
  servoReads_of_view (par_of_only (raiseParity_only c j n)) (fun x => (raiseParity_latchMay x c j n).servoView_eq) h

theorem refFailed_servoReads {v : ServoNode} (h : ServoReads v n) : ServoReads v (refFailed c n) :=
  raiseWarn_servoReads (onAx_servoReads (fun _ => rfl) h)

theorem endTest_moves : ServoBy c OnlyMoves n (endTest c p n) := by
  have hr : servoView (trackingRead p (getAx c n)).1 = servoView (getAx c n) :=
    trackingRead_stands servoView (fun _ _ => rfl) p _
  have hm : ServoBy c OnlyMoves n (raiseParity c (trackingRead p (getAx c n)).2.2
      (setAx c (trackingRead p (getAx c n)).1 n)) :=
    (servoBy_setAx (hr ▸ onlyMoves_refl _)).before (raiseParity_servoReads rfl)
  exact .ite (hm.moves (servoBy_onAx ⟨_, rfl⟩)) (hm.before (refFailed_servoReads rfl))

theorem beginPhase_servoView (p : AxisParams) (ph : RefState) (a : Axis) :
    servoView (beginPhase p ph a) = servoView a := rfl

theorem phaseArrived_servoReads {v : ServoNode} (h : ServoReads v n) : ServoReads v (phaseArrived c p n) := by
  unfold phaseArrived
  split
  · exact .ite (refFailed_servoReads h) (onAx_servoReads (beginPhase_servoView p _) h)
  · exact refFailed_servoReads h
  · exact refFailed_servoReads h
  · exact onAx_servoReads (fun _ => rfl) h

theorem phaseStopped_moves : ServoBy c OnlyMoves n (phaseStopped c p n) := by
  unfold phaseStopped
  split
  · exact .of_still (onAx_servoReads (beginPhase_servoView p _))
  · exact endTest_moves
  · exact .of_still (onAx_servoReads fun _ => rfl)

theorem refFollow_moves : ServoBy c OnlyMoves n (refFollow c p n) :=
  .ite (.ite phaseStopped_moves (.of_still phaseArrived_servoReads)) .still

theorem moverStep_servoView (v acc : Int) (a : Axis) : servoView (moverStep v acc a) = servoView a := by
  have h := congrArg servoView (moverStep_leaves v acc a)
  exact h

theorem jogDone_servoView (rest : Bool) (a : Axis) : servoView (jogDone rest a) = servoView a := by
  unfold jogDone
  split <;> rfl

theorem jogFollow_servoView (a : Axis) : servoView (jogFollow a) = servoView a := by
  unfold jogFollow
  split <;> rfl

theorem moverCommand_moves (p : AxisParams) (a : Axis) :
    OnlyMoves (servoView a) (servoView (moverCommand p a)) := ⟨_, rfl⟩

theorem jogStep_moves (rest : Bool) (a : Axis) : OnlyMoves (servoView a) (servoView (jogStep p rest a)) := by
  unfold jogStep
  rw [jogDone_servoView]
  split
  · rw [jogFollow_servoView, ← moverStep_servoView (jogVelocity p a) p.jogAcc a]
    exact moverCommand_moves p _
  · exact onlyMoves_refl _

theorem refStep_moves : ServoBy c OnlyMoves n (refStep c p n) := by
  have hm : ServoBy c OnlyMoves n (setAx c (moverCommand p (moverStep (phaseVelocity p (getAx c n).ref) p.jogAcc
      (getAx c n))) n) := by
    refine servoBy_setAx ?_
    rw [← moverStep_servoView (phaseVelocity p (getAx c n).ref) p.jogAcc (getAx c n)]
    exact moverCommand_moves p _
  exact (ServoBy.ite hm .still).moves refFollow_moves

theorem commandStep_moves : ServoBy c OnlyMoves n (commandStep c p n) := by
  have hx {f : Axis → Int} : ServoBy c OnlyMoves n (onAx c (fun a => { a with commanded := f a }) n) :=
    servoBy_onAx ⟨_, rfl⟩
  unfold commandStep
  refine .ite ?_ (.ite ?_ ?_)
  · split
    · exact .of_still (onAx_servoReads (jogDone_servoView _))
    · exact refFollow_moves
    · exact .still
  · have ht : servoView (tracking p (getAx c n)).1 = servoView (getAx c n) :=
      tracking_stands servoView (fun _ _ => rfl) p _
    refine (servoBy_setAx ?_).before (raiseParity_servoReads rfl)
    rw [← ht]
    exact ⟨_, rfl⟩
  · split
    · exact hx
    · exact servoBy_onAx (jogStep_moves _ _)
    · exact refStep_moves
    · exact hx

/-! ### Steps 3 and 4 (R107 to R110) -/

/-- The corrected command formed with a correction: the previous one becomes it after a change of the drive state. -/
def Corrected (u w : ServoView) : Prop :=
  ∃ comp, w = { u with
    lastComp := comp, corrected := u.commanded + comp
    enabled := u.enabled.map fun (changed, prev, command) =>
      (changed, if changed then u.commanded + comp else prev, command) }

theorem correctStep_corrected : ServoBy c Corrected n (correctStep c p n) := by
  refine (servoBy_setAx ?_).before (raiseParity_servoReads rfl)
  have hc {α : Type} (f : Axis → α) (hf : ∀ a comp, f { a with comp := comp } = f a) :
      f (correction p (getAx c n) (getAx c n).commanded).1 = f (getAx c n) := correction_stands f hf p _ _
  refine ⟨(correction p (getAx c n) (getAx c n).commanded).2.1, ?_⟩
  have h := hc servoView fun _ _ => rfl
  simp only [servoView, ServoView.mk.injEq] at h ⊢
  obtain ⟨h1, h2, h3, -, -, h6, -⟩ := h
  refine ⟨h1, h2, h3, trivial, trivial, h6, ?_⟩
  have hd := hc Axis.drive fun _ _ => rfl
  have hg := hc Axis.driveChanged fun _ _ => rfl
  have hk := hc Axis.driveCommand fun _ _ => rfl
  by_cases he : (getAx c n).drive = .enabled <;> simp [enabledView, hd, he, hg, hk, previousFor]

/-- The drive command that the servo forms of a view with a previous corrected command. -/
def servoCommand (p : AxisParams) (u : ServoView) (prev : Int) : Int :=
  clampDrive (truncDiv ((p.kp : Int) * (u.corrected - u.actual) + p.kf * (u.corrected - prev)) 256)

/-- An ENABLED drive takes its command and records the corrected one. -/
def Servoed (p : AxisParams) (u w : ServoView) : Prop :=
  w = { u with enabled := u.enabled.map fun (_, prev, _) => (false, u.corrected, servoCommand p u prev) }

theorem servoOut_servoed (a : Axis) : Servoed p (servoView a) (servoView (servoOut p a)) := by
  unfold servoOut
  split
  next h => simp [Servoed, servoView, enabledView, h, servoCommand, servoRaw]
  next h => simp [Servoed, servoView, enabledView, h]

theorem limitTest_servoReads {v : ServoNode} {side : Side} (h : ServoReads v n) :
    ServoReads v (limitTest c side n) := by
  have hm {b : Bool} : ServoReads v (onAx c (setMark side b) n) := onAx_servoReads (fun _ => by cases side <;> rfl) h
  exact .ite (raiseStop_servoReads hm) (.ite hm h)

theorem servoStep_servoed : ServoBy c (Servoed p) n (servoStep c p n) :=
  (servoBy_setAx (servoOut_servoed _)).before
    (limitTest_servoReads (limitTest_servoReads (.thenIf raiseHold_servoReads (.thenIf raiseStop_servoReads rfl))))

/-! ### The disable point and the whole tick work (R100, R124) -/

/-- An ENABLED drive may be switched off. -/
def MayDisable (u w : ServoView) : Prop := w = u ∨ w = { u with enabled := none }

theorem disableTick_may : ServoBy c MayDisable n (disableTick c n) := by
  have hs : ServoReads (servoNode n) (onAx c stopTimerTick n) :=
    onAx_servoReads (fun a => by unfold stopTimerTick; split <;> rfl) rfl
  refine .after hs ?_
  unfold disableTick
  dsimp only
  split
  next h =>
    refine servoBy_onAx (.inr ?_)
    rw [setDrive_servoView _ _ _ (by rw [h.1]; decide)]
    rfl
  next => exact ⟨rfl, fun _ _ => rfl, .inl rfl⟩

/-- The previous corrected command that a tick's servo work takes: the one before the tick, moved with the axis, of a
drive that was ENABLED with the change of its state over; otherwise the present one. -/
def previousAt (u w : ServoView) : Int :=
  match u.enabled with
  | some (false, prev, _) => prev + u.markShift
  | _ => w.corrected

/-- What the tick work gives a used channel. -/
structure ServoTaken (p : AxisParams) (u w : ServoView) : Prop where
  count : w.count = u.count
  actual : w.actual = actualOf p u.count
  corrected : w.corrected = w.commanded + w.lastComp
  enabled : ∀ x, w.enabled = some x → x = (false, w.corrected, servoCommand p w (previousAt u w))

/-- A drive that is switched off at the tick's end has no output to speak of. -/
theorem ServoTaken.mayDisable {u f w : ServoView} (h : ServoTaken p u f) (g : MayDisable f w) : ServoTaken p u w := by
  rcases g with rfl | rfl
  · exact h
  · exact ⟨h.count, h.actual, h.corrected, fun _ hx => nomatch hx⟩

/-- The view after steps 3 and 4 of one that step 2 leaves. -/
def servoedView (p : AxisParams) (b : ServoView) (k comp : Int) : ServoView :=
  { b with
    commanded := k, lastComp := comp, corrected := k + comp
    enabled := b.enabled.map fun (changed, prev, _) =>
      (false, k + comp, servoCommand p { b with corrected := k + comp } (if changed then k + comp else prev)) }

theorem servoedView_of_steps {b d e f : ServoView} (h2 : OnlyMoves b d) (h3 : Corrected d e) (h4 : Servoed p e f) :
    ∃ k comp, f = servoedView p b k comp := by
  obtain ⟨k, rfl⟩ := h2
  obtain ⟨comp, rfl⟩ := h3
  refine ⟨k, comp, ?_⟩
  rw [Servoed] at h4
  subst h4
  cases h : b.enabled <;> simp [servoedView, h, servoCommand]

theorem servoedView_taken {u a b : ServoView} (h0 : Driven u a) (h1 : ActualFormed p a b) (k comp : Int) :
    ServoTaken p u (servoedView p b k comp) := by
  obtain ⟨hac, has, hae⟩ := h0
  obtain ⟨hbc, hba, hbe⟩ := h1
  refine ⟨hbc.trans hac, hba.trans (by rw [hac]), rfl, fun x hx => ?_⟩
  rcases hae with he | he | ⟨hu, q, j, he⟩
  · cases hu : u.enabled with
    | none => simp [servoedView, hbe, he, hu] at hx
    | some y =>
      obtain ⟨changed, prev, command⟩ := y
      cases changed <;> simp [servoedView, hbe, he, hu, has] at hx <;>
        simp [← hx, previousAt, hu, servoCommand, servoedView]
  · simp [servoedView, hbe, he] at hx
  · simp [servoedView, hbe, he] at hx
    simp [← hx, previousAt, hu, servoCommand, servoedView]

theorem axisTick_taken : ServoBy c (ServoTaken p) n (axisTick c p n) := by
  have hr {m : Node} : ServoReads (servoNode m) (switchTick c (clampTick c p m)) :=
    switchTick_servoReads (clampTick_servoReads rfl)
  have hd : ServoBy c Driven n (switchTick c (clampTick c p (driveTick c p n))) := driveTick_driven.before hr
  have ha (m : Node) : ServoBy c (ActualFormed p) m
      (onAx c (fun a => takeShift { a with actual := actualOf p a.count }) m) := servoBy_onAx (takeShift_formed p _)
  have hl (was : Bool) (m : Node) : ServoReads (servoNode m)
      (onAx c (fun a => jogRecentTick was { a with prevCommanded := a.commanded }) m) :=
    onAx_servoReads (fun _ => rfl) rfl
  have hall := (((((hd.trans (ha _)).trans (commandStep_moves (p := p))).trans (correctStep_corrected (p := p))).trans
    (servoStep_servoed (p := p))).trans disableTick_may).before (hl ((getAx c n).motion == .jog) _)
  refine hall.mono fun u w ⟨_, ⟨_, ⟨_, ⟨_, ⟨_, h0, h1⟩, h2⟩, h3⟩, h4⟩, h5⟩ => ?_
  obtain ⟨k, comp, rfl⟩ := servoedView_of_steps h2 h3 h4
  exact (servoedView_taken h0 h1 k comp).mayDisable h5

/-- A used channel at the tick work of both. -/
theorem forAxes_taken (hp : axParams c n = some p) :
    ServoTaken p (servoView (getAx c n)) (servoView (getAx c (forAxes axisTick n))) := by
  have used {d : Chan} {m : Node} (h : d ≠ c) : (onUsed axisTick d m).par = m.par ∧
      servoView (getAx c (onUsed axisTick d m)) = servoView (getAx c m) := by
    refine onUsed_induct (P := fun t => t.par = m.par ∧ servoView (getAx c t) = servoView (getAx c m)) ⟨rfl, rfl⟩ ?_
    exact fun q => ⟨axisTick_taken.par, axisTick_taken.other c h.symm⟩
  rw [forAxes_eq]
  cases c with
  | ax0 =>
    rw [(used (by simp)).2, onUsed_some hp]
    exact axisTick_taken.own
  | ax1 =>
    have h0 := used (d := .ax0) (m := n) (by simp)
    rw [onUsed_some ((axParams_of_par h0.1 _).trans hp), ← h0.2]
    exact axisTick_taken.own

/-- A used channel at a motion tick. -/
theorem motionTick_taken {inputs : Pins} {s : State} {c : Chan} {p : AxisParams} (hs : s.node.su.start = .configured)
    (hp : axParams c s.node = some p) : completes (.motionTick inputs) s fun t =>
      ServoTaken p (servoView (getAx c s.node)) (servoView (getAx c t)) := by
  refine completes_answer rfl ?_
  have hw : motionTick inputs s.node = tickTail (adoptionTest (stopEndTest (tickWork inputs s.node))) := by
    rw [motionTick, hs]
    exact finish_workTick inputs s.node
  have hb : ServoReads (servoNode s.node) (tickPath (tickRequests (tickHead (tickInputs (tickStart inputs s.node))))) :=
    tickBefore_servoReads rfl
  have hm : ServoReads (servoNode (forAxes axisTick (tickPath (tickRequests (tickHead (tickInputs (tickStart inputs
      s.node))))))) (tickWork inputs s.node) := coolantTick_servoReads (spindleTick_servoReads rfl)
  rw [hw, (tickTail_servoReads hm).view c, ← hb.view c]
  exact forAxes_taken ((axParams_of_par hb.par c).trans hp)

end

end Sys2Proof.Machine
end

section
/-! PROOF. O11: the encoder count and the actual position (R101). -/

namespace Sys2Proof.Machine

-- The text is checked as one file under a data limit that many waiting threads would exceed.
set_option Elab.async false

theorem countEdge_count (up : Bool) (a : Axis) :
    (countEdge up a).count = (BitVec.ofInt 48 (a.count + (if up then 1 else -1))).toInt := by
  cases up <;> rfl

/-- The actual position is the count × num / den, rounded down and clamped to the signed 32-bit range. -/
theorem actualOf_eq (p : AxisParams) (count : Int) :
    actualOf p count = max (-2147483648) (min 2147483647 ((count * p.num) / (p.den : Int))) := by
  rw [actualOf, clamp32, clampInt_eq (by decide), floorDiv, Int.fdiv_eq_ediv_of_nonneg _ (Int.natCast_nonneg _)]
  rfl

theorem actualOf_quarter {p : AxisParams} (hn : p.num = 1) (hd : p.den = 4) :
    actualOf p 400003 = 100000 ∧ actualOf p (-5) = -2 := by
  rw [actualOf_eq, actualOf_eq, hn, hd]
  decide

theorem markEdge_outside {a : Axis} (p : AxisParams) (h : a.motion ≠ .reference) : markEdge p a = a :=
  if_neg fun hm => h hm.1

theorem onAx_of_same {c : Chan} {f : Axis → Axis} {n : Node} (h : f (getAx c n) = getAx c n) : onAx c f n = n := by
  rw [onAx, h]
  cases c <;> rfl

/-- A mark outside a reference sequence. -/
theorem markEdge_leaves {c : Chan} {s : State} (hl : loaded s.node = true)
    (h : (getAx c s.node).motion ≠ .reference) :
    completes (.markEdge c) s fun t => getAx c t = getAx c s.node ∧ onlyChanges [] s.node t := by
  have hf : getAx c (finish s.node) = getAx c s.node ∧ onlyChanges [] s.node (finish s.node) :=
    ⟨finish_ax c s.node, finish_only s.node⟩
  refine completes_live (f := fun n => match axParams c n with | some p => onAx c (markEdge p) n | none => n) rfl hl ?_
  cases hp : axParams c s.node with
  | none => simpa only [hp] using hf
  | some p => simpa only [hp, onAx_of_same (markEdge_outside p h)] using hf

/-- Settles O11: the tick's channels find the count as the tick does, and the work before and after leaves them. -/
theorem encoderCountAndActualPosition : Obligations.EncoderCountAndActualPosition := by
  refine ⟨fun c up s hl hu => ?_, fun c inputs s p hs hp => ?_, fun _ => actualOf_quarter, fun _ _ => markEdge_leaves⟩
  · obtain ⟨p, hp⟩ := Option.isSome_iff_exists.1 hu
    refine completes_axEvent_at rfl hl hp ?_
    obtain ⟨ha, ho⟩ := finish_onAx c (countEdge up) s.node
    exact ⟨(congrArg Axis.count ha).trans (countEdge_count ..), congrArg (fun a => { a with count := 0 }) ha, ho⟩
  · obtain ⟨t, he, hq, h⟩ := motionTick_taken (inputs := inputs) hs hp
    exact ⟨t, he, hq, h.count, h.actual.trans (actualOf_eq ..)⟩

end Sys2Proof.Machine
end

section
/-! PROOF. O16: the correction, the servo output and its runs (R103, R107 to R112, R182). -/

namespace Sys2Proof.Machine

-- The text is checked as one file under a data limit that many waiting threads would exceed.
set_option Elab.async false

/-! ### The count of a condition that a reaction does not raise (R182) -/

/-- The fault count of a condition is `k`. -/
def CountIs (x : Cond) (k : Nat) (n : Node) : Prop := n.cu.counts.getD (condNumber x) 0 = k

section
variable {x c : Cond} {k : Nat} {n m : Node}

theorem CountIs.ite {q : Prop} [Decidable q] (h : CountIs x k n) (g : CountIs x k m) :
    CountIs x k (if q then n else m) := by
  split
  · exact h
  · exact g

theorem noteRaise_countIs (hc : x ≠ c) (d : Byte) (h : CountIs x k n) : CountIs x k (noteRaise c d n) :=
  (raisedCU_count_other c d n.pg.tick (runningBlock n) n.cu fun hi => hc (condNumber_inj hi)).trans h

section
variable (hx : x ≠ .txqOverflow)
include hx

theorem raiseOverflow_countIs (h : CountIs x k n) : CountIs x k (raiseOverflow n) := by
  have hn : CountIs x k (noteRaise .txqOverflow 0 n) := noteRaise_countIs hx 0 h
  exact .ite (.ite (noteRaise_countIs hx 0 (n := (requestFault (noteRaise .txqOverflow 0 n)).1) hn) hn) hn

theorem ask_countIs (p : Payload) (h : CountIs x k n) : CountIs x k (ask p n) :=
  .ite (raiseOverflow_countIs hx (n := (enqueueAt p false n).1) h) h

theorem raiseCommon_countIs (hc : x ≠ c) (d : Byte) (h : CountIs x k n) : CountIs x k (raiseCommon c d n) := by
  have hn : CountIs x k (noteRaise c d n) := noteRaise_countIs hc d h
  have hf : CountIs x k (askFault (noteRaise c d n)) :=
    .ite (raiseOverflow_countIs hx (n := (requestFault (noteRaise c d n)).1) hn) hn
  exact .ite hf hn

/-- A reaction that does not raise a condition leaves its count. -/
theorem Acts.countIs {as : List Act} (g : Acts as n m) (hr : Act.raise x ∉ as) (h : CountIs x k n) :
    CountIs x k m := by
  induction g with
  | refl => exact h
  | unit _ u ih => exact (congrArg (fun cu : CU => cu.counts.getD (condNumber x) 0) u.cu).trans ih
  | raise d _ hm ih => exact raiseCommon_countIs hx (fun hc => hr (hc ▸ hm)) d ih
  | clear _ _ ih => exact .ite ih ih
  | held _ _ ih => exact .ite (ask_countIs hx _ ih) ih
  | clampAsk _ _ ih => exact ask_countIs hx (n := withdrawPending _ _) _ ih
  | verdicts num _ _ ih => exact ih
  | @owe m _ _ ih => exact .ite (ask_countIs hx (n := { m with cu := { m.cu with owed := true } }) _ ih) ih
  | latch _ _ ih => exact ih

end

end

/-! ### The correction and the tracking position (R107, R108, R112) -/

section
variable {p : AxisParams} {a : Axis} {seg : Nat} {c : Int}

theorem correction_none (h : a.referenced = false ∨ p.seg = none) : (correction p a c).2.1 = 0 := by
  rcases h with h | h
  · simp [correction, h]
  · unfold correction
    split
    · simp [correctionRead, h]
    · rfl

theorem correction_passed (hr : a.referenced = true) (hs : p.seg = some seg)
    (hb : parityFailures a (cellEntries a (compCell seg a (c - p.compOrigin))) = []) :
    (correction p a c).2.1 = correctionAt seg a (c - p.compOrigin) := by
  simp [correction, hr, correctionRead, hs, hb]

theorem correction_failed (hr : a.referenced = true) (hs : p.seg = some seg)
    (hb : parityFailures a (cellEntries a (compCell seg a (c - p.compOrigin))) ≠ []) :
    (correction p a c).2.1 = a.lastComp ∧ (correction p a c).2.2 ≠ 0 := by
  simp [correction, hr, correctionRead, hs, hb]

theorem correctionAt_below {x : Int} (h : x < 0) : correctionAt seg a x = compValue 0 a := if_pos h

theorem correctionAt_beyond {x : Int} (h : ((compLast a * seg : Nat) : Int) ≤ x) :
    correctionAt seg a x = compValue (compLast a) a := by
  rw [correctionAt, if_neg (by omega), if_pos (by exact_mod_cast h)]

/-- Between two entries of the map the correction is interpolated. -/
theorem correctionAt_within {x : Int} {i : Nat} (hi : i < compLast a) (hl : ((i * seg : Nat) : Int) ≤ x)
    (hu : x < (((i + 1) * seg : Nat) : Int)) : correctionAt seg a x = compValue i a +
      Int.tdiv ((compValue (i + 1) a - compValue i a) * (x - ((i * seg : Nat) : Int))) seg := by
  have h0 : ¬x < 0 := by omega
  have hlast : ¬(compLast a : Int) * seg ≤ x := by
    have hm : (i + 1) * seg ≤ compLast a * seg := Nat.mul_le_mul_right seg hi
    have hc : ((compLast a * seg : Nat) : Int) = (compLast a : Int) * seg := by push_cast; rfl
    omega
  have hd : x.toNat / seg = i := Nat.div_eq_of_lt_le (by omega) (by omega)
  rw [correctionAt, if_neg h0, if_neg hlast]
  dsimp only
  rw [hd, truncDiv]
  push_cast
  rfl

theorem tracking_position : (tracking p a).2.1 = if a.referenced then
    clampInt p.winLow p.winHigh (a.actual - (correction p a a.actual).2.1) else a.actual := by
  cases h : a.referenced <;> simp [tracking, trackingRead, correction, h]

end

/-! ### Step 3 (R107 to R109) -/

section
variable (c : Chan) (p : AxisParams) (n : Node)

theorem correctStep_fields :
    (getAx c (correctStep c p n)).commanded = (getAx c n).commanded ∧
    (getAx c (correctStep c p n)).corrected =
      (getAx c n).commanded + (correction p (getAx c n) (getAx c n).commanded).2.1 ∧
    (getAx c (correctStep c p n)).lastComp = (correction p (getAx c n) (getAx c n).commanded).2.1 := by
  have h {α : Type} (f : Axis → α) (hf : ∀ a, f (latchedOff a) = f a) := by
    have := (raiseParity_latchMay c c (correction p (getAx c n) (getAx c n).commanded).2.2
      (setAx c { (correction p (getAx c n) (getAx c n).commanded).1 with
        lastComp := (correction p (getAx c n) (getAx c n).commanded).2.1
        corrected := (getAx c n).commanded + (correction p (getAx c n) (getAx c n).commanded).2.1
        prevCorrected := previousFor ((getAx c n).commanded + (correction p (getAx c n) (getAx c n).commanded).2.1)
          (getAx c n) } n)).stands f (hf _)
    rwa [getAx_setAx] at this
  exact ⟨(h Axis.commanded fun _ => rfl).trans (correction_stands Axis.commanded (fun _ _ => rfl) p _ _),
    h Axis.corrected fun _ => rfl, h Axis.lastComp fun _ => rfl⟩

/-- Where a parity test fails the correction of the previous tick stands, and the machine stops. -/
theorem correctStep_failed {seg : Nat} (hr : (getAx c n).referenced = true) (hs : p.seg = some seg)
    (hb : parityFailures (getAx c n)
      (cellEntries (getAx c n) (compCell seg (getAx c n) ((getAx c n).commanded - p.compOrigin))) ≠ []) :
    (getAx c (correctStep c p n)).corrected = (getAx c n).commanded + (getAx c n).lastComp ∧
    condIn .compParity (correctStep c p n).cu.own = true ∧ (correctStep c p n).cu.stopped = true := by
  obtain ⟨hv, hk⟩ := correction_failed hr hs hb
  exact ⟨(correctStep_fields c p n).2.1.trans (by rw [hv]), raiseParity_raises c hk _⟩

end

/-! ### Step 4 (R109, R110) -/

section
variable {p : AxisParams} {a : Axis}

theorem clampDrive_eq (x : Int) : clampDrive x = max (-32767) (min 32767 x) := clampInt_eq (by decide) x

theorem saturates_iff : saturates p a = true ↔ servoRaw p a < -32767 ∨ 32767 < servoRaw p a := by
  rw [saturates, bne_iff_ne, clampDrive_eq]
  omega

theorem lags_iff : lags p a = true ↔ p.followLimit < (a.corrected - a.actual).natAbs := by simp [lags]

theorem runCount_of_iff {limit k : Nat} {hit : Bool} {q : Prop} [Decidable q] (h : hit = true ↔ q) :
    runCount limit hit k = if q then min (k + 1) limit else 0 := by simp [runCount, h]

/-- A run reaches its limit at the tick that follows one at which it stands one below. -/
theorem runCount_reaches {limit k : Nat} {hit : Bool} (hl : 0 < limit) :
    (k < limit ∧ runCount limit hit k = limit) ↔ (hit = true ∧ k + 1 = limit) := by
  cases hit <;> simp [runCount] <;> omega

theorem servoOut_enabled (h : a.drive = .enabled) : servoOut p a =
    { a with driveCommand := clampDrive (servoRaw p a), prevCorrected := a.corrected, driveChanged := false,
             satRun := runCount 50 (saturates p a) a.satRun, followRun := runCount 4 (lags p a) a.followRun } := if_pos h

theorem servoOut_off (h : a.drive ≠ .enabled) : servoOut p a =
    { a with driveCommand := 0, driveChanged := false, satRun := 0, followRun := 0 } := if_neg h

end

/-- The node after the test of the following run, which may raise FOLLOW_ERROR. -/
def followTested (c : Chan) (p : AxisParams) (n : Node) : Node :=
  if (getAx c n).followRun < 4 ∧ (servoOut p (getAx c n)).followRun = 4 then
    raiseStop .followError (chanNumber c) (setAx c (servoOut p (getAx c n)) n)
  else setAx c (servoOut p (getAx c n)) n

/-- The node after the test of the saturation run, which may raise DRIVE_SATURATED. -/
def satTested (c : Chan) (p : AxisParams) (n : Node) : Node :=
  if (getAx c n).satRun < 50 ∧ (servoOut p (getAx c n)).satRun = 50 then
    raiseHold .driveSaturated (chanNumber c) (followTested c p n)
  else followTested c p n

theorem servoStep_eq (c : Chan) (p : AxisParams) (n : Node) :
    servoStep c p n = limitTest c .minus (limitTest c .plus (satTested c p n)) := rfl

theorem limitTest_acts (c : Chan) (side : Side) (n : Node) : Acts (stopActs .hardLimit) n (limitTest c side n) := by
  have ho (b : Bool) : Acts (stopActs .hardLimit) n (onAx c (setMark side b) n) :=
    .ofUnit (onAx_unit c _ n (setMark_frames side b))
  exact .ite ((ho true).trans (raiseStop_acts _ _ _)) (.ite (ho false) .refl)

/-- The tests of both limit inputs. -/
theorem limitTests_acts (c : Chan) (n : Node) :
    Acts (stopActs .hardLimit) n (limitTest c .minus (limitTest c .plus n)) :=
  (limitTest_acts c .plus n).trans (limitTest_acts c .minus _)

section
variable {c : Chan} {p : AxisParams} {n : Node}

theorem servoSet_acts {as : List Act} : Acts as n (setAx c (servoOut p (getAx c n)) n) :=
  .ofUnit (setAx_unit c _ n (servoOut_frames p _))

theorem followTested_acts : Acts (stopActs .followError) n (followTested c p n) :=
  .ite (servoSet_acts.trans (raiseStop_acts _ _ _)) servoSet_acts

theorem satTested_acts : Acts [.raise .driveSaturated, .held] (followTested c p n) (satTested c p n) :=
  .ite (raiseHold_acts _ _ _) .refl

/-- What may follow the test of the following run. -/
abbrev afterFollowActs : List Act := .raise .driveSaturated :: .held :: stopActs .hardLimit

theorem afterFollow_acts : Acts afterFollowActs (followTested c p n) (servoStep c p n) :=
  (satTested_acts.mono (by simp)).andThen (limitTests_acts c _)

/-! ### The channel after step 4 -/

/-- What limit marks and latch leave of a channel that step 4 has written. -/
theorem servoStep_keeps {P : Axis → Prop} (hm : ∀ side b x, P x → P (setMark side b x))
    (hl : ∀ x y, LatchMay x y → P x → P y) (h : P (servoOut p (getAx c n))) : P (getAx c (servoStep c p n)) := by
  have hlimit {side : Side} {k : Node} (hk : P (getAx c k)) : P (getAx c (limitTest c side k)) := by
    have ho {b : Bool} : P (getAx c (onAx c (setMark side b) k)) := by
      rw [getAx_onAx]
      exact hm _ _ _ hk
    unfold limitTest
    dsimp only
    split_ifs
    · exact hl _ _ (raiseStop_latchMay c _ _ _) ho
    · exact ho
    · exact hk
  have hset : P (getAx c (setAx c (servoOut p (getAx c n)) n)) := by rwa [getAx_setAx]
  have hf : P (getAx c (followTested c p n)) := by
    unfold followTested
    split
    · exact hl _ _ (raiseStop_latchMay c _ _ _) hset
    · exact hset
  have hs : P (getAx c (satTested c p n)) := by
    unfold satTested
    split
    · rwa [getAx_of_only (raiseHold_only _ _ _) (by cases c <;> decide)]
    · exact hf
  exact hlimit (hlimit hs)

/-- The channel after step 4, where its drive is ENABLED. -/
theorem servoStep_enabled (h : (getAx c n).drive = .enabled) :
    (getAx c (servoStep c p n)).drive = .enabled ∧
    (getAx c (servoStep c p n)).driveCommand = clampDrive (servoRaw p (getAx c n)) ∧
    (getAx c (servoStep c p n)).prevCorrected = (getAx c n).corrected ∧
    (getAx c (servoStep c p n)).satRun = runCount 50 (saturates p (getAx c n)) (getAx c n).satRun ∧
    (getAx c (servoStep c p n)).followRun = runCount 4 (lags p (getAx c n)) (getAx c n).followRun := by
  refine servoStep_keeps (P := fun x => x.drive = .enabled ∧ x.driveCommand = clampDrive (servoRaw p (getAx c n)) ∧
    x.prevCorrected = (getAx c n).corrected ∧ x.satRun = runCount 50 (saturates p (getAx c n)) (getAx c n).satRun ∧
    x.followRun = runCount 4 (lags p (getAx c n)) (getAx c n).followRun) ?_ ?_ ?_
  · intro side b x hx
    cases side <;> exact hx
  · intro x y hxy hx
    rwa [hxy.eq (by simp [hx.1])]
  · rw [servoOut_enabled h]
    exact ⟨h, rfl, rfl, rfl, rfl⟩

/-- In every other drive state command and runs are 0. -/
theorem servoStep_off (h : (getAx c n).drive ≠ .enabled) :
    (getAx c (servoStep c p n)).driveCommand = 0 ∧ (getAx c (servoStep c p n)).satRun = 0 ∧
    (getAx c (servoStep c p n)).followRun = 0 := by
  refine servoStep_keeps (P := fun x => x.driveCommand = 0 ∧ x.satRun = 0 ∧ x.followRun = 0) ?_ ?_ ?_
  · intro side b x hx
    cases side <;> exact hx
  · rintro x y (rfl | ⟨-, rfl⟩) hx
    · exact hx
    · exact ⟨rfl, rfl, rfl⟩
  · rw [servoOut_off h]
    exact ⟨rfl, rfl, rfl⟩

/-! ### FOLLOW_ERROR (R110) -/

theorem followTested_raises (h : (getAx c n).drive = .enabled) (hl : lags p (getAx c n) = true)
    (h3 : (getAx c n).followRun = 3) :
    followTested c p n = raiseStop .followError (chanNumber c) (setAx c (servoOut p (getAx c n)) n) := by
  refine if_pos ?_
  rw [servoOut_enabled h]
  exact (runCount_reaches (by decide)).2 ⟨hl, by omega⟩

theorem followTested_passes (h : (getAx c n).drive = .enabled)
    (hl : ¬(lags p (getAx c n) = true ∧ (getAx c n).followRun = 3)) :
    followTested c p n = setAx c (servoOut p (getAx c n)) n := by
  refine if_neg fun hr => hl ?_
  rw [servoOut_enabled h] at hr
  exact ((runCount_reaches (by decide)).1 hr).imp_right fun h3 => by omega

theorem followError_raised (h : (getAx c n).drive = .enabled) (hl : lags p (getAx c n) = true)
    (h3 : (getAx c n).followRun = 3) :
    condIn .followError (servoStep c p n).cu.own = true ∧ (servoStep c p n).cu.stopped = true ∧
    (n.cu.record = none → (servoStep c p n).cu.record =
      some { cond := .followError, tick := n.pg.tick, running := runningBlock n, detail := chanNumber c }) := by
  have ha := afterFollow_acts (c := c) (p := p) (n := n)
  rw [followTested_raises h hl h3] at ha
  refine ⟨?_, ha.latched (raiseStop_latched _ _ _), fun hr => ?_⟩
  · rw [ha.condIn (by decide) (by decide) (by decide)]
    exact raiseStop_condIn_of_stop _ _ rfl
  · have hrec := raiseStop_recorded (n := setAx c (servoOut p (getAx c n)) n) .followError (chanNumber c)
      (by rwa [setAx_cu]) rfl
    have hs : runningBlock (setAx c (servoOut p (getAx c n)) n) = runningBlock n := by simp [runningBlock]
    rw [setAx_pg, hs] at hrec
    exact (ha.recorded hrec).1

theorem followError_count (h : (getAx c n).drive = .enabled)
    (hl : ¬(lags p (getAx c n) = true ∧ (getAx c n).followRun = 3)) :
    (servoStep c p n).cu.counts.getD (condNumber .followError) 0 = n.cu.counts.getD (condNumber .followError) 0 := by
  have ha := afterFollow_acts (c := c) (p := p) (n := n)
  rw [followTested_passes h hl] at ha
  exact (servoSet_acts.trans ha).countIs (by decide) (by decide) rfl

/-! ### DRIVE_SATURATED (R109) -/

theorem satTested_raises (h : (getAx c n).drive = .enabled) (hs : saturates p (getAx c n) = true)
    (h49 : (getAx c n).satRun = 49) :
    satTested c p n = raiseHold .driveSaturated (chanNumber c) (followTested c p n) := by
  refine if_pos ?_
  rw [servoOut_enabled h]
  exact (runCount_reaches (by decide)).2 ⟨hs, by omega⟩

theorem satTested_passes (h : (getAx c n).drive = .enabled)
    (hs : ¬(saturates p (getAx c n) = true ∧ (getAx c n).satRun = 49)) : satTested c p n = followTested c p n := by
  refine if_neg fun hr => hs ?_
  rw [servoOut_enabled h] at hr
  exact ((runCount_reaches (by decide)).1 hr).imp_right fun h49 => by omega

theorem raiseHold_record {x : Cond} (d : Byte) (hx : classRank x ≤ classRank .txqOverflow) (h : n.cu.record = none) :
    (raiseHold x d n).cu.record =
      some { cond := x, tick := n.pg.tick, running := runningBlock n, detail := d } := by
  have hw : writesRecord x n.cu = true := by simp [writesRecord, h]
  refine heldTest_record (by exact hx) ?_
  simp only [raiseCommon, hw, if_true]
  exact askFault_record (by exact hx) (by simp [noteRaise, raisedCU, hw])

theorem limitTests_inactive_cu (hp : (axPins c n.pins).limPlus = false) (hm : (axPins c n.pins).limMinus = false) :
    (limitTest c .minus (limitTest c .plus n)).cu = n.cu := by
  have hplus : limitTest c .plus n = onAx c (setMark .plus false) n := limitTest_clears hp
  have hminus : limitTest c .minus (onAx c (setMark .plus false) n) =
      onAx c (setMark .minus false) (onAx c (setMark .plus false) n) :=
    limitTest_clears (by rw [onAx, setAx_pins]; exact hm)
  rw [hplus, hminus]
  simp [onAx]

theorem driveSaturated_raised (h : (getAx c n).drive = .enabled) (hs : saturates p (getAx c n) = true)
    (h49 : (getAx c n).satRun = 49) :
    condIn .driveSaturated (servoStep c p n).cu.own = true ∧
    ((getAx c n).followRun ≠ 3 → n.cu.record = none → (axPins c n.pins).limPlus = false →
      (axPins c n.pins).limMinus = false → (servoStep c p n).cu.record =
        some { cond := .driveSaturated, tick := n.pg.tick, running := runningBlock n, detail := chanNumber c }) := by
  rw [servoStep_eq, satTested_raises h hs h49]
  refine ⟨?_, fun h3 hr hp hm => ?_⟩
  · rw [(limitTests_acts c _).condIn (by decide) (by decide) (by decide), raiseHold_condIn _ _ _ (by decide)]
    simp
  · rw [followTested_passes h fun hl => h3 hl.2]
    have hpins := pins_of_only (raiseHold_only .driveSaturated (chanNumber c) (setAx c (servoOut p (getAx c n)) n))
    rw [setAx_pins] at hpins
    rw [limitTests_inactive_cu (by rwa [hpins]) (by rwa [hpins]), raiseHold_record _ (by decide) (by rwa [setAx_cu])]
    simp [runningBlock]

theorem driveSaturated_count (h : (getAx c n).drive = .enabled)
    (hs : ¬(saturates p (getAx c n) = true ∧ (getAx c n).satRun = 49)) :
    (servoStep c p n).cu.counts.getD (condNumber .driveSaturated) 0 =
      n.cu.counts.getD (condNumber .driveSaturated) 0 := by
  rw [servoStep_eq, satTested_passes h hs]
  have hf : CountIs .driveSaturated (n.cu.counts.getD (condNumber .driveSaturated) 0) (followTested c p n) :=
    followTested_acts.countIs (by decide) (by decide) rfl
  exact (limitTests_acts c _).countIs (by decide) (by decide) hf

end

/-! ### A change of the drive state (R109, R111) -/

theorem setDrive_changes (rest : Bool) {d : DriveState} {a : Axis} (h : a.drive ≠ d) :
    (setDrive rest d a).drive = d ∧ (setDrive rest d a).prevCorrected = a.corrected ∧
    (setDrive rest d a).driveChanged = true ∧ (setDrive rest d a).driveCommand = 0 ∧
    (setDrive rest d a).satRun = 0 ∧ (setDrive rest d a).followRun = 0 := by
  simp [setDrive, h]

/-! ### The tick (R109) -/

theorem previousAt_servoView (a x : Axis) : previousAt (servoView a) (servoView x) =
    if a.drive = .enabled ∧ a.driveChanged = false then a.prevCorrected + a.markShift else x.corrected := by
  by_cases hd : a.drive = .enabled
  · cases hc : a.driveChanged <;> simp [previousAt, servoView, enabledView, hd, hc]
  · simp [previousAt, servoView, enabledView, hd]

/-- An ENABLED drive after a motion tick. -/
theorem ServoTaken.of_enabled {p : AxisParams} {a x : Axis} (h : ServoTaken p (servoView a) (servoView x))
    (hx : x.drive = .enabled) :
    x.corrected = x.commanded + x.lastComp ∧ x.prevCorrected = x.corrected ∧ x.driveChanged = false ∧
    x.driveCommand = max (-32767) (min 32767 (Int.tdiv (p.kp * (x.corrected - x.actual) + p.kf *
      (if a.drive = .enabled ∧ a.driveChanged = false then x.corrected - a.prevCorrected - a.markShift else 0)) 256)) := by
  have he := h.enabled _ (enabledView_some hx)
  simp only [Prod.mk.injEq] at he
  obtain ⟨hc, hp, hd⟩ := he
  refine ⟨h.corrected, hp, hc, hd.trans ?_⟩
  have hdcc : x.corrected - previousAt (servoView a) (servoView x) =
      if a.drive = .enabled ∧ a.driveChanged = false then x.corrected - a.prevCorrected - a.markShift else 0 := by
    rw [previousAt_servoView]
    split <;> omega
  rw [servoCommand, clampDrive_eq, ← hdcc]
  rfl

/-- Settles O16: steps 3 and 4 one by one, and the tick as their succession. -/
theorem correctionAndServoOutput : Obligations.CorrectionAndServoOutput := by
  refine ⟨fun p a c => ⟨correction_none, fun seg hr hs _ hb => ?_, tracking_position⟩, fun c p n => ?_,
    fun c p n _ => ⟨fun h => ?_, servoStep_off⟩, by decide, by decide, fun rest d a => setDrive_changes rest,
    fun c inputs s p hs hp => ?_⟩
  · rw [correction_passed hr hs hb]
    exact ⟨correctionAt_below, correctionAt_beyond, fun i => correctionAt_within⟩
  · obtain ⟨hm, hc, hl⟩ := correctStep_fields c p n
    exact ⟨hm, hc, hl, fun seg => correctStep_failed c p n⟩
  · obtain ⟨hd, hc, hp, hs, hf⟩ := servoStep_enabled (p := p) h
    refine ⟨hd, hc.trans (clampDrive_eq _), hp, hs.trans (runCount_of_iff saturates_iff),
      hf.trans (runCount_of_iff lags_iff), fun hl h3 => ?_, fun hl => followError_count h ?_, fun ho h49 => ?_,
      fun ho => driveSaturated_count h ?_⟩
    · obtain ⟨hown, hstop, hrec⟩ := followError_raised h (lags_iff.2 hl) h3
      exact ⟨hown, hstop, fun hr => (hrec hr).trans (by cases c <;> rfl)⟩
    · rintro ⟨hb, h3⟩
      have := lags_iff.1 hb
      omega
    · obtain ⟨hown, hrec⟩ := driveSaturated_raised h (saturates_iff.2 ho) h49
      exact ⟨hown, fun h3 hr hlp hlm => (hrec h3 hr hlp hlm).trans (by cases c <;> rfl)⟩
    · rintro ⟨hb, h49⟩
      have hout := saturates_iff.1 hb
      unfold servoRaw truncDiv at hout
      omega
  · obtain ⟨t, he, hq, h⟩ := motionTick_taken (inputs := inputs) hs hp
    exact ⟨t, he, hq, h.of_enabled⟩

end Sys2Proof.Machine
end
